-- ==== Sys2Proof/Word.lean ====
section
/-! DEFINITION. The word types of the part and their plainest arithmetic.

A bit vector stands where the manual adds, masks or wraps bits: the bytes of frames and pages, the 16-bit
check, junction ids and vehicle numbers (they are combined by exclusive-or, R99), track positions (signed
32-bit values that wrap, R15). Speeds, counts, times and percentages are plain numbers (Table 0-4). -/

namespace Sys2Proof

/-- One byte of a frame or a page. -/
abbrev Byte := BitVec 8

/-- A 16-bit value: a check, a junction id, a vehicle number, a two-byte field. -/
abbrev Half := BitVec 16

/-- A published track position in mm, a signed 32-bit value (R15). -/
abbrev Pos := BitVec 32

end Sys2Proof
end

