-- ==== Sys2Proof/Syntax.lean ====
section
/-! DEFINITION. The commands of the part: one constructor of `Instr` for each row of spec/opcode_table.json,
with its operands.

Every command but LINK_FRAME carries `t`, the moment at which it is taken, in µs on the part's one time base
(assumption 1); LINK_FRAME carries the moment of each of its bytes. A command for a debounced input carries
`stood`, the time in ms for which the input has stood at its new level without a break (assumption 3). A
command of the cab link carries the TAG of its frame and the fields of its payload. -/

namespace Sys2Proof

/-- The two axles of the cab bogie: A is motored, B is a trailer (Chapter 1). -/
inductive Axle where
  | A
  | B
deriving DecidableEq, Repr

/-- The way the tram is to take a junction (Table 0-3). -/
inductive Selection where
  | left
  | straight
  | right
deriving DecidableEq, Repr

/-- The side of a door (Chapter 8). -/
inductive Side where
  | left
  | right
deriving DecidableEq, Repr

/-- The tone channels (Chapter 9). -/
inductive ChannelId where
  | bell
  | horn
  | cab
deriving DecidableEq, Repr

/-- The three cab door buttons that give presses (R142). -/
inductive DoorButton where
  | releaseLeft
  | releaseRight
  | close
deriving DecidableEq, Repr

/-- A byte at the cab link's receiver: the moment its last bit ended, its value, and whether its stop bit was
there (R172). -/
structure RxByte where
  endedAt : Nat
  value   : Byte
  stopBit : Bool
deriving DecidableEq, Repr

/-- The inputs that POWER_ON examines as they stand: the two sensor-health inputs (R18), the cab contacts
(R47), the bypass switch and the door inputs (R153), and the passenger button contacts (R141). -/
structure PowerInputs where
  openA     : Bool
  openB     : Bool
  forward   : Bool
  reverse   : Bool
  deadman   : Bool
  detent    : Bool
  bypassOn  : Bool
  locked    : Vector Bool 8
  buttons   : Vector Bool 16
deriving DecidableEq, Repr

/-- The fields of a RESTRICT_POST payload (R23, Table 10-7). A position is absent where its presence bit is
clear. -/
structure RestrictPost where
  linkId  : Byte
  kind    : Byte
  ceiling : Half
  reason  : Byte
  start   : Option Pos
  stop    : Option Pos
deriving DecidableEq, Repr

/-- The fields of a JUNCTION_LOAD payload (R70, Table 10-7). -/
structure JunctionLoad where
  id            : Half
  setCount      : Byte
  present       : Byte
  reqLeft       : Byte
  reqStraight   : Byte
  reqRight      : Byte
  dflt          : Byte
  loopToPoint   : BitVec 32
  clearing      : Half
  stopMargin    : Half
  approachCeil  : Half
  passingCeil   : Half
deriving DecidableEq, Repr

/-- One step of a PATTERN_LOAD payload: tone period in µs, level in permille, duration in ms (R156). -/
structure StepField where
  period   : Half
  level    : Half
  duration : Half
deriving DecidableEq, Repr

/-- The fields of a PATTERN_LOAD payload (R157). -/
structure PatternLoad where
  number    : Byte
  repeats   : Byte
  stepCount : Byte
  first     : Byte
  steps     : List StepField
deriving DecidableEq, Repr

/-- The configuration record, laid out as the CONFIGURE payload of Table 10-6: both what CONFIGURE carries
and what the part keeps in force (R183). -/
structure Params where
  circA         : Half
  circB         : Half
  vehicleMax    : Half
  tractionRise  : Byte
  tractionFall  : Byte
  brakeRise     : Byte
  brakeFall     : Byte
  serviceBrake  : Byte
  descentStep   : Byte
  curveDecel    : Byte
  reverseCeil   : Half
  unknownCeil   : Half
  fallback      : BitVec 32
  slipMin       : Byte
  slipPermille  : Byte
  vehicle       : Half
  doorSides     : Byte
  buttonMap     : Vector Byte 16
  closeTimeout  : Byte
  bypassCeil    : Half
  departureBell : Byte
deriving DecidableEq, Repr

/-- The commands and events of the part: one constructor for each row of spec/opcode_table.json. -/
inductive Instr where
  | powerOn (t : Nat) (inputs : PowerInputs)
  | tachoEdge (t : Nat) (axle : Axle)
  | noEdgeExpiry (t : Nat) (axle : Axle)
  | sensorHealthOpen (t : Nat) (axle : Axle)
  | sensorHealthOk (t : Nat) (axle : Axle)
  | plausibilityExpiry (t : Nat) (axle : Axle)
  | controlInterval (t : Nat)
  | adhesionConditionEnd (t : Nat)
  | capRemoved (t : Nat)
  | sandRunOnExpiry (t : Nat)
  | resetComplete (t : Nat)
  | handleCycle (t : Nat)
  | reverserChange (t : Nat) (stood : Nat) (forward reverse : Bool)
  | deadmanChange (t : Nat) (stood : Nat) (pressed : Bool)
  | emergencyDetentClose (t : Nat)
  | emergencyDetentOpen (t : Nat) (stood : Nat)
  | vigilanceWarning (t : Nat)
  | vigilanceTrip (t : Nat)
  | demandPeriodStart (t : Nat)
  | emergencyStop (t : Nat) (tag : Byte)
  | restrictPost (t : Nat) (tag : Byte) (post : RestrictPost)
  | restrictLift (t : Nat) (tag : Byte) (owner linkId : Byte)
  | restrictRead (t : Nat) (tag : Byte) (owner linkId : Byte)
  | junctionLoad (t : Nat) (tag : Byte) (load : JunctionLoad)
  | junctionDrop (t : Nat) (tag : Byte) (id : Half)
  | junctionRead (t : Nat) (tag : Byte) (id : Half)
  | routeAppend (t : Nat) (tag : Byte) (id : Half) (selection : Byte)
  | routeClear (t : Nat) (tag : Byte)
  | routeRead (t : Nat) (tag : Byte) (view : Byte)
  | selectorPress (t : Nat) (stood : Nat) (selection : Selection)
  | approachInterval (t : Nat)
  | amberFlash (t : Nat)
  | loopPage (t : Nat) (page : List Byte)
  | awaitingTimeout (t : Nat) (page : List Byte)
  | settingTimeout (t : Nat) (page : List Byte)
  | contactLost (t : Nat)
  | buttonInputChange (t : Nat) (button : Fin 16) (raw : Bool)
  | settleTimerExpiry (t : Nat) (button : Fin 16)
  | holdTimerExpiry (t : Nat) (button : Fin 16)
  | recoveryTimerExpiry (t : Nat) (button : Fin 16)
  | buttonIsolate (t : Nat) (tag : Byte) (index action : Byte)
  | stopClear (t : Nat) (tag : Byte) (target : Byte)
  | stopRead (t : Nat) (tag : Byte)
  | releasePress (t : Nat) (stood : Nat) (side : Side)
  | closePress (t : Nat) (stood : Nat)
  | closeTimerExpiry (t : Nat)
  | doorInputChange (t : Nat) (stood : Nat) (door : Fin 8) (locked : Bool)
  | bypassOn (t : Nat) (stood : Nat)
  | bypassOff (t : Nat) (stood : Nat)
  | hornButtonChange (t : Nat) (stood : Nat) (pressed : Bool)
  | bellPedalChange (t : Nat) (stood : Nat) (pressed : Bool)
  | soundStart (t : Nat) (tag : Byte) (channel pattern priority mode : Byte)
  | soundStop (t : Nat) (tag : Byte) (channel : Byte)
  | patternLoad (t : Nat) (tag : Byte) (load : PatternLoad)
  | patternRead (t : Nat) (tag : Byte) (number first : Byte)
  | stepEnd (t : Nat) (channel : ChannelId)
  | tonePeriodEnd (t : Nat) (channel : ChannelId)
  | linkFrame (bytes : List RxByte)
  | gapAbort (t : Nat)
  | takeCommand (t : Nat)
  | frameSent (t : Nat)
  | statusTimerExpiry (t : Nat)
  | identify (t : Nat) (tag : Byte)
  | statusRead (t : Nat) (tag : Byte) (section_ : Byte)
  | reportRate (t : Nat) (tag : Byte) (rate : Byte)
  | faultsRead (t : Nat) (tag : Byte) (start : Byte)
  | restart (t : Nat) (tag : Byte)
  | configure (t : Nat) (tag : Byte) (params : Params)
  | readConfig (t : Nat) (tag : Byte)
  | handleFallingEdge (t : Nat)
  | selectorButtonRelease (t : Nat) (stood : Nat) (selection : Selection)
  | cabDoorButtonInactive (t : Nat) (stood : Nat) (button : DoorButton)
deriving DecidableEq, Repr

end Sys2Proof
end

