-- ==== Sys2Proof/Decode.lean ====
section
/-! DEFINITION. Commands read from words. The part fetches no instruction, and spec/opcode_table.json gives
bits to none of its rows ("fields" is empty in each), so no word spells a command. The bytes of cab-link frames
and of loop pages are decoded in Machine/Operands.lean. -/

namespace Sys2Proof

/-- The command that a word spells by the bits of spec/opcode_table.json: none, since no row has bits. -/
def decodeTableWord (_nbits _w : Nat) : Option Instr := none

end Sys2Proof
end

