-- ==== Sys2Proof/Config.lean ====
section
/-! DEFINITION. What the manual fixes once for every part: the limits and timings of its rules, the
configuration record before the first accepted CONFIGURE (Table 11-1), and the values the manual leaves
unstated, as uninterpreted constants. Times are in µs unless the name says ms. -/

namespace Sys2Proof.Config

/-- The edge filter of R1. -/
def edgeFilter : Nat := 50
/-- A window closes at this age whatever its count (R3). -/
def windowLimit : Nat := 250000
/-- A window closes at this many intervals (R3). -/
def windowCount : Nat := 16
/-- The top of a speed (R4, Table 0-4). -/
def speedMax : Nat := 3000
/-- The no-edge limit of R5. -/
def noEdgeLimit : Nat := 1000000
/-- The plausibility limit of R8. -/
def plausibilityLimit : Nat := 3000000
/-- The other axle's speed above which the plausibility timer runs (R8). -/
def plausibilitySpeed : Nat := 300
/-- Consecutive agreeing windows that end a plausibility fault (R9). -/
def recoveryWindows : Nat := 4
/-- Accumulator units in one mm (Section 1.5). -/
def unitsPerMm : Nat := 64
/-- The odometer accumulator saturates here (R14). -/
def odometerTop : Nat := 64 * (2 ^ 40 - 1)
/-- The control interval and the approach interval (R59, R119). -/
def intervalLength : Nat := 20000
/-- The demand-line period (R62). -/
def demandPeriod : Nat := 2000
/-- A handle cycle older than this makes the handle FAULT (R44). -/
def handleAge : Nat := 10000
/-- The vigilance warning and trip times (R50). -/
def vigilanceWarn : Nat := 1500000
def vigilanceTrip : Nat := 2500000
/-- Debounce of the reverser, the deadman and the detent's opening, in ms (R47). -/
def cabContactMs : Nat := 10
/-- Debounce of the horn button and the bell pedal, in ms (R160). -/
def soundContactMs : Nat := 20
/-- Debounce of the selector buttons, the door buttons, the bypass switch and the door inputs, in ms
(R85, R142). -/
def buttonMs : Nat := 40
/-- Requirement of the reset procedure in classes GOOD and SINGLE, and in class LOST (R40). -/
def resetIntervals : Nat := 50
def resetIntervalsLost : Nat := 250
/-- The cut of a detection in percent (R52, R53). -/
def adhesionCut : Int := 15
/-- Quiet intervals that end a condition (R54). -/
def quietIntervals : Nat := 10
/-- Sand run-on after a condition (R54). -/
def sandRunOn : Nat := 100
/-- Upper limits of Δ for WARN and for INTERVENE (Table 3-5). -/
def warnMargin : Int := 100
def interveneMargin : Int := 250
/-- The target's limit in class LOST (R60). -/
def lostTarget : Int := 30
/-- Slots of the junction table (R67) and of the route plan (R74). -/
def junctionSlots : Nat := 64
def planSlots : Nat := 16
/-- Contact loss (R92). -/
def contactLimit : Nat := 300000
/-- The bad count that latches LOOP_CHECK (R93). -/
def badBeaconLimit : Nat := 8
/-- Sends of one page (R108). -/
def pageSends : Nat := 6
/-- Beacon timeouts of AWAITING (R110) and SETTING (R112). -/
def awaitingBeacons : Nat := 20
def settingBeacons : Nat := 160
/-- The curve's longest distance in mm (R122). -/
def curveTop : Int := 78000
/-- Half period of the flashing amber lamp (R124). -/
def flashTime : Nat := 500000
/-- Settle, hold and recovery times of a button conditioner (R128, R130, R131). -/
def settleTime : Nat := 40000
def holdTime : Nat := 20000000
def recoveryTime : Nat := 2000000
/-- Brake-held time that replaces standstill at a release in class LOST, in ms (R144). -/
def releaseBrakeHeld : Nat := 5000
/-- Capacities of a tone channel (R155). -/
def stackSlots : Nat := 3
def queueSlots : Nat := 6
/-- LINK priorities above this are clamped to it (R161). -/
def linkPriority : Nat := 5
/-- Gap limit of the link receiver (R172). -/
def gapLimit : Nat := 5000
/-- Capacities of the link queues (R173, R175) and of the fault set (R179). -/
def inboundSlots : Nat := 4
def replySlots : Nat := 8
def reportSlots : Nat := 12
def faultSlots : Nat := 32
/-- Entries carried by one FAULTS_READ reply (R180). -/
def faultsPerReply : Nat := 5

/-- FREE VALUE. The check number in an OUT_OF_RANGE reply of a command whose rule numbers no check: Table 10-1
has a check number follow the status, and the rule states none. Nothing is known of it (assumption 8). It may
depend on the command's KIND and on which clause of the rule refused. -/
opaque unnamedCheck : Byte → Nat → Byte

/-- FREE VALUES. R88 bounds the begin and the end of a request page after the end of its beacon and states neither:
when the page that answers the beacon of a moment begins, and how long it takes beyond its first µs (assumption 23). -/
opaque pageBegin : Nat → Nat
opaque pageTime : Nat → Nat

/-- R88: the page that answers the beacon of a moment begins so many µs after the end of that beacon. -/
def slotBegin (beacon : Nat) : Nat := min 2000 (pageBegin beacon)
/-- R88: it ends so many µs after the end of that beacon. -/
def slotEnd (beacon : Nat) : Nat := min 8000 (slotBegin beacon + 1 + pageTime beacon)

/-- The configuration record from power-on until the first accepted CONFIGURE (Table 11-1, R183, R187). -/
def initialParams : Params where
  circA         := 2042
  circB         := 2042
  vehicleMax    := 2000
  tractionRise  := 2
  tractionFall  := 5
  brakeRise     := 4
  brakeFall     := 3
  serviceBrake  := BitVec.ofInt 8 (-60)
  descentStep   := 2
  curveDecel    := 100
  reverseCeil   := 167
  unknownCeil   := 278
  fallback      := 60000
  slipMin       := 20
  slipPermille  := 80
  vehicle       := 0
  doorSides     := 0
  buttonMap     := Vector.replicate 16 0
  closeTimeout  := 15
  bypassCeil    := 417
  departureBell := 0

end Sys2Proof.Config
end

