-- ==== Sys2Proof/Machine/State.lean ====
section
/-! DEFINITION. The state of the part, block by block (Table 0-1), as plain data, and its value right after
power-on. A timer is held as the moment it started (`none` while it is stopped): its count is `now` less that
moment. A field named here is named in INVENTORY.md with the rule of spec/ it comes from. -/

namespace Sys2Proof.Machine

/-! ## Axle Measurement Unit (Chapter 1) -/

/-- The AMU's judgement of one axle (Table 1-1). -/
inductive AxleClass where
  | good
  | zero
  | fault
deriving DecidableEq, Repr

/-- The AMU's standstill state (R11). -/
inductive Standstill where
  | standstill
  | moving
  | unknown
deriving DecidableEq, Repr

/-- A direction of travel (R13). -/
inductive Direction where
  | forward
  | reverse
deriving DecidableEq, Repr

/-- An open measurement window: its opening time and its interval count (Table 1-1). -/
structure Window where
  opened : Nat
  count  : Nat
deriving DecidableEq, Repr

/-- One axle channel (Table 1-1). Its circumference stands in the configuration record (R16). The fault
causes are the two Bools; `healthOpen` is the sensor health as last taken. -/
structure AxleChannel where
  lastEdge    : Option Nat
  window      : Option Window
  speed       : Nat
  cls         : AxleClass
  sensorCause : Bool
  plausCause  : Bool
  healthOpen  : Bool
  noEdge      : Option Nat
  plausTimer  : Option Nat
  recovery    : Nat
deriving DecidableEq, Repr

/-- The AMU: two channels, the two accumulators in 1/64 mm (R14, R15) and the direction memory (R13). -/
structure Amu where
  a         : AxleChannel
  b         : AxleChannel
  odometer  : Nat
  track     : BitVec 38
  direction : Direction
deriving DecidableEq, Repr

/-! ## Drive Controller (Chapters 2 and 3) -/

/-- The slots of the restriction table: three internal owners and six link ids, 1..6 held as 0..5 (R20). -/
inductive Slot where
  | route
  | doors
  | reverse
  | link (index : Fin 6)
deriving DecidableEq, Repr

/-- The kinds of a restriction entry (Section 2.1). -/
inductive Kind where
  | ceiling
  | inhibit
  | hold
deriving DecidableEq, Repr

/-- The phases of a restriction entry (Table 2-1). -/
inductive Phase where
  | armed
  | active
deriving DecidableEq, Repr

/-- A restriction entry (Table 2-1); its owner and link id are its slot. -/
structure Entry where
  kind    : Kind
  ceiling : Nat
  reason  : Byte
  start   : Option Pos
  stop    : Option Pos
  phase   : Phase
deriving DecidableEq, Repr

/-- The restriction table (R20). -/
structure Table where
  route   : Option Entry
  doors   : Option Entry
  reverse : Option Entry
  link    : Vector (Option Entry) 6
deriving DecidableEq, Repr

/-- The drive states (Table 3-1). -/
inductive DriveState where
  | unconfigured
  | tripped
  | ready
deriving DecidableEq, Repr

/-- The trip reasons (Section 3.1). -/
inductive TripReason where
  | configured
  | emergencyDetent
  | vigilance
  | overspeed
  | reverser
  | linkStop
deriving DecidableEq, Repr

/-- The reverser's positions (R47). -/
inductive Reverser where
  | forward
  | neutral
  | reverse
deriving DecidableEq, Repr

/-- The reference class (Table 3-4). -/
inductive RefClass where
  | good
  | single
  | lost
deriving DecidableEq, Repr

/-- The adhesion condition (R52). -/
inductive Adhesion where
  | none
  | slip
  | slide
deriving DecidableEq, Repr

/-- The supervision band (R57). -/
inductive Band where
  | normal
  | warn
  | intervene
deriving DecidableEq, Repr

/-- A completed handle cycle: high width and period in µs, and the moment of its completion (R43). -/
structure HandleCycle where
  width  : Nat
  period : Nat
  doneAt : Nat
deriving DecidableEq, Repr

/-- The Drive Controller. `u` is the demand value and `buffer` the demand-line buffer (R62); `duty` is the
duty of the running demand-line period in permille, 0 while the line is held low; `intervalDue` and
`periodDue` are the moments of the next control interval and the next demand-line period; `cycleStart` and
`cycleWidth` are the handle cycle in progress (R43); `warnVigilance` and `warnDrive` say whether the DRC holds
the CAB_WARNING request of that source at the Tone Unit (R38, R50, R58). -/
structure Drc where
  table         : Table
  vCeil         : Nat
  vSup          : Nat
  driveState    : DriveState
  tripReason    : Option TripReason
  resetCount    : Nat
  u             : Int
  buffer        : Int
  duty          : Nat
  periodDue     : Nat
  intervalDue   : Nat
  loop          : Bool
  cycleStart    : Option Nat
  cycleWidth    : Option Nat
  lastCycle     : Option HandleCycle
  handleFault   : Bool
  h             : Int
  brakeHeld     : Nat
  reverser      : Reverser
  deadman       : Bool
  detent        : Bool
  vigilance     : Option Nat
  warnVigilance : Bool
  warnDrive     : Bool
  refClass      : RefClass
  ref           : Nat
  adhesion      : Adhesion
  quiet         : Nat
  tcap          : Option Int
  bcap          : Option Int
  runOn         : Nat
  sand          : Bool
  band          : Band
deriving DecidableEq, Repr

/-! ## Route Manager (Chapters 4 and 6) -/

/-- The position of a set of points (Table 0-3). -/
inductive PointPos where
  | normal
  | reverse
deriving DecidableEq, Repr

/-- The requirement of a selection for one set (Table 4-1). -/
inductive Requirement where
  | any
  | normal
  | reverse
deriving DecidableEq, Repr

/-- A junction record (Table 4-1). A selection absent from the route map is `none`; a present one is the list
of its requirements for sets 0..n−1. -/
structure JunctionRecord where
  id           : Half
  setCount     : Nat
  left         : Option (List Requirement)
  straight     : Option (List Requirement)
  right        : Option (List Requirement)
  dflt         : Selection
  loopToPoint  : Nat
  clearing     : Nat
  stopMargin   : Nat
  approachCeil : Nat
  passingCeil  : Nat
deriving DecidableEq, Repr

/-- The origin of a plan entry (Table 4-3). -/
inductive Origin where
  | plan
  | adhoc
deriving DecidableEq, Repr

/-- The exchange states of a plan entry (Table 4-3, Table 6-1). -/
inductive ExState where
  | waiting
  | contact
  | sending
  | awaiting
  | queued
  | setting
  | locked
  | refused
  | wrongLeg
  | timedOut
  | contactLost
  | unknown
deriving DecidableEq, Repr

/-- A route-plan entry (Table 4-3). -/
structure PlanEntry where
  id        : Half
  selection : Selection
  origin    : Origin
  state     : ExState
deriving DecidableEq, Repr

/-- A page of a page list (R68). -/
structure Page where
  set  : Nat
  pos  : PointPos
  last : Bool
deriving DecidableEq, Repr

/-- The answers of a point controller (Table 4-4, R89). -/
inductive Answer where
  | none
  | accepted
  | queued
  | refusedBlocked
  | refusedLocal
  | refusedFault
deriving DecidableEq, Repr

/-- The fields of an exchange context that are present with a page list (Table 4-4). -/
structure PageContext where
  pages   : List Page
  index   : Nat
  toggle  : Bool
  sends   : Nat
  chain   : Half
  answer  : Answer
  counter : Nat
deriving DecidableEq, Repr

/-- An exchange context (Table 4-4). -/
structure Context where
  loopMark : Pos
  paging   : Option PageContext
  resume   : Option ExState
  bad      : Nat
deriving DecidableEq, Repr

/-- The Route Manager. `context` is the exchange context of the head; `freshDue` its fresh-chain due flag
(R117); `amber` is the lamp output and `flashStart` the running half period of the flashing lamp (R124);
`armed…` say whether a selector button's next press can be taken (R85). -/
structure Rtm where
  junctions     : List JunctionRecord
  plan          : List PlanEntry
  context       : Option Context
  freshDue      : Bool
  pendingSel    : Option Selection
  zone          : Bool
  green         : Bool
  amber         : Bool
  red           : Bool
  flashStart    : Option Nat
  intervalDue   : Nat
  armedLeft     : Bool
  armedStraight : Bool
  armedRight    : Bool
deriving DecidableEq, Repr

/-! ## Loop Transceiver (Chapter 5) -/

/-- A request page as sent (R97). -/
structure RequestPage where
  junction : Half
  vehicle  : Half
  set      : Nat
  pos      : PointPos
  last     : Bool
  toggle   : Bool
  check    : Half
deriving DecidableEq, Repr

/-- The Loop Transceiver: contact state (Section 5.3), toggle memory (R98) and held page (R95). `slotPage` is
what it sends in the reply slot of the latest valid beacon, if anything; with the contact timer, which runs from that
beacon, it says while the LPT is transmitting (R88). -/
structure Lpt where
  contact      : Option Half
  contactTimer : Option Nat
  badCount     : Nat
  checkFault   : Bool
  toggleMemory : Option Bool
  held         : Option RequestPage
  slotPage     : Option RequestPage
deriving DecidableEq, Repr

/-! ## Stop and Door Unit (Chapters 7 and 8) -/

/-- The kinds of a stop request (Table 7-1). -/
inductive StopKind where
  | alight
  | board
  | access
deriving DecidableEq, Repr

/-- A button conditioner (Table 7-1). Its mapping stands in the configuration record; `raw` is the level of its
input. -/
structure Conditioner where
  raw      : Bool
  isolated : Bool
  level    : Bool
  settle   : Option Nat
  stuck    : Bool
  hold     : Option Nat
  recovery : Option Nat
deriving DecidableEq, Repr

/-- A stop-list entry (R134). -/
structure StopEntry where
  door   : Fin 8
  alight : Bool
  board  : Bool
  access : Bool
  count  : Nat
deriving DecidableEq, Repr

/-- The door states (R143). -/
inductive DoorState where
  | none
  | released (side : Side)
  | closing (side : Side)
  | unsafe_
  | bypassed
deriving DecidableEq, Repr

/-- The door outputs (Table 8-1). -/
inductive DoorOutput where
  | closed
  | enabled
  | opened
deriving DecidableEq, Repr

/-- The Stop and Door Unit: conditioners, stop list and lamps (Chapter 7); door record (R143); `armed…` say
whether a cab door button's next press can be taken (R142). -/
structure Sdu where
  buttons    : Vector Conditioner 16
  stops      : List StopEntry
  stopLamp   : Bool
  rampLamp   : Bool
  door       : DoorState
  outputs    : Vector DoorOutput 8
  closeTimer : Option Nat
  bypass     : Bool
  locked     : Vector Bool 8
  armedLeft  : Bool
  armedRight : Bool
  armedClose : Bool
deriving DecidableEq, Repr

/-! ## Tone Unit (Chapter 9) -/

/-- A pattern step: tone period in µs (0 for silence), level in permille, duration in ms (R156). -/
structure Step where
  period   : Nat
  level    : Nat
  duration : Nat
deriving DecidableEq, Repr

/-- A pattern; a repeat count of 0 is CONTINUOUS (R156). -/
structure Pattern where
  steps   : List Step
  repeats : Nat
deriving DecidableEq, Repr

/-- The sources of a request (R159). -/
inductive Source where
  | driverHorn
  | driverBell
  | drive
  | vigilance
  | route
  | stops
  | doors
  | link
deriving DecidableEq, Repr

/-- The modes of a request (R159). -/
inductive Mode where
  | count (n : Nat)
  | held
  | untilStopped
deriving DecidableEq, Repr

/-- A request on a channel, with the arrival rank the channel gave it (R155, R159). -/
structure Request where
  pattern  : Nat
  priority : Nat
  source   : Source
  mode     : Mode
  rank     : Nat
deriving DecidableEq, Repr

/-- A context whose time stands still: a request, its step index, its repeats done and the remaining time of its
step in ms (R155). -/
structure Saved where
  req       : Request
  step      : Nat
  repeats   : Nat
  remaining : Nat
deriving DecidableEq, Repr

/-- A playing context: `saved.remaining` is the remaining time at the moment `since`. -/
structure Playing where
  saved : Saved
  since : Nat
deriving DecidableEq, Repr

/-- A tone output, with the tone period, level and start of its running period (R154). -/
inductive ToneOutput where
  | silent
  | sounding (period level start : Nat)
deriving DecidableEq, Repr

/-- A tone channel (R155). The queue is held from head to tail, the stack from newest (top) to oldest (bottom);
`nextRank` is the next arrival rank, 256 when the next arrival renumbers. -/
structure Channel where
  playing  : Option Playing
  queue    : List Request
  stack    : List Saved
  nextRank : Nat
  output   : ToneOutput
deriving DecidableEq, Repr

/-- The load buffer's contents (R157). -/
structure LoadBuffer where
  number    : Nat
  repeats   : Nat
  stepCount : Nat
  steps     : List Step
deriving DecidableEq, Repr

/-- The Tone Unit: three channels, patterns 8..23 (held as 0..15), the load buffer and the contact levels of the
horn button and the bell pedal. -/
structure Tnu where
  bell       : Channel
  horn       : Channel
  cab        : Channel
  patterns   : Vector (Option Pattern) 16
  loadBuffer : Option LoadBuffer
  hornDown   : Bool
  pedalDown  : Bool
deriving DecidableEq, Repr

/-! ## Cab Link Port (Chapter 10) -/

/-- The fault codes (Table 10-3). -/
inductive FaultCode where
  | axleFault
  | handleFault
  | overspeed
  | vigilance
  | reverser
  | buttonStuck
  | doorUnlocked
  | doorCloseTimeout
  | doorBypass
  | junctionUnknown
  | junctionWrongLeg
  | junctionTimeout
  | junctionLockLost
  | junctionOverrun
  | loopCheck
  | soundDropped
  | routeTruncated
deriving DecidableEq, Repr

/-- A fault-set entry (R179). -/
structure FaultEntry where
  code      : FaultCode
  index     : Nat
  count     : Nat
  firstSeen : Nat
  active    : Bool
deriving DecidableEq, Repr

/-- The read snapshot (R180). -/
structure Snapshot where
  entries  : List FaultEntry
  overflow : Bool
deriving DecidableEq, Repr

/-- The reply statuses (Table 10-1). -/
inductive Status where
  | ok
  | busy
  | unknownCommand
  | badLength
  | outOfRange
  | notOwner
  | full
  | inUse
  | notStandstill
  | unconfigured
  | notFound
  | refusedState
deriving DecidableEq, Repr

/-- The commands of the cab link as the CLP has read them from a checked frame, one for each KIND of Table 10-5
but EMERGENCY_STOP, which is never queued (R173); `unknown` is a KIND that names no command and `badLength` a
payload length not allowed for the KIND (R174). -/
inductive LinkCommand where
  | unknown
  | badLength
  | identify
  | configure (params : Params)
  | readConfig
  | junctionLoad (load : JunctionLoad)
  | junctionDrop (id : Half)
  | junctionRead (id : Half)
  | routeAppend (id : Half) (selection : Byte)
  | routeClear
  | routeRead (view : Byte)
  | restrictPost (post : RestrictPost)
  | restrictLift (owner linkId : Byte)
  | restrictRead (owner linkId : Byte)
  | soundStart (channel pattern priority mode : Byte)
  | soundStop (channel : Byte)
  | patternLoad (load : PatternLoad)
  | patternRead (number first : Byte)
  | stopRead
  | stopClear (target : Byte)
  | buttonIsolate (index action : Byte)
  | statusRead (section_ : Byte)
  | reportRate (rate : Byte)
  | faultsRead (start : Byte)
  | restart
deriving DecidableEq, Repr

/-- A frame of the inbound queue: its KIND, its TAG and the command read from it (assumption 15). -/
structure Inbound where
  kind    : Byte
  tag     : Byte
  command : LinkCommand
deriving DecidableEq, Repr

/-- The events of a RESTRICTION report (R30). -/
inductive RestrictEvent where
  | posted (replaced : Bool)
  | lifted
  | activated
  | expired
deriving DecidableEq, Repr

/-- The fields of a STATUS report after its flags byte (Table 10-8), and the traction-inhibited condition, which R32
has the report carry (assumption 33). -/
structure StatusView where
  ref        : Nat
  refClass   : RefClass
  standstill : Standstill
  u          : Int
  duty       : Nat
  vCeil      : Nat
  vSup       : Nat
  band       : Band
  driveState : DriveState
  track      : Pos
  odometer   : Nat
  inhibited  : Bool
deriving DecidableEq, Repr

/-- The causes of a STOPS report (R140). -/
inductive StopsCause where
  | added (door : Fin 8) (button : Fin 16) (kind : StopKind)
  | merged (door : Fin 8) (button : Fin 16) (kind : StopKind)
  | cleared (door : Fin 8)
  | clearedAll
  | released (side : Side) (doors : List (Fin 8))
deriving DecidableEq, Repr

/-- The causes of a DOORS report (R152). -/
inductive DoorsCause where
  | state
  | output (door : Fin 8) (button : Fin 16)
  | latePress (door : Fin 8) (button : Fin 16)
deriving DecidableEq, Repr

/-- The door record as reports and STATUS_READ carry it (R152). -/
structure DoorView where
  state        : DoorState
  outputs      : Vector DoorOutput 8
  locked       : Vector Bool 8
  bypass       : Bool
  timerRunning : Bool
deriving DecidableEq, Repr

/-- The JUNCTION reports (R84, R126). The page fields of a STATE report are the answer, the current page index,
the sends and the beacon counter, present where the context holds a page list. -/
inductive JunctionReport where
  | abandoned (id : Half) (selection : Selection) (origin : Origin) (state : ExState) (by_ : Half)
  | skipped (ids : List Half) (by_ : Half)
  | selection (id : Half) (before after : Selection)
  | state (id : Half) (selection : Selection) (origin : Origin) (before after : ExState)
      (paging : Option (Answer × Nat × Nat × Nat)) (bad : Nat) (distance : Int) (controller : Option Nat)
  | passed (id : Half) (selection : Selection) (origin : Origin) (state : ExState) (distance : Int)
      (overrun : Bool)
deriving DecidableEq, Repr

/-- The causes of a SOUND report (R169). -/
inductive SoundCause where
  | completed
  | stopped
  | dropped
  | displaced
deriving DecidableEq, Repr

/-- The reasons of a LINK_ERROR report (R172). -/
inductive LinkErrorReason where
  | length
  | gap
  | check
deriving DecidableEq, Repr

/-- The reports of the part (Table 10-2) with what each carries. -/
inductive Report where
  | status (view : StatusView)
  | junction (body : JunctionReport)
  | stops (cause : StopsCause) (list : List StopEntry) (stopLamp rampLamp : Bool)
  | doors (cause : DoorsCause) (before : DoorState) (view : DoorView)
  | restriction (event : RestrictEvent) (slot : Slot) (entry : Entry) (vCeil vSup : Nat)
  | emergency (before after : DriveState) (reason : Option TripReason) (refClass : RefClass) (ref : Nat)
      (odometer : Nat)
  | fault (entry : FaultEntry) (entries : Nat) (overflow : Bool)
  | sound (channel : ChannelId) (pattern priority : Nat) (mode : Mode) (repeats : Nat) (cause : SoundCause)
  | linkError (reason : LinkErrorReason) (received : Nat) (kind tag : Option Byte)
deriving DecidableEq, Repr

/-- The occupancy of a slot of the restriction table (R26). -/
inductive Occupancy where
  | empty
  | armed
  | active
deriving DecidableEq, Repr

/-- The summary of the restriction table (R26): the nine slots in the order ROUTE, DOORS, REVERSE, link ids 1..6,
and the three outputs. -/
structure TableView where
  slots     : List Occupancy
  vCeil     : Nat
  vSup      : Nat
  inhibited : Bool
deriving DecidableEq, Repr

/-- The service states of a button (R129). -/
inductive Service where
  | isolated
  | unused
  | stuck
  | inService
deriving DecidableEq, Repr

/-- The outcomes of an accepted SOUND_START (R161); `full` is its refusal by the arrival rule (R165). -/
inductive SoundOutcome where
  | started
  | updated
  | waiting (position : Nat)
  | full
deriving DecidableEq, Repr

/-- Section 0 of STATUS_READ (R177). -/
structure DriveView where
  status      : StatusView
  speedA      : Nat
  classA      : AxleClass
  speedB      : Nat
  classB      : AxleClass
  tripReason  : Option TripReason
  resetCount  : Nat
  h           : Int
  handleFault : Bool
  brakeHeld   : Nat
  inhibited   : Bool
  adhesion    : Adhesion
  tcap        : Option Int
  bcap        : Option Int
  sand        : Bool
deriving DecidableEq, Repr

/-- Section 1 of STATUS_READ (R104): the held page by its set index, position, last flag, toggle and check. -/
structure LoopView where
  contact      : Option Half
  badCount     : Nat
  toggleMemory : Option Bool
  held         : Option (Nat × PointPos × Bool × Bool × Half)
deriving DecidableEq, Repr

/-- Sections 3 to 5 of STATUS_READ (R170): the output's running period and level, the playing context with its
remaining time, the saved contexts from bottom to top, the waiting requests from head to tail, and the load
buffer's pattern number. -/
structure ChannelView where
  output     : Option (Nat × Nat)
  playing    : Option Saved
  stack      : List (Nat × Source × Nat × Nat)
  queue      : List (Nat × Source × Nat)
  loadBuffer : Option Nat
deriving DecidableEq, Repr

/-- What a reply carries after its status (and check number). -/
inductive ReplyData where
  | none
  | driveState (state : DriveState)
  | posted (phase : Phase) (vCeil vSup : Nat)
  | lifted (vCeil vSup : Nat)
  | restriction (found : Option (Slot × Entry)) (view : TableView)
  | junctionLoaded (replaced : Bool) (loaded aligned : Nat)
  | junctionCount (loaded : Nat)
  | junctionRecord (id : Half) (setCount : Nat) (left straight right : Option (List Requirement))
      (dflt : Selection) (loopToPoint clearing stopMargin approachCeil passingCeil : Nat) (inUse : Bool)
      (loaded : Nat)
  | appended (position length : Nat)
  | planCleared (removed length : Nat)
  | plan (length : Nat) (pendingSel : Option Selection) (entries : List PlanEntry)
  | head (entry : PlanEntry) (loaded : Bool) (context : Option Context)
  | button (index : Nat) (mapping : Option (Fin 8 × StopKind)) (level : Bool) (service : Service)
  | stopsCleared (removed length : Nat)
  | stopList (length : Nat) (entries : List (StopEntry × Side)) (stopLamp rampLamp : Bool)
      (services : List Service)
  | soundStarted (priority : Nat) (clamped : Bool) (outcome : SoundOutcome)
  | soundStopped (removed : Nat) (playing : Option (Nat × Source))
  | patternLoaded (number : Nat) (written : Bool)
  | pattern (repeats stepCount : Nat) (steps : List Step) (builtIn : Bool) (inUse : List (Bool × Bool × Bool))
  | identity (part : Half) (major minor complement : Byte)
  | drive (view : DriveView)
  | loop (view : LoopView)
  | doors (view : DoorView) (stopLamp rampLamp : Bool)
  | channel (view : ChannelView)
  | rate (n : Nat)
  | faults (overflow : Bool) (total start : Nat) (entries : List FaultEntry)
  | configured (state : DriveState) (first : Bool)
  | config (configured : Bool) (record : List Byte)
deriving DecidableEq, Repr

/-- A frame of the outbound queue (R175). A reply has its KIND (bit 7 set), its TAG, its status, the check number
of an OUT_OF_RANGE, and its data. A report has its TAG, the reports-lost bit of its flags byte (`none` until its
transmission begins), and its body. -/
inductive OutFrame where
  | reply (kind tag : Byte) (status : Status) (check : Option Byte) (data : ReplyData)
  | report (tag : Byte) (lost : Option Bool) (body : Report)
deriving DecidableEq, Repr

/-- The link receiver (R172): HUNTING, or COLLECTING with the bytes received after the sync byte and the moment
the last byte ended (the gap timer's start). -/
inductive Receiver where
  | hunting
  | collecting (bytes : List Byte) (lastEnd : Nat)
deriving DecidableEq, Repr

/-- The Cab Link Port. The head of a non-empty outbound queue is the frame in transmission (R175). `rate` is the
report interval N and `statusDue` the moment of its next expiry (R178). -/
structure Clp where
  receiver  : Receiver
  inbound   : List Inbound
  outbound  : List OutFrame
  lost      : Bool
  sequence  : Byte
  faults    : List FaultEntry
  overflow  : Bool
  snapshot  : Option Snapshot
  rate      : Nat
  statusDue : Nat
deriving DecidableEq, Repr

/-! ## The part -/

/-- Why the machine stops with a fault: never. The manual names no event at which the part stops, so no command
raises one. -/
inductive Fault where
deriving DecidableEq, Repr

/-- Why a command has no meaning. -/
inductive Refusal where
  /-- Raised by `exec` for a command whose meaning is not written yet (none is left). Safe: the machine stops. -/
  | notModelled (mnemonic : String)
deriving DecidableEq, Repr

/-- The state of the part. `now` is the moment of the latest command in µs and `poweredAt` that of power-on
(the model's own, assumption 1); `pending` is the queue of waiting commands (the model's own, assumption 21);
`params` and `configured` are the configuration record (R183). -/
structure State where
  now        : Nat
  poweredAt  : Nat
  pending    : List Instr
  amu        : Amu
  drc        : Drc
  rtm        : Rtm
  lpt        : Lpt
  sdu        : Sdu
  tnu        : Tnu
  clp        : Clp
  params     : Params
  configured : Bool
deriving DecidableEq, Repr

/-! ## Starting state -/

/-- An axle channel at power-on with its sensor-health input reporting OK (R18). -/
def AxleChannel.initial : AxleChannel where
  lastEdge := none
  window := none
  speed := 0
  cls := .zero
  sensorCause := false
  plausCause := false
  healthOpen := false
  noEdge := none
  plausTimer := none
  recovery := 0

/-- The AMU at power-on (R18). -/
def Amu.initial : Amu where
  a := .initial
  b := .initial
  odometer := 0
  track := 0
  direction := .forward

/-- The restriction table at power-on (R20). -/
def Table.initial : Table where
  route := none
  doors := none
  reverse := none
  link := Vector.replicate 6 none

/-- The DRC at power-on (R35, R65); `h`, `refClass` and `ref` before the first control interval are DESIGN CHOICE
(assumption 7). -/
def Drc.initial (now : Nat) : Drc where
  table := .initial
  vCeil := 2000
  vSup := 2000
  driveState := .unconfigured
  tripReason := none
  resetCount := 0
  u := 0
  buffer := 0
  duty := 0
  periodDue := now + Config.demandPeriod
  intervalDue := now + Config.intervalLength
  loop := false
  cycleStart := none
  cycleWidth := none
  lastCycle := none
  handleFault := false
  h := 0
  brakeHeld := 0
  reverser := .neutral
  deadman := false
  detent := false
  vigilance := none
  warnVigilance := false
  warnDrive := false
  refClass := .good
  ref := 0
  adhesion := .none
  quiet := 0
  tcap := none
  bcap := none
  runOn := 0
  sand := false
  band := .normal

/-- The RTM at power-on (R85, R87, R127). -/
def Rtm.initial (now : Nat) : Rtm where
  junctions := []
  plan := []
  context := none
  freshDue := false
  pendingSel := none
  zone := false
  green := false
  amber := false
  red := false
  flashStart := none
  intervalDue := now + Config.intervalLength
  armedLeft := true
  armedStraight := true
  armedRight := true

/-- The LPT at power-on (R103). -/
def Lpt.initial : Lpt where
  contact := none
  contactTimer := none
  badCount := 0
  checkFault := false
  toggleMemory := none
  held := none
  slotPage := none

/-- A button conditioner at power-on (R141). -/
def Conditioner.initial : Conditioner where
  raw := false
  isolated := false
  level := false
  settle := none
  stuck := false
  hold := none
  recovery := none

/-- The SDU at power-on (R141, R153). -/
def Sdu.initial : Sdu where
  buttons := Vector.replicate 16 .initial
  stops := []
  stopLamp := false
  rampLamp := false
  door := .none
  outputs := Vector.replicate 8 .closed
  closeTimer := none
  bypass := false
  locked := Vector.replicate 8 true
  armedLeft := true
  armedRight := true
  armedClose := true

/-- An idle tone channel (R171). -/
def Channel.initial : Channel where
  playing := none
  queue := []
  stack := []
  nextRank := 0
  output := .silent

/-- The TNU at power-on (R171, R160). -/
def Tnu.initial : Tnu where
  bell := .initial
  horn := .initial
  cab := .initial
  patterns := Vector.replicate 16 none
  loadBuffer := none
  hornDown := false
  pedalDown := false

/-- The CLP at power-on (R172, R173, R175, R178, R179, R180). -/
def Clp.initial (now : Nat) : Clp where
  receiver := .hunting
  inbound := []
  outbound := []
  lost := false
  sequence := 0
  faults := []
  overflow := false
  snapshot := none
  rate := 0
  statusDue := now

/-- The part at power-on at the moment `now`, before its inputs are examined. -/
def State.initial (now : Nat) : State where
  now := now
  poweredAt := now
  pending := []
  amu := .initial
  drc := .initial now
  rtm := .initial now
  lpt := .initial
  sdu := .initial
  tnu := .initial
  clp := .initial now
  params := Config.initialParams
  configured := false

/-- The part right after power-on at moment 0 with every input at rest: both sensor-health inputs OK, the reverser
at NEUTRAL, the deadman released, the detent open, the bypass switch OFF, every door locked and every button
contact open (DESIGN CHOICE, assumption 6). -/
def State.reset : State := State.initial 0

end Sys2Proof.Machine
end

