-- ==== Sys2Proof/Machine/Operands.lean ====
section
/-! DEFINITION. The byte layouts of Section 10.8: the check of R90, the command payloads as the CLP reads them
(Tables 10-5, 10-6, 10-7, 10-10), the STATUS report payload (Table 10-8), and both loop pages (Table 10-9).
Multi-byte fields have their most significant byte first. -/

namespace Sys2Proof.Machine

/-! ## The check (R90) -/

/-- One bit of the check: shift out the most significant bit and, if it is set, apply the generator polynomial
x¹⁶ + x¹² + x⁵ + 1. -/
def crcShift (c : Half) : Half := if c.msb then (c <<< 1) ^^^ 0x1021 else c <<< 1

/-- One byte of the check, from its most significant bit to its least. -/
def crcByte (c : Half) (b : Byte) : Half :=
  crcShift (crcShift (crcShift (crcShift (crcShift (crcShift (crcShift (crcShift
    (c ^^^ (b.setWidth 16 <<< 8)))))))))

/-- R90: the check of a run of bytes from a seed. -/
def crc (seed : Half) (bytes : List Byte) : Half := bytes.foldl crcByte seed

/-! ## Multi-byte fields -/

def half (hi lo : Byte) : Half := hi ++ lo

def word (a b c d : Byte) : BitVec 32 := (a ++ b) ++ (c ++ d)

def hiByte (h : Half) : Byte := h.extractLsb' 8 8
def loByte (h : Half) : Byte := h.extractLsb' 0 8

def halfBytes (h : Half) : List Byte := [hiByte h, loByte h]

def wordBytes (w : BitVec 32) : List Byte :=
  [w.extractLsb' 24 8, w.extractLsb' 16 8, w.extractLsb' 8 8, w.extractLsb' 0 8]

/-! ## Coded fields -/

/-- A selection code: 0 LEFT, 1 STRAIGHT, 2 RIGHT (Section 10.8). -/
def selectionOf (b : Byte) : Option Selection :=
  match b.toNat with
  | 0 => some .left
  | 1 => some .straight
  | 2 => some .right
  | _ => none

/-- A kind code of RESTRICT_POST (Table 10-7). -/
def kindOf (b : Byte) : Option Kind :=
  match b.toNat with
  | 1 => some .ceiling
  | 2 => some .inhibit
  | 3 => some .hold
  | _ => none

/-- A channel code (Table 10-10). -/
def channelOf (b : Byte) : Option ChannelId :=
  match b.toNat with
  | 0 => some .bell
  | 1 => some .horn
  | 2 => some .cab
  | _ => none

/-- A mode byte of SOUND_START: bits 7–6 kind, bits 5–0 n for COUNT. HELD, kind 3 and a COUNT above 15 are refused
(R161), so only the modes a LINK request may have are read. -/
def linkModeOf (b : Byte) : Option Mode :=
  match b.toNat / 64 with
  | 0 => if b.toNat ≤ 15 then some (.count b.toNat) else none
  | 2 => some .untilStopped
  | _ => none

/-- The requirement of a set in a requirement byte: two bits per set, set 0 in bits 1–0 (Table 10-7). -/
def requirementOf (b : Byte) (set : Nat) : Option Requirement :=
  match b.toNat / 4 ^ set % 4 with
  | 0 => some .any
  | 1 => some .normal
  | 2 => some .reverse
  | _ => none

/-! ## Command payloads -/

/-- The RESTRICT_POST payload (Table 10-7). -/
def parseRestrictPost : List Byte → Option RestrictPost
  | [id, kind, c1, c0, reason, present, s3, s2, s1, s0, e3, e2, e1, e0] =>
    some { linkId := id, kind := kind, ceiling := half c1 c0, reason := reason,
           start := if present.getLsbD 0 then some (word s3 s2 s1 s0) else none,
           stop := if present.getLsbD 1 then some (word e3 e2 e1 e0) else none }
  | _ => none

/-- The JUNCTION_LOAD payload (Table 10-7). -/
def parseJunctionLoad : List Byte → Option JunctionLoad
  | [i1, i0, n, present, ql, qs, qr, dflt, p3, p2, p1, p0, c1, c0, m1, m0, a1, a0, g1, g0] =>
    some { id := half i1 i0, setCount := n, present := present, reqLeft := ql, reqStraight := qs, reqRight := qr,
           dflt := dflt, loopToPoint := word p3 p2 p1 p0, clearing := half c1 c0, stopMargin := half m1 m0,
           approachCeil := half a1 a0, passingCeil := half g1 g0 }
  | _ => none

/-- The steps of a PATTERN_LOAD payload, six bytes each: period, level, duration (assumption 13). -/
def parseSteps : List Byte → Option (List StepField)
  | [] => some []
  | p1 :: p0 :: l1 :: l0 :: d1 :: d0 :: rest =>
    (parseSteps rest).map
      ({ period := half p1 p0, level := half l1 l0, duration := half d1 d0 : StepField } :: ·)
  | _ => none

/-- The PATTERN_LOAD payload: pattern number, repeat count, step count, first-step index, and 0..8 steps
(R157, Table 10-5; the order of the four bytes is assumption 13). -/
def parsePatternLoad : List Byte → Option PatternLoad
  | number :: repeats :: stepCount :: first :: rest =>
    match parseSteps rest with
    | some steps =>
      if steps.length ≤ 8 then
        some { number := number, repeats := repeats, stepCount := stepCount, first := first, steps := steps }
      else none
    | none => none
  | _ => none

/-- The button map of a CONFIGURE payload: sixteen bytes, button 0 first. -/
def parseButtonMap (l : List Byte) : Vector Byte 16 := Vector.ofFn fun i => l.getD i.val 0

/-- The CONFIGURE payload (Table 10-6). -/
def parseParams : List Byte → Option Params
  | ca1 :: ca0 :: cb1 :: cb0 :: vm1 :: vm0 :: tr :: tf :: br :: bf :: sb :: ds :: cd :: rc1 :: rc0 :: uc1 :: uc0 ::
      fb3 :: fb2 :: fb1 :: fb0 :: sm :: sp :: vn1 :: vn0 :: sides :: rest =>
    match rest.drop 16 with
    | [ct, bc1, bc0, db] =>
      some { circA := half ca1 ca0, circB := half cb1 cb0, vehicleMax := half vm1 vm0, tractionRise := tr,
             tractionFall := tf, brakeRise := br, brakeFall := bf, serviceBrake := sb, descentStep := ds,
             curveDecel := cd, reverseCeil := half rc1 rc0, unknownCeil := half uc1 uc0,
             fallback := word fb3 fb2 fb1 fb0, slipMin := sm, slipPermille := sp, vehicle := half vn1 vn0,
             doorSides := sides, buttonMap := parseButtonMap (rest.take 16), closeTimeout := ct,
             bypassCeil := half bc1 bc0, departureBell := db }
    | _ => none
  | _ => none

/-- The 46 bytes of a configuration record (Table 10-6, R187). -/
def paramsBytes (p : Params) : List Byte :=
  halfBytes p.circA ++ halfBytes p.circB ++ halfBytes p.vehicleMax ++
  [p.tractionRise, p.tractionFall, p.brakeRise, p.brakeFall, p.serviceBrake, p.descentStep, p.curveDecel] ++
  halfBytes p.reverseCeil ++ halfBytes p.unknownCeil ++ wordBytes p.fallback ++ [p.slipMin, p.slipPermille] ++
  halfBytes p.vehicle ++ [p.doorSides] ++ p.buttonMap.toList ++ [p.closeTimeout] ++ halfBytes p.bypassCeil ++
  [p.departureBell]

def orBadLength (c : Option LinkCommand) : LinkCommand := c.getD .badLength

/-- A payload without parameters. -/
def noBytes (c : LinkCommand) : List Byte → LinkCommand
  | [] => c
  | _ => .badLength

/-- A payload of one byte, of two bytes, of one two-byte field. -/
def oneByte (c : Byte → LinkCommand) : List Byte → LinkCommand
  | [a] => c a
  | _ => .badLength

def twoBytes (c : Byte → Byte → LinkCommand) : List Byte → LinkCommand
  | [a, b] => c a b
  | _ => .badLength

def oneHalf (c : Half → LinkCommand) : List Byte → LinkCommand
  | [a, b] => c (half a b)
  | _ => .badLength

/-- R174 judgements 1 and 2: the command that a KIND and a payload name (Tables 10-5 to 10-7 and 10-10). KIND 0x17,
EMERGENCY_STOP, is judged apart (R173). -/
def parseCommand (kind : Byte) (payload : List Byte) : LinkCommand :=
  match kind.toNat with
  | 0x01 => noBytes .identify payload
  | 0x02 => orBadLength ((parseParams payload).map .configure)
  | 0x03 => noBytes .readConfig payload
  | 0x04 => orBadLength ((parseJunctionLoad payload).map .junctionLoad)
  | 0x05 => oneHalf .junctionDrop payload
  | 0x06 => oneHalf .junctionRead payload
  | 0x07 => match payload with
    | [a, b, sel] => .routeAppend (half a b) sel
    | _ => .badLength
  | 0x08 => noBytes .routeClear payload
  | 0x09 => oneByte .routeRead payload
  | 0x0A => orBadLength ((parseRestrictPost payload).map .restrictPost)
  | 0x0B => twoBytes .restrictLift payload
  | 0x0C => twoBytes .restrictRead payload
  | 0x0D => match payload with
    | [ch, pattern, priority, mode] => .soundStart ch pattern priority mode
    | _ => .badLength
  | 0x0E => oneByte .soundStop payload
  | 0x0F => orBadLength ((parsePatternLoad payload).map .patternLoad)
  | 0x10 => twoBytes .patternRead payload
  | 0x11 => noBytes .stopRead payload
  | 0x12 => oneByte .stopClear payload
  | 0x13 => twoBytes .buttonIsolate payload
  | 0x14 => oneByte .statusRead payload
  | 0x15 => oneByte .reportRate payload
  | 0x16 => oneByte .faultsRead payload
  | 0x18 => noBytes .restart payload
  | _ => .unknown

/-! ## STATUS report payload (Table 10-8) -/

def refClassCode : RefClass → Byte
  | .good => 0
  | .single => 1
  | .lost => 2

def standstillCode : Standstill → Byte
  | .standstill => 0
  | .moving => 1
  | .unknown => 2

def bandCode : Band → Byte
  | .normal => 0
  | .warn => 1
  | .intervene => 2

def driveStateCode : DriveState → Byte
  | .unconfigured => 0
  | .tripped => 1
  | .ready => 2

/-- The 23 bytes of a STATUS report payload; bit 0 of the flags byte is the reports-lost flag (Table 10-5). Table 10-8
gives the traction-inhibited condition that R32 has the report carry no byte (assumption 33). -/
def statusBytes (lost : Bool) (v : StatusView) : List Byte :=
  [if lost then 1 else 0] ++ halfBytes (BitVec.ofNat 16 v.ref) ++ [refClassCode v.refClass,
    standstillCode v.standstill, BitVec.ofInt 8 v.u] ++ halfBytes (BitVec.ofNat 16 v.duty) ++
  halfBytes (BitVec.ofNat 16 v.vCeil) ++ halfBytes (BitVec.ofNat 16 v.vSup) ++
  [bandCode v.band, driveStateCode v.driveState] ++ wordBytes v.track ++
  [BitVec.ofNat 8 (v.odometer / 2 ^ 32)] ++ wordBytes (BitVec.ofNat 32 v.odometer)

/-! ## Frame header (Table 10-5) -/

/-- The code of a reply status (Table 10-1). -/
def statusCode : Status → Byte
  | .ok => 0x00
  | .busy => 0x01
  | .unknownCommand => 0x02
  | .badLength => 0x03
  | .outOfRange => 0x04
  | .notOwner => 0x05
  | .full => 0x06
  | .inUse => 0x07
  | .notStandstill => 0x08
  | .unconfigured => 0x09
  | .notFound => 0x0A
  | .refusedState => 0x0B

/-- The KIND of a report (Section 10.8). -/
def reportKind : Report → Byte
  | .status .. => 0x41
  | .junction .. => 0x42
  | .stops .. => 0x43
  | .doors .. => 0x44
  | .restriction .. => 0x45
  | .emergency .. => 0x46
  | .fault .. => 0x47
  | .sound .. => 0x48
  | .linkError .. => 0x49

/-- The value of a fault code (Table 10-3). -/
def faultValue : FaultCode → Byte
  | .axleFault => 0x01
  | .handleFault => 0x02
  | .overspeed => 0x03
  | .vigilance => 0x04
  | .reverser => 0x05
  | .buttonStuck => 0x06
  | .doorUnlocked => 0x07
  | .doorCloseTimeout => 0x08
  | .doorBypass => 0x09
  | .junctionUnknown => 0x0A
  | .junctionWrongLeg => 0x0B
  | .junctionTimeout => 0x0C
  | .junctionLockLost => 0x0D
  | .junctionOverrun => 0x0E
  | .loopCheck => 0x0F
  | .soundDropped => 0x10
  | .routeTruncated => 0x11

/-- R172: a frame on the line: sync, LENGTH, KIND, TAG, payload and check. -/
def frameBytes (kind tag : Byte) (payload : List Byte) : List Byte :=
  let body := BitVec.ofNat 8 (payload.length + 2) :: kind :: tag :: payload
  0xC3 :: body ++ halfBytes (crc 0xFFFF body)

/-! ## Loop pages (Table 10-9) -/

/-- What a beacon shows of one set of points (R94). -/
structure SetView where
  pos    : Option PointPos
  locked : Bool
deriving DecidableEq, Repr

/-- A valid beacon (R89, R94): the sets below its set count alone are kept. -/
structure Beacon where
  junction   : Half
  sets       : List SetView
  controller : Nat
  addressee  : Half
  answer     : Answer
  ackValid   : Bool
  ackToggle  : Bool
deriving DecidableEq, Repr

/-- How the LPT classifies a page (R89). `incomplete` is a run of bytes too short to be a page (R182). -/
inductive PageClass where
  | incomplete
  | request
  | bad
  | beacon (b : Beacon)
deriving DecidableEq, Repr

def answerOf (b : Byte) : Option Answer :=
  match b.toNat with
  | 0 => some .none
  | 1 => some .accepted
  | 2 => some .queued
  | 3 => some .refusedBlocked
  | 4 => some .refusedLocal
  | 5 => some .refusedFault
  | _ => Option.none

/-- A set byte: bits 1–0 detected position, bit 2 locked; a detected position of 3 is out of range (R182). -/
def setViewOf (b : Byte) : Option SetView :=
  match b.toNat % 4 with
  | 0 => some { pos := none, locked := b.getLsbD 2 }
  | 1 => some { pos := some .normal, locked := b.getLsbD 2 }
  | 2 => some { pos := some .reverse, locked := b.getLsbD 2 }
  | _ => none

/-- R89 step 3: the fields of a page whose check agrees. -/
def beaconFields : List Byte → Option Beacon
  | [kind, j1, j0, n, state, s0, s1, s2, s3, a1, a0, answer, ack] =>
    let junction := half j1 j0
    if kind ≠ 0x5A then none
    else if junction.toNat < 1 ∨ 4095 < junction.toNat then none
    else if n.toNat < 1 ∨ 4 < n.toNat then none
    else if 4 < state.toNat then none
    else
      match answerOf answer, (([s0, s1, s2, s3].take n.toNat).mapM setViewOf) with
      | some ans, some sets =>
        some { junction := junction, sets := sets, controller := state.toNat, addressee := half a1 a0,
               answer := ans, ackValid := ack.getLsbD 0, ackToggle := ack.getLsbD 1 }
      | _, _ => none
  | _ => none

/-- R89, R182: the class of a page. -/
def classify (page : List Byte) : PageClass :=
  match page with
  | [] => .incomplete
  | b :: _ =>
    if b = 0xA5 then .request
    else if page.length < 15 then .incomplete
    else
      let body := page.take 13
      if halfBytes (crc 0xFFFF body) ≠ (page.drop 13).take 2 then .bad
      else match beaconFields body with
        | some beacon => .beacon beacon
        | none => .bad

/-- A set byte and an answer byte of a beacon (Table 10-9). -/
def setByte (v : SetView) : Byte :=
  (match v.pos with
    | none => 0
    | some .normal => 1
    | some .reverse => 2) ||| (if v.locked then 4 else 0)

def answerByte : Answer → Byte
  | .none => 0
  | .accepted => 1
  | .queued => 2
  | .refusedBlocked => 3
  | .refusedLocal => 4
  | .refusedFault => 5

/-- The bytes of a beacon page (Table 10-9); a set byte beyond the set count is 0. -/
def beaconBytes (b : Beacon) : List Byte :=
  let set (i : Nat) : Byte := (b.sets[i]?.map setByte).getD 0
  let body := 0x5A :: halfBytes b.junction ++ [BitVec.ofNat 8 b.sets.length, BitVec.ofNat 8 b.controller, set 0, set 1,
    set 2, set 3] ++ halfBytes b.addressee ++ [answerByte b.answer,
    (if b.ackValid then 1 else 0) ||| (if b.ackToggle then 2 else 0)]
  body ++ halfBytes (crc 0xFFFF body)

/-- The bytes of a request page that its check covers, and the page as sent (Table 10-9, R97). -/
def requestBody (junction vehicle : Half) (set : Nat) (pos : PointPos) (last toggle : Bool) : List Byte :=
  0xA5 :: halfBytes junction ++ halfBytes vehicle ++ [BitVec.ofNat 8 set,
    BitVec.ofNat 8 ((if pos = .reverse then 1 else 0) + (if last then 2 else 0) + (if toggle then 4 else 0))]

def requestBytes (p : RequestPage) : List Byte :=
  requestBody p.junction p.vehicle p.set p.pos p.last p.toggle ++ halfBytes p.check

end Sys2Proof.Machine
end

