-- ==== Sys2Proof/Machine/Ops.lean ====
section
/-! DEFINITION. The operations that every block shares: the moment of a command, the outbound queue of the cab
link (R175), the fault set (R179), and the demand value (R62). -/

namespace Sys2Proof.Machine

/-! ## Time -/

/-- The state at the moment `t` of a command; time does not run backwards (assumption 1). -/
def State.atTime (t : Nat) (s : State) : State := { s with now := max s.now t }

/-- A timer that is running has reached its limit (assumption 2). -/
def expired (start : Option Nat) (limit now : Nat) : Bool :=
  match start with
  | none => false
  | some st => st + limit ≤ now

/-- The count in whole ms of a timer started at `start`. -/
def elapsedMs (start now : Nat) : Nat := (now - start) / 1000

/-! ## Outbound queue (R175) -/

def OutFrame.isReply : OutFrame → Bool
  | .reply .. => true
  | .report .. => false

/-- The replies, and the reports, that stand in a queue. -/
def replyCount (q : List OutFrame) : Nat := q.countP OutFrame.isReply
def reportCount (q : List OutFrame) : Nat := q.countP (fun f => !f.isReply)

/-- R175: the head of the queue begins transmission. A report has the reports-lost flag written into its flags
byte, and the flag is cleared. -/
def Clp.beginHead (c : Clp) : Clp :=
  match c.outbound with
  | .report tag _ body :: rest => { c with outbound := .report tag (some c.lost) body :: rest, lost := false }
  | _ => c

/-- A frame joins the tail of the outbound queue; on an empty queue its transmission begins at once. -/
def Clp.join (f : OutFrame) (c : Clp) : Clp :=
  match c.outbound with
  | [] => ({ c with outbound := [f] } : Clp).beginHead
  | q => { c with outbound := q ++ [f] }

/-- R175: a report is raised. It advances the report sequence and takes its new value as TAG; while twelve reports
stand it is discarded and the reports-lost flag is set. -/
def Clp.raise (r : Report) (c : Clp) : Clp :=
  let c := { c with sequence := c.sequence + 1 }
  if reportCount c.outbound < Config.reportSlots then c.join (.report c.sequence none r)
  else { c with lost := true }

/-- R175: a reply joins the queue, in which at most eight may stand. -/
def Clp.pushReply (f : OutFrame) (c : Clp) : Clp :=
  if replyCount c.outbound < Config.replySlots then c.join f else c

def State.raise (r : Report) (s : State) : State := { s with clp := s.clp.raise r }

def State.raiseAll (rs : List Report) (s : State) : State := rs.foldl (fun s r => s.raise r) s

def State.pushReply (f : OutFrame) (s : State) : State := { s with clp := s.clp.pushReply f }

/-! ## Fault set (R179) -/

/-- The published odometer in mm (R14). -/
def Amu.odometerMm (a : Amu) : Nat := a.odometer / Config.unitsPerMm

def FaultEntry.isFor (code : FaultCode) (index : Nat) (e : FaultEntry) : Bool :=
  e.code = code && e.index = index

/-- R179: a latch. An existing entry has its count raised and its active flag set; otherwise a new entry joins with
a FAULT report, or, at 32 entries, the overflow flag is set. -/
def Clp.latch (code : FaultCode) (index odometer : Nat) (c : Clp) : Clp :=
  if c.faults.any (FaultEntry.isFor code index) then
    { c with faults := c.faults.map fun e =>
        if e.isFor code index then { e with count := min 255 (e.count + 1), active := true } else e }
  else if c.faults.length < Config.faultSlots then
    let e : FaultEntry := { code := code, index := index, count := 1, firstSeen := odometer, active := true }
    let c := { c with faults := c.faults ++ [e] }
    c.raise (.fault e c.faults.length c.overflow)
  else { c with overflow := true }

/-- R179: a block tells the set that the condition of a persistent fault no longer stands. -/
def Clp.clearFault (code : FaultCode) (index : Nat) (c : Clp) : Clp :=
  { c with faults := c.faults.map fun e => if e.isFor code index then { e with active := false } else e }

def State.latch (code : FaultCode) (index : Nat) (s : State) : State :=
  { s with clp := s.clp.latch code index s.amu.odometerMm }

def State.clearFault (code : FaultCode) (index : Nat) (s : State) : State :=
  { s with clp := s.clp.clearFault code index }

/-! ## Demand value -/

/-- R62: every change of u writes the demand-line buffer at the moment of the change. -/
def State.setU (u : Int) (s : State) : State := { s with drc := { s.drc with u := u, buffer := u } }

/-! ## Distance between track positions -/

/-- R15: the distance from x to y, formed as a signed 32-bit value. -/
def distance (x y : Pos) : Int := (y - x).toInt

/-- R15: the published track position, the accumulator divided by 64, truncated toward zero. -/
def Amu.trackMm (a : Amu) : Pos := BitVec.ofInt 32 (a.track.toInt.tdiv 64)

/-! ## Small collections -/

def Amu.channel (a : Amu) : Axle → AxleChannel
  | .A => a.a
  | .B => a.b

def Amu.setChannel (ax : Axle) (c : AxleChannel) (a : Amu) : Amu :=
  match ax with
  | .A => { a with a := c }
  | .B => { a with b := c }

def otherAxle : Axle → Axle
  | .A => .B
  | .B => .A

/-- The index of an axle in the fault set (Table 10-3). -/
def axleIndex : Axle → Nat
  | .A => 0
  | .B => 1

def Table.get (t : Table) : Slot → Option Entry
  | .route => t.route
  | .doors => t.doors
  | .reverse => t.reverse
  | .link i => t.link[i]

def Table.set (slot : Slot) (e : Option Entry) (t : Table) : Table :=
  match slot with
  | .route => { t with route := e }
  | .doors => { t with doors := e }
  | .reverse => { t with reverse := e }
  | .link i => { t with link := t.link.set i e }

/-- The nine slots, in the order ROUTE, DOORS, REVERSE, link ids 1 to 6. -/
def allSlots : List Slot :=
  [.route, .doors, .reverse, .link 0, .link 1, .link 2, .link 3, .link 4, .link 5]

/-- The link slots by rising link id. -/
def linkSlots : List Slot := [.link 0, .link 1, .link 2, .link 3, .link 4, .link 5]

/-- The entries of the table. -/
def Table.entries (t : Table) : List Entry := allSlots.filterMap t.get

end Sys2Proof.Machine
end

