-- ==== Sys2Proof/Machine/Flags.lean ====
section
/-! DEFINITION. The conditions and values that the manual derives from the state: the standstill state, the
effective ceiling, the traction-inhibited condition, the service state of a button, the conditions under which
timers run and persistent faults stand. -/

namespace Sys2Proof.Machine

/-! ## Configuration record (Table 10-6, Table 11-1) -/

/-- The circumference in force for an axle (R16). -/
def circumference (p : Params) : Axle → Nat
  | .A => p.circA.toNat
  | .B => p.circB.toNat

/-- The side of a door: bit d set means RIGHT (Table 10-6). -/
def doorSide (p : Params) (d : Fin 8) : Side := if p.doorSides.getLsbD d then .right else .left

/-- A byte of the button map: UNUSED, or a door with a kind (Table 10-6). -/
def mappingOf (b : Byte) : Option (Fin 8 × StopKind) :=
  let door : Fin 8 := Fin.ofNat 8 b.toNat
  match b.toNat / 64 with
  | 0 => none
  | 1 => some (door, .alight)
  | 2 => some (door, .board)
  | _ => some (door, .access)

def mapping (p : Params) (i : Fin 16) : Option (Fin 8 × StopKind) := mappingOf p.buttonMap[i]

/-! ## Axle measurement -/

/-- R11: the standstill state, a function of the two classes alone. -/
def standstillOf (a b : AxleClass) : Standstill :=
  if a = .good ∨ b = .good then .moving
  else if a = .fault ∧ b = .fault then .unknown
  else .standstill

def Amu.standstill (a : Amu) : Standstill := standstillOf a.a.cls a.b.cls

/-- R11: the standstill flag. -/
def Amu.atStandstill (a : Amu) : Bool := a.standstill = .standstill

/-- R12: the odometer axle. -/
def Amu.odometerAxle (a : Amu) : Option Axle :=
  if a.b.cls ≠ .fault then some .B
  else if a.a.cls ≠ .fault then some .A
  else none

/-- R8: the conditions under which the plausibility timer of an axle runs. -/
def plausible (u : Int) (own other : AxleChannel) : Bool :=
  0 ≤ u && own.cls = .zero && other.cls = .good && Config.plausibilitySpeed < other.speed

/-- R9, R52: a slip threshold, formed from a speed. -/
def slipThreshold (p : Params) (speed : Nat) : Nat :=
  max p.slipMin.toNat (speed * p.slipPermille.toNat / 1000)

/-! ## Restriction table -/

/-- R31: the effective ceiling over the ACTIVE entries. -/
def effectiveCeiling (vehicleMax : Nat) (entries : List Entry) : Nat :=
  entries.foldl (fun v e =>
    match e.phase, e.kind with
    | .active, .ceiling => min v e.ceiling
    | .active, .hold => 0
    | _, _ => v) vehicleMax

/-- An ACTIVE entry of kind INHIBIT or HOLD. -/
def Entry.inhibits (e : Entry) : Bool := e.phase = .active && e.kind ≠ .ceiling

/-- R32: the traction-inhibited condition. -/
def Drc.inhibited (d : Drc) : Bool :=
  d.table.entries.any Entry.inhibits || d.driveState ≠ .ready || d.reverser = .neutral

/-- R26: the occupancy of a slot. -/
def occupancy : Option Entry → Occupancy
  | none => .empty
  | some e => match e.phase with
    | .armed => .armed
    | .active => .active

def Drc.tableView (d : Drc) : TableView where
  slots := allSlots.map fun sl => occupancy (d.table.get sl)
  vCeil := d.vCeil
  vSup := d.vSup
  inhibited := d.inhibited

/-! ## Vigilance -/

/-- R50: the conditions under which the vigilance timer runs. -/
def vigilanceRuns (s : State) : Bool :=
  s.drc.driveState = .ready && !s.amu.atStandstill && !s.drc.deadman

/-! ## Stop requests -/

/-- R129: the service state of a button. -/
def service (p : Params) (i : Fin 16) (c : Conditioner) : Service :=
  if c.isolated then .isolated
  else if (mapping p i).isNone then .unused
  else if c.stuck then .stuck
  else .inService

/-- R130: the conditions under which the hold timer runs. -/
def holdRuns (p : Params) (i : Fin 16) (c : Conditioner) : Bool :=
  c.level && (mapping p i).isSome && !c.isolated && !c.stuck

/-! ## Doors -/

def allDoors : List (Fin 8) := List.finRange 8
def allButtons : List (Fin 16) := List.finRange 16

def Sdu.allLocked (d : Sdu) : Bool := allDoors.all fun i => d.locked[i]

/-- The side of a session in RELEASED or CLOSING. -/
def DoorState.session : DoorState → Option Side
  | .released side => some side
  | .closing side => some side
  | _ => Option.none

/-- R150: whether the condition of DOOR_UNLOCKED stands for a door. -/
def doorFaultStands (p : Params) (d : Sdu) (i : Fin 8) : Bool :=
  !d.locked[i] &&
    match d.door with
    | .unsafe_ => true
    | .bypassed => true
    | .released side => doorSide p i ≠ side
    | .closing side => doorSide p i ≠ side
    | .none => false

def Sdu.view (d : Sdu) : DoorView where
  state := d.door
  outputs := d.outputs
  locked := d.locked
  bypass := d.bypass
  timerRunning := d.closeTimer.isSome

/-! ## Persistent faults -/

/-- R180: the persistent conditions that stand, in the order in which the blocks are asked: the AMU for each axle,
the DRC for the handle, the SDU for each button, for each door and for the bypass; within one block's items the order is
axle A before B and rising index (DESIGN CHOICE, assumption 44). -/
def standingFaults (s : State) : List (FaultCode × Nat) :=
  (if s.amu.a.cls = .fault then [(FaultCode.axleFault, 0)] else []) ++
  (if s.amu.b.cls = .fault then [(FaultCode.axleFault, 1)] else []) ++
  (if s.drc.handleFault then [(FaultCode.handleFault, 0)] else []) ++
  (allButtons.filter fun i => s.sdu.buttons[i].stuck).map (fun i => (FaultCode.buttonStuck, i.val)) ++
  (allDoors.filter fun i => doorFaultStands s.params s.sdu i).map (fun i => (FaultCode.doorUnlocked, i.val)) ++
  (if s.sdu.door = .bypassed then [(FaultCode.doorBypass, 0)] else [])

/-! ## Views -/

/-- The fields of the STATUS report as they stand (Table 10-8, R178, R32). -/
def State.statusView (s : State) : StatusView where
  ref := s.drc.ref
  refClass := s.drc.refClass
  standstill := s.amu.standstill
  u := s.drc.u
  duty := s.drc.duty
  vCeil := s.drc.vCeil
  vSup := s.drc.vSup
  band := s.drc.band
  driveState := s.drc.driveState
  track := s.amu.trackMm
  odometer := s.amu.odometerMm
  inhibited := s.drc.inhibited

/-- Section 0 of STATUS_READ (R177). -/
def State.driveView (s : State) : DriveView where
  status := s.statusView
  speedA := s.amu.a.speed
  classA := s.amu.a.cls
  speedB := s.amu.b.speed
  classB := s.amu.b.cls
  tripReason := s.drc.tripReason
  resetCount := s.drc.resetCount
  h := s.drc.h
  handleFault := s.drc.handleFault
  brakeHeld := s.drc.brakeHeld
  inhibited := s.drc.inhibited
  adhesion := s.drc.adhesion
  tcap := s.drc.tcap
  bcap := s.drc.bcap
  sand := s.drc.sand

/-- Section 1 of STATUS_READ (R104). -/
def Lpt.view (l : Lpt) : LoopView where
  contact := l.contact
  badCount := l.badCount
  toggleMemory := l.toggleMemory
  held := l.held.map fun p => (p.set, p.pos, p.last, p.toggle, p.check)

end Sys2Proof.Machine
end

