-- ==== Sys2Proof/Machine/Sound.lean ====
section
/-! DEFINITION. The Tone Unit (Chapter 9): patterns, the arrival of requests, pre-emption, ending and resumption,
the tone outputs, and the commands HORN_BUTTON_CHANGE, BELL_PEDAL_CHANGE, STEP_END and TONE_PERIOD_END. -/

namespace Sys2Proof.Machine

/-! ## Patterns (R156) -/

def bellStroke : Nat := 0
def bellDouble : Nat := 1
def bellRing : Nat := 2
def hornSteady : Nat := 3
def cabChime : Nat := 4
def cabWarning : Nat := 5
def cabAlarm : Nat := 6
def cabRefuse : Nat := 7

def toneStep (period level duration : Nat) : Step := { period := period, level := level, duration := duration }
def silence (duration : Nat) : Step := { period := 0, level := 0, duration := duration }

/-- The built-in patterns 0..7 (Table 9-1). -/
def builtInPatterns : List Pattern :=
  [ { steps := [toneStep 1250 500 120, silence 380], repeats := 1 },
    { steps := [toneStep 1250 500 120, silence 180, toneStep 1250 500 120, silence 380], repeats := 1 },
    { steps := [toneStep 1250 500 120, silence 130], repeats := 0 },
    { steps := [toneStep 2500 450 500], repeats := 0 },
    { steps := [toneStep 1500 200 150, toneStep 2000 200 250], repeats := 1 },
    { steps := [toneStep 1000 300 200, silence 200], repeats := 0 },
    { steps := [toneStep 700 400 150, toneStep 1000 400 150], repeats := 3 },
    { steps := [toneStep 500 250 60, silence 60, toneStep 500 250 60], repeats := 1 } ]

/-- The pattern of a number, if it is not EMPTY. -/
def Tnu.pattern (t : Tnu) (n : Nat) : Option Pattern :=
  if n < 8 then builtInPatterns[n]? else (t.patterns.toList[n - 8]?).join

/-- A step of a pattern; a pattern that is EMPTY has only silence. -/
def stepOf (p : Option Pattern) (i : Nat) : Step :=
  match p with
  | some p => (p.steps[i]?).getD (silence 0)
  | none => silence 0

/-! ## Channels -/

def Tnu.channel (t : Tnu) : ChannelId → Channel
  | .bell => t.bell
  | .horn => t.horn
  | .cab => t.cab

def Tnu.setChannel (ch : ChannelId) (c : Channel) (t : Tnu) : Tnu :=
  match ch with
  | .bell => { t with bell := c }
  | .horn => { t with horn := c }
  | .cab => { t with cab := c }

/-- R155: a request's key is its pair of source and pattern. -/
def Request.hasKey (source : Source) (pattern : Nat) (r : Request) : Bool :=
  r.source = source && r.pattern = pattern

/-- R159: the repeat target; `none` is CONTINUOUS. -/
def repeatTarget (p : Option Pattern) : Mode → Option Nat
  | .count 0 => match p with
    | some p => if p.repeats = 0 then none else some p.repeats
    | none => some 1
  | .count n => some n
  | .held => none
  | .untilStopped => none

/-- The step in force on a channel. -/
def Channel.inForce (pat : Nat → Option Pattern) (c : Channel) : Option Step :=
  c.playing.map fun p => stepOf (pat p.saved.req.pattern) p.saved.step

/-- R154: the high time of a tone period in µs, of its length and its level in permille, truncated. -/
def toneHighTime (period level : Nat) : Nat := period * level / 1000

/-- R154: the level of an output at a moment of its running period: high for its high time, then low. -/
def ToneOutput.high (now : Nat) : ToneOutput → Bool
  | .silent => false
  | .sounding period level st => st ≤ now && now < st + toneHighTime period level

/-- R154: while the output is SILENT it starts a period as soon as a step with a tone period other than 0 is in
force. -/
def Channel.refresh (pat : Nat → Option Pattern) (now : Nat) (c : Channel) : Channel :=
  match c.output, c.inForce pat with
  | .silent, some st =>
    if st.period = 0 then c else { c with output := .sounding st.period st.level now }
  | _, _ => c

/-- A request begins to play from step 0 (R164, R166). -/
def start (pat : Nat → Option Pattern) (now : Nat) (r : Request) : Playing where
  saved := { req := r, step := 0, repeats := 0, remaining := (stepOf (pat r.pattern) 0).duration }
  since := now

/-- R162: the remaining time of a playing context, in ms. -/
def Playing.left (now : Nat) (p : Playing) : Nat := p.saved.remaining - elapsedMs p.since now

/-- A playing context with its remaining time frozen (R164). -/
def Playing.freeze (now : Nat) (p : Playing) : Saved := { p.saved with remaining := p.left now }

/-- R162: what follows the end of a step: the next step or repeat, or `none` when the pattern has completed. -/
def advance (p : Option Pattern) (c : Saved) : Option Saved :=
  let count := (p.map fun p => p.steps.length).getD 0
  if c.step + 1 < count then
    some { c with step := c.step + 1, remaining := (stepOf p (c.step + 1)).duration }
  else
    let again : Saved := { c with step := 0, repeats := min 15 (c.repeats + 1), remaining := (stepOf p 0).duration }
    match repeatTarget p c.req.mode with
    | none => some again
    | some n => if c.repeats + 1 < n then some again else none

/-- A request that leaves its channel: the cause of its SOUND report, the request and its repeats done (R169). -/
structure Exit where
  cause   : SoundCause
  req     : Request
  repeats : Nat
deriving DecidableEq, Repr

/-- R166: the head of the queue plays next rather than the top of the stack: the stack is empty, or its top has
the lower priority. -/
def Channel.queueFirst (c : Channel) : Bool :=
  match c.stack, c.queue with
  | _, [] => false
  | [], _ :: _ => true
  | sv :: _, r :: _ => sv.req.priority < r.priority

/-- R166: what plays after the playing context has ended. A context that was saved with no time left moves on at
once (R162), and its ended step is never in force at the output (DESIGN CHOICE, assumption 40). The first argument
bounds the number of contexts that can complete in this way. -/
def Channel.chooseNext (pat : Nat → Option Pattern) (now : Nat) : Nat → Channel → Channel × List Exit
  | 0, c => ({ c with playing := none }, [])
  | n + 1, c =>
    if c.queueFirst then
      match c.queue with
      | [] => ({ c with playing := none }, [])
      | r :: rest => ({ c with playing := some (start pat now r), queue := rest }, [])
    else
      match c.stack with
      | [] => ({ c with playing := none }, [])
      | sv :: below =>
        if sv.remaining ≠ 0 then
          ({ c with playing := some { saved := sv, since := now }, stack := below }, [])
        else
          match advance (pat sv.req.pattern) sv with
          | some sv' => ({ c with playing := some { saved := sv', since := now }, stack := below }, [])
          | none =>
            let (c', exits) := Channel.chooseNext pat now n { c with stack := below }
            (c', ⟨.completed, sv.req, min 15 (sv.repeats + 1)⟩ :: exits)

/-- R166: the playing context has ended. -/
def Channel.endPlaying (pat : Nat → Option Pattern) (now : Nat) (c : Channel) : Channel × List Exit :=
  c.chooseNext pat now (c.stack.length + 1)

/-- R165: a request is placed by priority and, among equal priorities, by arrival rank. -/
def place (r : Request) : List Request → List Request
  | [] => [r]
  | q :: rest =>
    if q.priority > r.priority ∨ (q.priority = r.priority ∧ q.rank < r.rank) then q :: place r rest
    else r :: q :: rest

/-- What an arrival does to a channel: the channel after it, its outcome, the context discarded from the bottom of a
full stack (R164) and the request displaced from a full queue (R165). -/
structure Arrival where
  channel   : Channel
  outcome   : SoundOutcome
  dropped   : Option Saved
  displaced : Option Request
deriving DecidableEq, Repr

/-- R155: waiting requests are renumbered from 0 in their queue order. -/
def renumber (q : List Request) : List Request := q.mapIdx fun i r => { r with rank := i }

/-- R155: the next arrival rank, after renumbering the queue when it would pass 255. -/
def Channel.rankNext (c : Channel) : Nat × Channel :=
  if c.nextRank ≤ 255 then (c.nextRank, { c with nextRank := c.nextRank + 1 })
  else (c.queue.length, { c with queue := renumber c.queue, nextRank := c.queue.length + 1 })

/-- R164 and R165: a request that R163 passes on plays at once, waits, or is discarded. -/
def Channel.playOrWait (pat : Nat → Option Pattern) (now : Nat) (r : Request) (c : Channel) : Arrival :=
  match c.playing with
  | none => { channel := { c with playing := some (start pat now r) }, outcome := .started, dropped := none,
              displaced := none }
  | some p =>
    if p.saved.req.priority < r.priority then
      let full := Config.stackSlots ≤ c.stack.length
      { channel := { c with playing := some (start pat now r),
                            stack := p.freeze now :: (if full then c.stack.dropLast else c.stack) },
        outcome := .started
        dropped := if full then c.stack.getLast? else none
        displaced := none }
    else if c.queue.length < Config.queueSlots then
      let q := place r c.queue
      { channel := { c with queue := q }, outcome := .waiting (q.idxOf r), dropped := none, displaced := none }
    else
      match c.queue.getLast? with
      | some low =>
        if low.priority < r.priority then
          let q := place r c.queue.dropLast
          { channel := { c with queue := q }, outcome := .waiting (q.idxOf r), dropped := none,
            displaced := some low }
        else { channel := c, outcome := .full, dropped := none, displaced := none }
      | none => { channel := c, outcome := .full, dropped := none, displaced := none }

/-- R163: a context takes an arriving request's mode and keeps everything else. -/
def Saved.withMode (m : Mode) (sv : Saved) : Saved := { sv with req := { sv.req with mode := m } }

def Saved.update (key : Request → Bool) (m : Mode) (sv : Saved) : Saved :=
  if key sv.req then sv.withMode m else sv

/-- R163: a request arrives at a channel and is first matched by its key. -/
def Channel.arrive (pat : Nat → Option Pattern) (now : Nat) (r : Request) (c : Channel) : Arrival :=
  let key := Request.hasKey r.source r.pattern
  if (c.playing.map fun p => key p.saved.req) = some true then
    { channel := { c with playing := c.playing.map fun p => { p with saved := p.saved.withMode r.mode } },
      outcome := .updated, dropped := none, displaced := none }
  else if c.stack.any (fun sv => key sv.req) then
    { channel := { c with stack := c.stack.map (Saved.update key r.mode) },
      outcome := .updated, dropped := none, displaced := none }
  else
    match c.queue.find? key with
    | some old =>
      ({ c with queue := c.queue.filter fun q => !key q } : Channel).playOrWait pat now { r with rank := old.rank }
    | none =>
      let (rank, c) := c.rankNext
      c.playOrWait pat now { r with rank := rank }

/-- R167: the request of a key is removed wherever it stands. -/
def Channel.remove (pat : Nat → Option Pattern) (now : Nat) (source : Source) (pattern : Nat) (c : Channel) :
    Channel × List Exit :=
  let key := Request.hasKey source pattern
  if (c.playing.map fun p => key p.saved.req) = some true then c.endPlaying pat now
  else ({ c with stack := c.stack.filter fun sv => !key sv.req, queue := c.queue.filter fun q => !key q }, [])

/-! ## The Tone Unit as part of the state -/

def State.channel (ch : ChannelId) (s : State) : Channel := s.tnu.channel ch

/-- A channel takes its new contents, and its output follows them (R154). -/
def State.setChannel (ch : ChannelId) (c : Channel) (s : State) : State :=
  { s with tnu := s.tnu.setChannel ch (c.refresh s.tnu.pattern s.now) }

/-- R169: a SOUND report is sent for a request of source LINK that leaves its channel, and for no other. -/
def State.reportExit (ch : ChannelId) (e : Exit) (s : State) : State :=
  if e.req.source = .link then
    s.raise (.sound ch e.req.pattern e.req.priority e.req.mode e.repeats e.cause)
  else s

def State.reportExits (ch : ChannelId) (es : List Exit) (s : State) : State :=
  es.foldl (fun s e => s.reportExit ch e) s

/-- A request arrives at a channel (R163 to R165, R169): the latch of SOUND_DROPPED, then the SOUND reports. -/
def State.requestSound (ch : ChannelId) (r : Request) (s : State) : State × SoundOutcome :=
  let a := (s.channel ch).arrive s.tnu.pattern s.now r
  let s := s.setChannel ch a.channel
  let s := match a.dropped with
    | some sv => (s.latch .soundDropped 0).reportExit ch ⟨.dropped, sv.req, sv.repeats⟩
    | none => s
  let s := match a.displaced with
    | some q => s.reportExit ch ⟨.displaced, q, 0⟩
    | none => s
  (s, a.outcome)

/-- A request of one of the part's own sources (Table 9-2); its outcome is not told. -/
def State.sound (ch : ChannelId) (pattern priority : Nat) (source : Source) (mode : Mode) (s : State) : State :=
  (s.requestSound ch { pattern := pattern, priority := priority, source := source, mode := mode, rank := 0 }).1

/-- R167: an end request. -/
def State.endSound (ch : ChannelId) (source : Source) (pattern : Nat) (s : State) : State :=
  let (c, exits) := (s.channel ch).remove s.tnu.pattern s.now source pattern
  (s.setChannel ch c).reportExits ch exits

/-- R162: the step of the playing context has ended. -/
def State.stepEnd (ch : ChannelId) (s : State) : State :=
  match (s.channel ch).playing with
  | none => s
  | some p =>
    if p.left s.now = 0 then
      match advance (s.tnu.pattern p.saved.req.pattern) p.saved with
      | some sv => s.setChannel ch { s.channel ch with playing := some { saved := sv, since := s.now } }
      | none =>
        let (c, exits) := (s.channel ch).endPlaying s.tnu.pattern s.now
        let done : Exit := ⟨.completed, p.saved.req, min 15 (p.saved.repeats + 1)⟩
        (s.setChannel ch c).reportExits ch (done :: exits)
    else s

/-- R154: the running tone period has ended. -/
def State.tonePeriodEnd (ch : ChannelId) (s : State) : State :=
  let c := s.channel ch
  match c.output with
  | .silent => s
  | .sounding period _ st =>
    if st + period ≤ s.now then
      s.setChannel ch { c with output := .silent }
    else s

/-! ## Requests and ends of the part's own sources (Table 9-2) -/

def State.requestVigilanceWarning (s : State) : State := s.sound .cab cabWarning 7 .vigilance .held
def State.requestDriveWarning (s : State) : State := s.sound .cab cabWarning 6 .drive .held
def State.requestAlarm (s : State) : State := s.sound .cab cabAlarm 7 .drive (.count 3)
def State.requestJunctionWarning (s : State) : State := s.sound .cab cabWarning 6 .route (.count 2)
def State.requestRefuse (source : Source) (s : State) : State := s.sound .cab cabRefuse 3 source (.count 0)
def State.requestChime (s : State) : State := s.sound .cab cabChime 2 .stops (.count 1)
def State.requestDepartureBell (s : State) : State := s.sound .bell bellDouble 4 .doors (.count 0)

/-- R160: a taken change of the horn button. -/
def State.hornChange (pressed : Bool) (s : State) : State :=
  if s.tnu.hornDown = pressed then s
  else
    let s := { s with tnu := { s.tnu with hornDown := pressed } }
    if pressed then s.sound .horn hornSteady 6 .driverHorn .held else s.endSound .horn .driverHorn hornSteady

/-- R160: a taken change of the bell pedal. -/
def State.pedalChange (pressed : Bool) (s : State) : State :=
  if s.tnu.pedalDown = pressed then s
  else
    let s := { s with tnu := { s.tnu with pedalDown := pressed } }
    if pressed then s.sound .bell bellRing 5 .driverBell .held else s.endSound .bell .driverBell bellRing

/-! ## RESTART (R171) -/

/-- A channel after RESTART: its output runs its period to the end. -/
def Channel.restarted (c : Channel) : Channel := { Channel.initial with output := c.output }

def Tnu.restarted (t : Tnu) : Tnu :=
  { t with bell := t.bell.restarted, horn := t.horn.restarted, cab := t.cab.restarted,
           patterns := Vector.replicate 16 none, loadBuffer := none }

/-! ## What the cab computer sees (R158, R170) -/

def Channel.view (t : Tnu) (now : Nat) (c : Channel) : ChannelView where
  output := match c.output with
    | .silent => none
    | .sounding period level _ => some (period, level)
  playing := c.playing.map (·.freeze now)
  stack := c.stack.reverse.map fun sv => (sv.req.pattern, sv.req.source, sv.req.priority, sv.step)
  queue := c.queue.map fun r => (r.pattern, r.source, r.priority)
  loadBuffer := t.loadBuffer.map (·.number)

/-- Whether a pattern is playing, saved and waiting on a channel (R158). -/
def Channel.uses (n : Nat) (c : Channel) : Bool × Bool × Bool :=
  ((c.playing.map fun p => p.saved.req.pattern) = some n, c.stack.any (fun sv => sv.req.pattern = n),
    c.queue.any (fun r => r.pattern = n))

/-- R157 check 7: a pattern is playing, saved or waiting on any channel. -/
def Tnu.inUse (t : Tnu) (n : Nat) : Bool :=
  [t.bell, t.horn, t.cab].any fun c => (c.uses n).1 || (c.uses n).2.1 || (c.uses n).2.2

/-! ## The commands -/

/-- HORN_BUTTON_CHANGE (R160, R167). -/
def execHornButtonChange (t stood : Nat) (pressed : Bool) (s : State) : Host.Outcome State Fault Refusal :=
  let s := s.atTime t
  .next (if Config.soundContactMs ≤ stood then s.hornChange pressed else s)

/-- BELL_PEDAL_CHANGE (R160, R167). -/
def execBellPedalChange (t stood : Nat) (pressed : Bool) (s : State) : Host.Outcome State Fault Refusal :=
  let s := s.atTime t
  .next (if Config.soundContactMs ≤ stood then s.pedalChange pressed else s)

/-- STEP_END (R162). -/
def execStepEnd (t : Nat) (channel : ChannelId) (s : State) : Host.Outcome State Fault Refusal :=
  .next ((s.atTime t).stepEnd channel)

/-- TONE_PERIOD_END (R154). -/
def execTonePeriodEnd (t : Nat) (channel : ChannelId) (s : State) : Host.Outcome State Fault Refusal :=
  .next ((s.atTime t).tonePeriodEnd channel)

end Sys2Proof.Machine
end

