-- ==== Sys2Proof/Machine/Restriction.lean ====
section
/-! DEFINITION. The restriction table (Chapter 2): posts and lifts by the internal owners and from the cab link,
the effective and the supervised ceiling, the clip at the moment of posting, and RESTRICTION reports. -/

namespace Sys2Proof.Machine

/-- R31, R34: after a table change V_ceil is recomputed, and V_sup is raised to it where it is lower. -/
def Drc.recompute (vehicleMax : Nat) (d : Drc) : Drc :=
  let v := effectiveCeiling vehicleMax d.table.entries
  { d with vCeil := v, vSup := max d.vSup v }

def State.recompute (s : State) : State :=
  { s with drc := s.drc.recompute s.params.vehicleMax.toNat }

/-- The slot takes its new contents and the ceilings follow (R21, R22, R24, R25). -/
def State.writeSlot (slot : Slot) (e : Option Entry) (s : State) : State :=
  State.recompute { s with drc := { s.drc with table := s.drc.table.set slot e } }

/-- R29: an entry of kind INHIBIT or HOLD that becomes ACTIVE sets a u above 0 to 0. -/
def State.clip (e : Entry) (s : State) : State :=
  if e.inhibits ∧ 0 < s.drc.u then s.setU 0 else s

/-- R30: a RESTRICTION report with V_ceil and V_sup as they stand. -/
def State.reportEntry (event : RestrictEvent) (slot : Slot) (e : Entry) (s : State) : State :=
  s.raise (.restriction event slot e s.drc.vCeil s.drc.vSup)

/-- R21, R24: the ceiling stored for INHIBIT and HOLD is 0. -/
def storedCeiling (kind : Kind) (ceiling : Nat) : Nat := if kind = .ceiling then ceiling else 0

/-- R21: the entry that an internal owner posts. -/
def internalEntry (kind : Kind) (ceiling : Nat) (reason : Byte) : Entry where
  kind := kind
  ceiling := storedCeiling kind ceiling
  reason := reason
  start := none
  stop := none
  phase := .active

/-- R21: a post by an internal owner. -/
def State.post (slot : Slot) (kind : Kind) (ceiling : Nat) (reason : Byte) (s : State) : State :=
  let e := internalEntry kind ceiling reason
  match s.drc.table.get slot with
  | none => ((s.writeSlot slot (some e)).clip e).reportEntry (.posted false) slot e
  | some old =>
    if old.kind = e.kind ∧ old.ceiling = e.ceiling ∧ old.reason = e.reason then s
    else
      let s := (s.writeSlot slot (some e)).clip e
      if old.kind = e.kind ∧ old.reason = e.reason then s else s.reportEntry (.posted true) slot e

/-- R22: a lift by an internal owner. -/
def State.lift (slot : Slot) (s : State) : State :=
  match s.drc.table.get slot with
  | none => s
  | some e => (s.writeSlot slot none).reportEntry .lifted slot e

/-! ## Fixed reason codes (Table 2-2) -/

def reasonApproach : Byte := 0xE1
def reasonPassing : Byte := 0xE2
def reasonUnknownJunction : Byte := 0xE3
def reasonDoorHold : Byte := 0xE4
def reasonBypass : Byte := 0xE5
def reasonReversing : Byte := 0xE6

/-! ## Commands of the cab link -/

/-- What a command's owner answers: the status, the check number of an OUT_OF_RANGE, and the data. -/
structure Verdict where
  status : Status
  check  : Option Byte
  data   : ReplyData
deriving DecidableEq, Repr

def Verdict.ok (d : ReplyData) : Verdict := { status := .ok, check := none, data := d }
def Verdict.plain (st : Status) : Verdict := { status := st, check := none, data := .none }
def Verdict.range (n : Byte) : Verdict := { status := .outOfRange, check := some n, data := .none }

/-- An OUT_OF_RANGE whose check number the rule does not state: a free value (assumption 8). -/
def Verdict.rangeUnnamed (kind : Byte) (clause : Nat) : Verdict := .range (Config.unnamedCheck kind clause)

/-- The slot of a link id (R20). -/
def linkSlot (id : Byte) : Option Slot :=
  if h : 1 ≤ id.toNat ∧ id.toNat ≤ 6 then some (.link ⟨id.toNat - 1, by omega⟩) else none

/-- R23 check 4: both positions are present and the distance from start to end is 0 or less. -/
def emptyStretch (p : RestrictPost) : Bool :=
  match p.start, p.stop with
  | some a, some b => distance a b ≤ 0
  | _, _ => false

/-- R24: the entry that a RESTRICT_POST writes, its phase set against the track position. -/
def linkEntry (track : Pos) (kind : Kind) (p : RestrictPost) : Entry where
  kind := kind
  ceiling := storedCeiling kind p.ceiling.toNat
  reason := p.reason
  start := p.start
  stop := p.stop
  phase := match p.start with
    | some a => if 0 < distance track a then .armed else .active
    | none => .active

/-- RESTRICT_POST at the DRC (R23, R24). -/
def State.restrictPost (p : RestrictPost) (s : State) : State × Verdict :=
  match linkSlot p.linkId with
  | none => (s, .range 1)
  | some slot =>
    match kindOf p.kind with
    | none => (s, .range 2)
    | some kind =>
      if kind = .ceiling ∧ 3000 < p.ceiling.toNat then (s, .range 3)
      else if emptyStretch p then (s, .range 4)
      else
        let e := linkEntry s.amu.trackMm kind p
        let replaced := (s.drc.table.get slot).isSome
        let s := ((s.writeSlot slot (some e)).clip e).reportEntry (.posted replaced) slot e
        (s, .ok (.posted e.phase s.drc.vCeil s.drc.vSup))

/-- RESTRICT_LIFT at the DRC (R25). -/
def State.restrictLift (owner linkId : Byte) (s : State) : State × Verdict :=
  match owner.toNat with
  | 0 | 1 | 2 => (s, .plain .notOwner)
  | 3 =>
    match linkSlot linkId with
    | none => (s, .rangeUnnamed 0x0B 2)
    | some slot =>
      match s.drc.table.get slot with
      | none => (s, .plain .notFound)
      | some e =>
        let s := (s.writeSlot slot none).reportEntry .lifted slot e
        (s, .ok (.lifted s.drc.vCeil s.drc.vSup))
  | _ => (s, .rangeUnnamed 0x0B 1)

/-- The slot that an owner code and a link id name (Table 10-10), or the clause of R26 that refuses them. -/
def slotNamed (owner linkId : Byte) : Except Nat Slot :=
  match owner.toNat with
  | 0 => .ok .route
  | 1 => .ok .doors
  | 2 => .ok .reverse
  | 3 => match linkSlot linkId with
    | some slot => .ok slot
    | none => .error 2
  | _ => .error 1

/-- RESTRICT_READ at the DRC (R26). -/
def State.restrictRead (owner linkId : Byte) (s : State) : Verdict :=
  match slotNamed owner linkId with
  | .error clause => .rangeUnnamed 0x0C clause
  | .ok slot =>
    match s.drc.table.get slot with
    | some e => .ok (.restriction (some (slot, e)) s.drc.tableView)
    | none => { status := .notFound, check := none, data := .restriction none s.drc.tableView }

/-! ## The ceiling stage of the control interval (R27, R28, R31, R33) -/

/-- R27: an ARMED entry whose start the tram has reached. -/
def Entry.starts (track : Pos) (e : Entry) : Bool :=
  e.phase = .armed && match e.start with
    | some a => 0 ≤ distance a track
    | none => false

/-- R28: an ACTIVE entry whose end the tram has reached. -/
def Entry.ends (track : Pos) (e : Entry) : Bool :=
  e.phase = .active && match e.stop with
    | some a => 0 ≤ distance a track
    | none => false

/-- R27 for one slot: the table after it, u clipped, and the event to report. -/
def State.activateSlot (track : Pos) (slot : Slot) (s : State) : State × List (RestrictEvent × Slot × Entry) :=
  match s.drc.table.get slot with
  | some e =>
    if e.starts track then
      let e := { e with phase := Phase.active }
      (State.clip e { s with drc := { s.drc with table := s.drc.table.set slot (some e) } },
        [(.activated, slot, e)])
    else (s, [])
  | none => (s, [])

/-- R28 for one slot. -/
def State.expireSlot (track : Pos) (slot : Slot) (s : State) : State × List (RestrictEvent × Slot × Entry) :=
  match s.drc.table.get slot with
  | some e =>
    if e.ends track then
      ({ s with drc := { s.drc with table := s.drc.table.set slot none } }, [(.expired, slot, e)])
    else (s, [])
  | none => (s, [])

/-- A judgement made slot by slot, in the order of the link ids (assumption 10). -/
def State.judgeSlots (judge : Slot → State → State × List (RestrictEvent × Slot × Entry)) (slots : List Slot)
    (s : State) : State × List (RestrictEvent × Slot × Entry) :=
  slots.foldl (fun (acc : State × List (RestrictEvent × Slot × Entry)) slot =>
    let (s, es) := judge slot acc.1
    (s, acc.2 ++ es)) (s, [])

/-- R33: V_sup follows V_ceil upward at once, and downward from the tram's own speed by the descent step. -/
def Drc.superviseCeiling (step : Nat) (d : Drc) : Drc :=
  { d with vSup := if d.vSup ≤ d.vCeil then d.vCeil else max d.vCeil (min d.vSup d.ref - step) }

/-- Stage 4 of the control interval (R59): activations, expiries, V_ceil, V_sup; then the reports of the entries,
with the ceilings that the stage formed (assumption 10). -/
def State.ceilingStage (s : State) : State :=
  let track := s.amu.trackMm
  let (s, activated) := s.judgeSlots (State.activateSlot track) linkSlots
  let (s, gone) := s.judgeSlots (State.expireSlot track) linkSlots
  let s := s.recompute
  let s := { s with drc := s.drc.superviseCeiling s.params.descentStep.toNat }
  (activated ++ gone).foldl (fun s e => s.reportEntry e.1 e.2.1 e.2.2) s

/-! ## RESTART (R20, R35) -/

/-- The LINK slots are emptied, without reports, and the ceilings are recomputed. -/
def State.dropLinkEntries (s : State) : State :=
  State.recompute { s with drc := { s.drc with table := { s.drc.table with link := Vector.replicate 6 none } } }

end Sys2Proof.Machine
end

