-- ==== Sys2Proof/Machine/StopList.lean ====
section
/-! DEFINITION. The stop list (Section 7.5) with its lamps, its chime and its reports, and the owner's side of
STOP_CLEAR and STOP_READ. -/

namespace Sys2Proof.Machine

/-! ## Entries (R134, R135) -/

def StopEntry.has (e : StopEntry) : StopKind → Bool
  | .alight => e.alight
  | .board => e.board
  | .access => e.access

def StopEntry.add (k : StopKind) (e : StopEntry) : StopEntry :=
  match k with
  | .alight => { e with alight := true }
  | .board => { e with board := true }
  | .access => { e with access := true }

/-- R135: a new entry. -/
def newStop (d : Fin 8) (k : StopKind) : StopEntry :=
  ({ door := d, alight := false, board := false, access := false, count := 1 } : StopEntry).add k

/-- R135: a request for a listed door. -/
def StopEntry.merge (k : StopKind) (e : StopEntry) : StopEntry := { e.add k with count := min 255 (e.count + 1) }

def listed (d : Fin 8) (l : List StopEntry) : Bool := l.any fun e => e.door = d

/-- R135: the list after a request. -/
def mergeStop (d : Fin 8) (k : StopKind) (l : List StopEntry) : List StopEntry :=
  if listed d l then l.map fun e => if e.door = d then e.merge k else e else l ++ [newStop d k]

/-! ## Lamps and reports (R138, R140) -/

/-- R138: the lamps follow the list. -/
def Sdu.setStops (l : List StopEntry) (d : Sdu) : Sdu :=
  { d with stops := l, stopLamp := !l.isEmpty, rampLamp := l.any fun e => e.access }

def State.setStops (l : List StopEntry) (s : State) : State := { s with sdu := s.sdu.setStops l }

/-- R140: a STOPS report with the list and the lamps as they stand. -/
def State.reportStops (cause : StopsCause) (s : State) : State :=
  s.raise (.stops cause s.sdu.stops s.sdu.stopLamp s.sdu.rampLamp)

/-- R135: a stop request is offered to the list. -/
def State.offerStop (door : Fin 8) (button : Fin 16) (kind : StopKind) (s : State) : State :=
  let before := s.sdu.stops
  let after := mergeStop door kind before
  if after = before then s
  else
    let s := (s.setStops after).reportStops
      (if listed door before then .merged door button kind else .added door button kind)
    if before = [] then s.requestChime else s

/-! ## STOP_CLEAR and STOP_READ (R136, R137) -/

/-- The target of a STOP_CLEAR: `none` is ALL (Table 10-10). -/
def stopTarget (b : Byte) : Option (Option (Fin 8)) :=
  if h : b.toNat < 8 then some (some ⟨b.toNat, h⟩) else if b = 0xFF then some none else none

/-- STOP_CLEAR at the SDU. -/
def State.stopClear (target : Byte) (s : State) : State × Verdict :=
  match stopTarget target with
  | none => (s, .rangeUnnamed 0x12 1)
  | some (some d) =>
    if listed d s.sdu.stops then
      let after := s.sdu.stops.filter fun e => e.door ≠ d
      ((s.setStops after).reportStops (.cleared d),
        .ok (.stopsCleared (s.sdu.stops.length - after.length) after.length))
    else (s, .plain .notFound)
  | some none =>
    if s.sdu.stops = [] then (s, .ok (.stopsCleared 0 0))
    else ((s.setStops []).reportStops .clearedAll, .ok (.stopsCleared s.sdu.stops.length 0))

/-- STOP_READ at the SDU. -/
def State.stopRead (s : State) : Verdict :=
  .ok (.stopList s.sdu.stops.length (s.sdu.stops.map fun e => (e, doorSide s.params e.door)) s.sdu.stopLamp
    s.sdu.rampLamp (allButtons.map fun i => service s.params i s.sdu.buttons[i]))

end Sys2Proof.Machine
end

