-- ==== Sys2Proof/Machine/Doors.lean ====
section
/-! DEFINITION. Door release (Chapter 8): the door state machine, its hold in the restriction table, and the commands
RELEASE_PRESS, CLOSE_PRESS, CLOSE_TIMER_EXPIRY, DOOR_INPUT_CHANGE, BYPASS_ON, BYPASS_OFF and the return of a cab door
button to inactive. -/

namespace Sys2Proof.Machine

/-! ## Shared steps -/

/-- R152: a DOORS report. -/
def State.reportDoors (cause : DoorsCause) (before : DoorState) (s : State) : State :=
  s.raise (.doors cause before s.sdu.view)

/-- R152: the door state changes, with a DOORS report of cause STATE. Of two changes in one event each report has the
states before and after its own change (DESIGN CHOICE, assumption 42). -/
def State.setDoor (d : DoorState) (s : State) : State :=
  State.reportDoors .state s.sdu.door { s with sdu := { s.sdu with door := d } }

/-- R143: the DOORS entry as HOLD, and as the bypass CEILING. -/
def State.postHold (s : State) : State := s.post .doors .hold 0 reasonDoorHold
def State.postBypass (s : State) : State := s.post .doors .ceiling s.params.bypassCeil.toNat reasonBypass

/-- R150: DOOR_UNLOCKED is latched for each of some doors. -/
def State.latchUnlocked (doors : List (Fin 8)) (s : State) : State :=
  doors.foldl (fun s d => s.latch .doorUnlocked d.val) s

def allClosed : Vector DoorOutput 8 := Vector.replicate 8 .closed

def Sdu.unlocked (d : Sdu) : List (Fin 8) := allDoors.filter fun i => !d.locked[i]

/-- R144, R151: the close timer stops and every output is CLOSED. -/
def Sdu.shut (d : Sdu) : Sdu := { d with closeTimer := none, outputs := allClosed }

/-- R151: the doors that entering BYPASSED latches: those of the session's side that are not locked. -/
def bypassLatches (p : Params) (d : Sdu) : List (Fin 8) :=
  match d.door.session with
  | some side => d.unlocked.filter fun i => doorSide p i = side
  | none => []

/-- R151: BYPASSED is entered; DOOR_UNLOCKED is latched by rising door (DESIGN CHOICE, assumption 39). -/
def State.enterBypassed (s : State) : State :=
  let doors := bypassLatches s.params s.sdu
  ((((State.postBypass { s with sdu := s.sdu.shut }).latch .doorBypass 0).latchUnlocked doors).setDoor .bypassed)

/-- R150: UNSAFE is entered from NONE with some doors found not locked, and with the switch ON the same event enters
BYPASSED. -/
def State.enterUnsafe (doors : List (Fin 8)) (s : State) : State :=
  let s := (s.postHold.latchUnlocked doors).setDoor .unsafe_
  if s.sdu.bypass then s.enterBypassed else s

/-- R149: the closing completes. -/
def State.completeClosing (s : State) : State :=
  let s := (State.lift .doors { s with sdu := { s.sdu with closeTimer := none } }).setDoor .none
  if s.params.departureBell = 0 then s else s.requestDepartureBell

/-- R150, R151: a return to NONE from UNSAFE or BYPASSED. -/
def State.returnToNone (s : State) : State := (s.lift .doors).setDoor .none

/-! ## Release (R144, R145) -/

/-- R144: the conditions of an accepted release. -/
def releaseAllowed (side : Side) (s : State) : Bool :=
  s.drc.driveState ≠ .unconfigured &&
    (s.amu.atStandstill || (s.drc.refClass = .lost && Config.releaseBrakeHeld ≤ s.drc.brakeHeld)) &&
    !s.rtm.zone && (allDoors.any fun d => doorSide s.params d = side) && !s.sdu.bypass

/-- R145 step 2: the outputs of an accepted release. -/
def releaseOutputs (p : Params) (side : Side) (stops : List StopEntry) : Vector DoorOutput 8 :=
  Vector.ofFn fun d =>
    if doorSide p d = side then (if listed d stops then .opened else .enabled) else .closed

/-- R145 step 3: the entries of a side leave the stop list, with one STOPS report if there were any. -/
def State.releaseStops (side : Side) (s : State) : State :=
  let gone := s.sdu.stops.filter fun e => doorSide s.params e.door = side
  if gone = [] then s
  else (s.setStops (s.sdu.stops.filter fun e => doorSide s.params e.door ≠ side)).reportStops
    (.released side (gone.map (·.door)))

/-- R145: an accepted release. -/
def State.release (side : Side) (s : State) : State :=
  let s := s.postHold
  let s := { s with sdu := { s.sdu with outputs := releaseOutputs s.params side s.sdu.stops } }
  (s.releaseStops side).setDoor (.released side)

/-- R148: a re-release. -/
def State.reRelease (side : Side) (s : State) : State :=
  State.setDoor (.released side)
    { s with sdu := { s.sdu with closeTimer := none, outputs := releaseOutputs s.params side [] } }

/-- R144: a refused release. -/
def State.refuseRelease (s : State) : State := s.requestRefuse .doors

/-- R144: a release request for a side. -/
def State.releaseRequest (side : Side) (s : State) : State :=
  match s.sdu.door with
  | .none => if releaseAllowed side s then s.release side else s.refuseRelease
  | .released cur => if cur = side then s else s.refuseRelease
  | .closing cur => if cur = side then s.reRelease side else s.refuseRelease
  | .unsafe_ => s.refuseRelease
  | .bypassed => s.refuseRelease

/-! ## Closing (R147) -/

/-- R147: a press of the door close button. -/
def State.closeRequest (s : State) : State :=
  match s.sdu.door with
  | .released side =>
    let s := State.setDoor (.closing side)
      { s with sdu := { s.sdu with outputs := allClosed, closeTimer := some s.now } }
    if s.sdu.allLocked then s.completeClosing else s
  | _ => s

/-- R148: the close timer has reached the timeout. -/
def State.closeTimeout (s : State) : State :=
  if expired s.sdu.closeTimer (s.params.closeTimeout.toNat * 1000000) s.now then
    State.latch .doorCloseTimeout 0 { s with sdu := { s.sdu with closeTimer := none } }
  else s

/-! ## Stop requests of the session's side (R146, R148) -/

/-- R146, R148: a stop request that R129 routes to the door state machine. -/
def State.sessionRequest (door : Fin 8) (button : Fin 16) (s : State) : State :=
  match s.sdu.door with
  | .released _ =>
    if s.sdu.outputs[door] = .enabled then
      State.reportDoors (.output door button) s.sdu.door
        { s with sdu := { s.sdu with outputs := s.sdu.outputs.set door .opened } }
    else s
  | .closing _ => s.reportDoors (.latePress door button) s.sdu.door
  | _ => s

/-! ## Door inputs (R142, R146, R149, R150) -/

/-- A door is taken as not locked. -/
def State.doorUnlocks (door : Fin 8) (s : State) : State :=
  match s.sdu.door with
  | .none => s.enterUnsafe [door]
  | .released side => if doorSide s.params door = side then s else s.latchUnlocked [door]
  | .closing side => if doorSide s.params door = side then s else s.latchUnlocked [door]
  | .unsafe_ => s.latchUnlocked [door]
  | .bypassed => s.latchUnlocked [door]

/-- A door is taken as locked. -/
def State.doorLocks (door : Fin 8) (s : State) : State :=
  let s := s.clearFault .doorUnlocked door.val
  match s.sdu.door with
  | .closing _ => if s.sdu.allLocked then s.completeClosing else s
  | .unsafe_ => if s.sdu.allLocked then s.returnToNone else s
  | .none => s
  | .released _ => s
  | .bypassed => s

/-- R142: a taken change of a door input; before the first accepted CONFIGURE the level alone is kept. -/
def State.doorInput (door : Fin 8) (locked : Bool) (s : State) : State :=
  if s.sdu.locked[door] = locked then s
  else
    let s := { s with sdu := { s.sdu with locked := s.sdu.locked.set door locked } }
    if !s.configured then s
    else if locked then s.doorLocks door
    else s.doorUnlocks door

/-- R150, R186: the examination of the door levels at the first accepted CONFIGURE. -/
def State.examineDoors (s : State) : State :=
  if s.sdu.unlocked = [] then s else s.enterUnsafe s.sdu.unlocked

/-! ## Bypass switch (R151) -/

/-- R151: the switch is taken as turned ON. -/
def State.bypassOn (s : State) : State :=
  if s.sdu.bypass then s
  else
    let s := { s with sdu := { s.sdu with bypass := true } }
    if !s.configured then s
    else
      match s.sdu.door with
      | .released _ => s.enterBypassed
      | .closing _ => s.enterBypassed
      | .unsafe_ => s.enterBypassed
      | .none => s
      | .bypassed => s

/-- R151: BYPASSED is left at the switch; DOOR_UNLOCKED is latched by rising door (DESIGN CHOICE, assumption 39). -/
def State.leaveBypassed (s : State) : State :=
  let s := s.clearFault .doorBypass 0
  if s.sdu.allLocked then s.returnToNone
  else (s.postHold.latchUnlocked s.sdu.unlocked).setDoor .unsafe_

/-- R151: the switch is taken as turned OFF. -/
def State.bypassOff (s : State) : State :=
  if s.sdu.bypass then
    let s := { s with sdu := { s.sdu with bypass := false } }
    if s.configured ∧ s.sdu.door = .bypassed then s.leaveBypassed else s
  else s

/-! ## Cab door buttons (R142) -/

def Sdu.armed (d : Sdu) : DoorButton → Bool
  | .releaseLeft => d.armedLeft
  | .releaseRight => d.armedRight
  | .close => d.armedClose

def Sdu.arm (b : DoorButton) (v : Bool) (d : Sdu) : Sdu :=
  match b with
  | .releaseLeft => { d with armedLeft := v }
  | .releaseRight => { d with armedRight := v }
  | .close => { d with armedClose := v }

def releaseButton : Side → DoorButton
  | .left => .releaseLeft
  | .right => .releaseRight

/-- R142: a taken press of a cab door button; before the first accepted CONFIGURE it is discarded. -/
def State.doorPress (b : DoorButton) (act : State → State) (s : State) : State :=
  if s.sdu.armed b then
    let s := { s with sdu := s.sdu.arm b false }
    if s.configured then act s else s
  else s

/-! ## The commands -/

/-- RELEASE_PRESS (R142, R144). -/
def execReleasePress (t stood : Nat) (side : Side) (s : State) : Host.Outcome State Fault Refusal :=
  let s := s.atTime t
  .next (if Config.buttonMs ≤ stood then s.doorPress (releaseButton side) (State.releaseRequest side) else s)

/-- CLOSE_PRESS (R142, R147). -/
def execClosePress (t stood : Nat) (s : State) : Host.Outcome State Fault Refusal :=
  let s := s.atTime t
  .next (if Config.buttonMs ≤ stood then s.doorPress .close State.closeRequest else s)

/-- The return of a cab door button to inactive (R142): its next press can be taken. -/
def execCabDoorButtonInactive (t stood : Nat) (button : DoorButton) (s : State) :
    Host.Outcome State Fault Refusal :=
  let s := s.atTime t
  .next (if Config.buttonMs ≤ stood then { s with sdu := s.sdu.arm button true } else s)

/-- CLOSE_TIMER_EXPIRY (R148). -/
def execCloseTimerExpiry (t : Nat) (s : State) : Host.Outcome State Fault Refusal :=
  .next (s.atTime t).closeTimeout

/-- DOOR_INPUT_CHANGE (R142, R146, R148 to R151). -/
def execDoorInputChange (t stood : Nat) (door : Fin 8) (locked : Bool) (s : State) :
    Host.Outcome State Fault Refusal :=
  let s := s.atTime t
  .next (if Config.buttonMs ≤ stood then s.doorInput door locked else s)

/-- BYPASS_ON (R151). -/
def execBypassOn (t stood : Nat) (s : State) : Host.Outcome State Fault Refusal :=
  let s := s.atTime t
  .next (if Config.buttonMs ≤ stood then s.bypassOn else s)

/-- BYPASS_OFF (R151). -/
def execBypassOff (t stood : Nat) (s : State) : Host.Outcome State Fault Refusal :=
  let s := s.atTime t
  .next (if Config.buttonMs ≤ stood then s.bypassOff else s)

end Sys2Proof.Machine
end

