-- ==== Sys2Proof/Machine/Buttons.lean ====
section
/-! DEFINITION. The button conditioners (Sections 7.1 to 7.4): debounce, stuck buttons, isolation, mapping, the routing
of a stop request, and the commands BUTTON_INPUT_CHANGE, SETTLE_TIMER_EXPIRY, HOLD_TIMER_EXPIRY and
RECOVERY_TIMER_EXPIRY. -/

namespace Sys2Proof.Machine

/-! ## Conditioners -/

/-- R130, R131, R133: the hold and recovery timers of a conditioner start, run on or stop by its conditions as they
now stand. -/
def Conditioner.settleTimers (p : Params) (i : Fin 16) (now : Nat) (c : Conditioner) : Conditioner :=
  { c with hold := if holdRuns p i c then some (c.hold.getD now) else none,
           recovery := if c.stuck ∧ !c.level then some (c.recovery.getD now) else none }

/-- R128: the raw input changes. -/
def Conditioner.input (now : Nat) (raw : Bool) (c : Conditioner) : Conditioner :=
  if c.raw = raw then c
  else { c with raw := raw, settle := if raw = c.level then none else some now }

/-- R128: the settle timer has reached 40 ms. -/
def Conditioner.settled (p : Params) (i : Fin 16) (now : Nat) (c : Conditioner) : Conditioner :=
  ({ c with level := c.raw, settle := none } : Conditioner).settleTimers p i now

/-- R130: the hold timer has reached 20 000 ms. -/
def Conditioner.stick (p : Params) (i : Fin 16) (now : Nat) (c : Conditioner) : Conditioner :=
  ({ c with stuck := true } : Conditioner).settleTimers p i now

/-- R131, R132, R133: the button is no longer stuck. -/
def Conditioner.unstick (p : Params) (i : Fin 16) (now : Nat) (c : Conditioner) : Conditioner :=
  ({ c with stuck := false } : Conditioner).settleTimers p i now

def State.setButton (i : Fin 16) (c : Conditioner) (s : State) : State :=
  { s with sdu := { s.sdu with buttons := s.sdu.buttons.set i c } }

/-! ## Routing a stop request (R129) -/

/-- R129: the door state machine takes a request for a door of its session's side, the stop list any other. -/
def State.stopRequest (door : Fin 8) (button : Fin 16) (kind : StopKind) (s : State) : State :=
  if s.sdu.door.session = some (doorSide s.params door) then s.sessionRequest door button
  else s.offerStop door button kind

/-- R129: a taken press; it is a stop request only of a button IN_SERVICE. -/
def State.takePress (i : Fin 16) (s : State) : State :=
  if service s.params i s.sdu.buttons[i] = .inService then
    match mapping s.params i with
    | some (door, kind) => s.stopRequest door i kind
    | none => s
  else s

/-! ## Timers -/

/-- R128: the settle timer of a button. -/
def State.settleButton (i : Fin 16) (s : State) : State :=
  let c := s.sdu.buttons[i]
  if expired c.settle Config.settleTime s.now then
    let s := s.setButton i (c.settled s.params i s.now)
    if c.raw ∧ !c.level then s.takePress i else s
  else s

/-- R130: the hold timer of a button. -/
def State.holdButton (i : Fin 16) (s : State) : State :=
  let c := s.sdu.buttons[i]
  if expired c.hold Config.holdTime s.now then
    (s.setButton i (c.stick s.params i s.now)).latch .buttonStuck i.val
  else s

/-- R131: the recovery timer of a button. -/
def State.recoverButton (i : Fin 16) (s : State) : State :=
  let c := s.sdu.buttons[i]
  if expired c.recovery Config.recoveryTime s.now then
    (s.setButton i (c.unstick s.params i s.now)).clearFault .buttonStuck i.val
  else s

/-- R128: the raw input of a button changes. -/
def State.buttonInput (i : Fin 16) (raw : Bool) (s : State) : State :=
  s.setButton i (s.sdu.buttons[i].input s.now raw)

/-! ## BUTTON_ISOLATE (R132) -/

/-- R132: ISOLATE. -/
def State.isolateButton (i : Fin 16) (s : State) : State :=
  let c := s.sdu.buttons[i]
  let s := s.setButton i (({ c with isolated := true } : Conditioner).unstick s.params i s.now)
  if c.stuck then s.clearFault .buttonStuck i.val else s

/-- R132: RESTORE. -/
def State.restoreButton (i : Fin 16) (s : State) : State :=
  let c := s.sdu.buttons[i]
  s.setButton i (({ c with isolated := false } : Conditioner).settleTimers s.params i s.now)

/-- R132: what the reply to BUTTON_ISOLATE carries. -/
def State.buttonData (i : Fin 16) (s : State) : ReplyData :=
  let c := s.sdu.buttons[i]
  .button i.val (mapping s.params i) c.level (service s.params i c)

/-- BUTTON_ISOLATE at the SDU. With both fields out of range the index is refused (DESIGN CHOICE, assumption 45). -/
def State.buttonIsolate (index action : Byte) (s : State) : State × Verdict :=
  if h : index.toNat < 16 then
    let i : Fin 16 := ⟨index.toNat, h⟩
    match action.toNat with
    | 0 => let s := s.isolateButton i; (s, .ok (s.buttonData i))
    | 1 => let s := s.restoreButton i; (s, .ok (s.buttonData i))
    | _ => (s, .rangeUnnamed 0x13 2)
  else (s, .rangeUnnamed 0x13 1)

/-! ## CONFIGURE (R133) -/

/-- R133 for one conditioner: the new mapping stands in the configuration record. -/
def State.remapButton (s : State) (i : Fin 16) : State :=
  let c := s.sdu.buttons[i]
  if c.stuck ∧ (mapping s.params i).isNone then
    (s.setButton i (c.unstick s.params i s.now)).clearFault .buttonStuck i.val
  else s.setButton i (c.settleTimers s.params i s.now)

/-- R133 for all sixteen. -/
def State.remapButtons (s : State) : State := allButtons.foldl State.remapButton s

/-! ## The commands -/

/-- BUTTON_INPUT_CHANGE (R128). -/
def execButtonInputChange (t : Nat) (button : Fin 16) (raw : Bool) (s : State) :
    Host.Outcome State Fault Refusal :=
  .next ((s.atTime t).buttonInput button raw)

/-- SETTLE_TIMER_EXPIRY (R128, R129). -/
def execSettleTimerExpiry (t : Nat) (button : Fin 16) (s : State) : Host.Outcome State Fault Refusal :=
  .next ((s.atTime t).settleButton button)

/-- HOLD_TIMER_EXPIRY (R130). -/
def execHoldTimerExpiry (t : Nat) (button : Fin 16) (s : State) : Host.Outcome State Fault Refusal :=
  .next ((s.atTime t).holdButton button)

/-- RECOVERY_TIMER_EXPIRY (R131). -/
def execRecoveryTimerExpiry (t : Nat) (button : Fin 16) (s : State) : Host.Outcome State Fault Refusal :=
  .next ((s.atTime t).recoverButton button)

end Sys2Proof.Machine
end

