-- ==== Sys2Proof/Machine/Drive.lean ====
section
/-! DEFINITION. The Drive Controller (Chapter 3): trips and the reset procedure, the handle, the cab contacts,
vigilance, reference speed, adhesion, supervision bands, the control interval, the demand line, and the commands
that bear on them. -/

namespace Sys2Proof.Machine

/-! ## Conditions that run timers -/

/-- R8: the plausibility timer of an axle starts, runs on, or is set to 0, by its conditions as they now stand. -/
def State.settlePlausibility (ax : Axle) (s : State) : State :=
  let own := s.amu.channel ax
  if plausible s.drc.u own (s.amu.channel (otherAxle ax)) then
    if own.plausTimer.isSome then s
    else { s with amu := s.amu.setChannel ax { own with plausTimer := some s.now } }
  else { s with amu := s.amu.setChannel ax { own with plausTimer := none } }

/-- R38, R50: the DRC ends the CAB_WARNING request of source VIGILANCE that it holds. -/
def State.endVigilanceWarning (s : State) : State :=
  if s.drc.warnVigilance then
    State.endSound .cab .vigilance cabWarning { s with drc := { s.drc with warnVigilance := false } }
  else s

/-- R38, R58: the DRC ends the CAB_WARNING request of source DRIVE that it holds. -/
def State.endDriveWarning (s : State) : State :=
  if s.drc.warnDrive then
    State.endSound .cab .drive cabWarning { s with drc := { s.drc with warnDrive := false } }
  else s

/-- R50: the vigilance timer starts, runs on, or stops with the end of its warning, by its conditions as they now
stand. -/
def State.settleVigilance (s : State) : State :=
  if vigilanceRuns s then
    if s.drc.vigilance.isSome then s else { s with drc := { s.drc with vigilance := some s.now } }
  else State.endVigilanceWarning { s with drc := { s.drc with vigilance := none } }

/-- R8, R50: after an event that may change an axle class or speed, u, the drive state or the deadman. -/
def State.settle (s : State) : State :=
  ((s.settlePlausibility .A).settlePlausibility .B).settleVigilance

/-! ## Trips (R38, R64) -/

/-- R64: an EMERGENCY report. -/
def State.reportEmergency (before : DriveState) (s : State) : State :=
  s.raise (.emergency before s.drc.driveState s.drc.tripReason s.drc.refClass s.drc.ref s.amu.odometerMm)

/-- The fault that a trip of a cause latches (R38). -/
def tripFault : TripReason → Option FaultCode
  | .overspeed => some .overspeed
  | .vigilance => some .vigilance
  | .reverser => some .reverser
  | .configured => none
  | .emergencyDetent => none
  | .linkStop => none

/-- Steps 1 to 5 of R38 from READY. -/
def Drc.enterTripped (cause : TripReason) (d : Drc) : Drc :=
  { d with driveState := .tripped, tripReason := some cause, loop := false, u := -100, buffer := -100,
           resetCount := 0, vigilance := none, band := .normal }

/-- What a trip hands on (R38): the warnings end, the alarm is requested, the EMERGENCY report is sent, and the
fault of the cause is latched (its place after the report is assumption 11). -/
def State.handOnTrip (before : DriveState) (cause : TripReason) (s : State) : State :=
  let s := ((s.endVigilanceWarning.endDriveWarning).requestAlarm).reportEmergency before
  match tripFault cause with
  | some code => s.latch code 0
  | none => s

/-- R38: a trip. In UNCONFIGURED a trip cause has no effect. -/
def State.trip (cause : TripReason) (s : State) : State :=
  match s.drc.driveState with
  | .unconfigured => s
  | .tripped =>
    State.handOnTrip .tripped cause { s with drc := { s.drc with tripReason := some cause, resetCount := 0 } }
  | .ready => State.handOnTrip .ready cause { s with drc := s.drc.enterTripped cause }

/-! ## Stage 1: handle (R44 to R46) -/

/-- R44: the handle value of a cycle, or `none` when the cycle makes the handle FAULT. -/
def handleValue (width period : Nat) : Option Int :=
  if period < 800 ∨ 1200 < period then none
  else
    let d := width * 1000 / period
    if d < 50 ∨ 950 < d then none
    else
      let clamped := min 900 (max 100 d)
      let h := ((clamped : Int) - 500).tdiv 4
      some (if -3 ≤ h ∧ h ≤ 3 then 0 else h)

/-- R44: the handle as a control interval judges it; `none` is FAULT. With no completed cycle the handle is FAULT
(assumption 20). -/
def Drc.judgeHandle (now : Nat) (d : Drc) : Option Int :=
  match d.lastCycle with
  | none => none
  | some c => if c.doneAt + Config.handleAge < now then none else handleValue c.width c.period

/-- Stage 1. -/
def State.handleStage (s : State) : State :=
  match s.drc.judgeHandle s.now with
  | some h =>
    let left := s.drc.handleFault
    let held := if h = -100 then min 65535 (s.drc.brakeHeld + 20) else 0
    let s := { s with drc := { s.drc with h := h, handleFault := false, brakeHeld := held } }
    if left then s.clearFault .handleFault 0 else s
  | none =>
    let entered := !s.drc.handleFault
    let s := { s with drc := { s.drc with h := -100, handleFault := true, brakeHeld := 0 } }
    if entered then s.latch .handleFault 0 else s

/-! ## Stage 2: reference (R51) -/

/-- R51: an axle's speed as it counts: 0 for a ZERO axle. -/
def AxleChannel.counted (c : AxleChannel) : Nat := if c.cls = .zero then 0 else c.speed

/-- Table 3-4. -/
def reference (u : Int) (a b : AxleChannel) : RefClass × Nat :=
  if a.cls ≠ .fault ∧ b.cls ≠ .fault then
    (.good, if 0 ≤ u then min a.counted b.counted else max a.counted b.counted)
  else if a.cls ≠ .fault then (.single, a.counted)
  else if b.cls ≠ .fault then (.single, b.counted)
  else (.lost, 0)

/-- Stage 2. -/
def State.referenceStage (s : State) : State :=
  let (c, r) := reference s.drc.u s.amu.a s.amu.b
  { s with drc := { s.drc with refClass := c, ref := r } }

/-! ## Stage 3: adhesion (R52 to R56) -/

/-- R52: the difference of the two axle speeds. -/
def axleDifference (a b : AxleChannel) : Nat :=
  max a.counted b.counted - min a.counted b.counted

/-- R55: a cap relaxes by one and is removed at its end. -/
def relaxTcap : Option Int → Option Int
  | none => none
  | some c => if 100 ≤ c + 1 then none else some (c + 1)

def relaxBcap : Option Int → Option Int
  | none => none
  | some c => if c - 1 ≤ -100 then none else some (c - 1)

/-- R55, R56: while the condition is NONE the caps relax and the sand run-on counts down. -/
def Drc.relax (d : Drc) : Drc :=
  if d.adhesion = .none then
    { d with tcap := relaxTcap d.tcap, bcap := relaxBcap d.bcap, runOn := d.runOn - 1,
             sand := if d.runOn = 0 then d.sand else 1 < d.runOn }
  else d

/-- R52: the detection of a slip. -/
def Drc.detectSlip (d : Drc) : Drc :=
  let cap := max 0 (d.u - Config.adhesionCut)
  { d with adhesion := .slip, quiet := 0, tcap := some cap, u := min d.u cap, buffer := min d.u cap, sand := true }

/-- R53: the detection of a slide. -/
def Drc.detectSlide (d : Drc) : Drc :=
  let cap := min 0 (d.u + Config.adhesionCut)
  { d with adhesion := .slide, quiet := 0, bcap := some cap, u := max d.u cap, buffer := max d.u cap, sand := true }

/-- R54: the end of a condition. -/
def Drc.endCondition (d : Drc) : Drc :=
  { d with adhesion := .none, quiet := 0, runOn := Config.sandRunOn }

/-- R52 to R54: detection, then the agreement of the axles. -/
def Drc.judgeAdhesion (threshold diff : Nat) (d : Drc) : Drc :=
  if d.refClass = .good ∧ 0 < d.u ∧ threshold < diff then d.detectSlip
  else if d.driveState = .ready ∧ d.refClass = .good ∧ d.u < 0 ∧ threshold < diff then d.detectSlide
  else if d.adhesion = .none then d
  else if d.refClass ≠ .good then d.endCondition
  else if diff ≤ threshold / 2 then
    if Config.quietIntervals ≤ d.quiet + 1 then d.endCondition else { d with quiet := d.quiet + 1 }
  else { d with quiet := 0 }

/-- Stage 3. -/
def State.adhesionStage (s : State) : State :=
  let d := s.drc.relax
  { s with drc := d.judgeAdhesion (slipThreshold s.params d.ref) (axleDifference s.amu.a s.amu.b) }

/-! ## Stage 5: band or reset (R40, R57, R58) -/

/-- Table 3-5; `none` is a trip of cause OVERSPEED. -/
def nextBand (previous : Band) (margin : Int) : Option Band :=
  if Config.interveneMargin < margin then none
  else if margin ≤ 0 then some .normal
  else if previous = .intervene then some .intervene
  else if margin ≤ Config.warnMargin then some .warn
  else some .intervene

/-- R58: the band is set, and the DRIVE warning is requested or ended. -/
def State.setBand (b : Band) (s : State) : State :=
  let previous := s.drc.band
  let s := { s with drc := { s.drc with band := b } }
  if b = .normal then s.endDriveWarning
  else if previous = .normal then
    State.requestDriveWarning { s with drc := { s.drc with warnDrive := true } }
  else s

/-- R40: the reset procedure holds at an interval. -/
def resetHolds (s : State) : Bool :=
  !s.drc.handleFault && s.drc.h = -100 && !s.drc.detent && s.drc.deadman &&
    (s.amu.atStandstill || s.drc.refClass = .lost)

/-- R40: the requirement of the interval. -/
def resetRequirement (c : RefClass) : Nat :=
  if c = .lost then Config.resetIntervalsLost else Config.resetIntervals

/-- R40: the reset procedure is complete. -/
def State.completeReset (s : State) : State :=
  State.reportEmergency .tripped
    { s with drc := { s.drc with driveState := .ready, loop := true, resetCount := 0 } }

/-- R40: the reset procedure at an interval in TRIPPED. -/
def State.resetStage (s : State) : State :=
  if resetHolds s then
    let n := min 250 (s.drc.resetCount + 1)
    let s := { s with drc := { s.drc with resetCount := n } }
    if resetRequirement s.drc.refClass ≤ n then s.completeReset else s
  else { s with drc := { s.drc with resetCount := 0 } }

/-- Stage 5. -/
def State.bandStage (s : State) : State :=
  match s.drc.driveState with
  | .unconfigured => s.setBand .normal
  | .tripped => (s.setBand .normal).resetStage
  | .ready =>
    if s.drc.refClass = .lost then s.setBand .normal
    else match nextBand s.drc.band ((s.drc.ref : Int) - s.drc.vSup) with
      | some b => s.setBand b
      | none => s.trip .overspeed

/-! ## Stages 6 to 8: target, ramp and output (R60 to R62) -/

/-- R60: the limits of the target, each on the result of the one before. -/
def Drc.target (serviceBrake : Int) (d : Drc) : Int :=
  let x := d.h
  let x := if d.inhibited then min x 0 else x
  let x := if d.refClass = .lost then min x Config.lostTarget else x
  let x := match d.tcap with
    | some c => min x c
    | none => x
  let x := match d.bcap with
    | some c => max x c
    | none => x
  match d.band with
  | .normal => x
  | .warn => min x 0
  | .intervene => min x serviceBrake

/-- R61: u moves toward the target by at most the step of Table 3-6, and comes to 0 before it changes sign. -/
def ramp (p : Params) (target u : Int) : Int :=
  let target := if target.sign ≠ u.sign ∧ u ≠ 0 then 0 else target
  if u < target then
    min target (u + if 0 ≤ u then (p.tractionRise.toNat : Int) else p.brakeFall.toNat)
  else if target < u then
    max target (u - if 0 < u then (p.tractionFall.toNat : Int) else p.brakeRise.toNat)
  else u

/-- Stages 6 to 8. -/
def State.outputStage (s : State) : State :=
  match s.drc.driveState with
  | .unconfigured => s.setU 0
  | .tripped => s.setU (-100)
  | .ready => s.setU (ramp s.params (s.drc.target s.params.serviceBrake.toInt) s.drc.u)

/-! ## The control interval (R59) -/

/-- The eight stages. -/
def State.controlStages (s : State) : State :=
  s.handleStage.referenceStage.adhesionStage.ceilingStage.bandStage.outputStage

/-- R59: the control interval is due: it recurs every 20 ms from power-on. -/
def controlDue (s : State) : Bool := s.drc.intervalDue ≤ s.now

/-- R59: a control interval, one event at the DRC; nothing happens before the interval is due. -/
def State.controlInterval (s : State) : State :=
  if controlDue s then
    (State.controlStages
      { s with drc := { s.drc with intervalDue := s.drc.intervalDue + Config.intervalLength } }).settle
  else s

/-! ## Cab contacts (R47 to R49) -/

/-- R47: the reverser position of its two contacts. -/
def reverserOf (forward reverse : Bool) : Reverser :=
  match forward, reverse with
  | true, false => .forward
  | false, true => .reverse
  | _, _ => .neutral

/-- R49 step 1. -/
def directionAfter (r : Reverser) (d : Direction) : Direction :=
  match r with
  | .forward => .forward
  | .reverse => .reverse
  | .neutral => d

/-- R49 step 2. -/
def State.reverseEntry (r : Reverser) (s : State) : State :=
  match r with
  | .reverse => s.post .reverse .ceiling s.params.reverseCeil.toNat reasonReversing
  | .forward => s.lift .reverse
  | .neutral => s

/-- R49: a reverser change as one event. -/
def State.takeReverser (r : Reverser) (s : State) : State :=
  if s.drc.reverser = r then s
  else
    let s := { s with drc := { s.drc with reverser := r },
                      amu := { s.amu with direction := directionAfter r s.amu.direction } }
    let s := s.reverseEntry r
    let s := if r = .neutral ∧ 0 < s.drc.u then s.setU 0 else s
    if s.amu.atStandstill then s else s.trip .reverser

/-- R48: the closing of the emergency detent. A closing while the detent is taken as closed, as within the 10 ms of an
opening, is no closing (DESIGN CHOICE, assumption 36). -/
def State.closeDetent (s : State) : State :=
  if s.drc.detent then s
  else State.trip .emergencyDetent { s with drc := { s.drc with detent := true } }

/-! ## Handle capture (R43) -/

/-- R43: a rising edge completes the cycle in progress and starts the next. -/
def Drc.handleRise (now : Nat) (d : Drc) : Drc :=
  let done := match d.cycleStart with
    | some st =>
      let period := now - st
      some { width := d.cycleWidth.getD period, period := period, doneAt := now : HandleCycle }
    | none => d.lastCycle
  { d with lastCycle := done, cycleStart := some now, cycleWidth := none }

/-- R43: the first falling edge of a cycle ends its high width; later ones are ignored. -/
def Drc.handleFall (now : Nat) (d : Drc) : Drc :=
  match d.cycleStart, d.cycleWidth with
  | some st, none => { d with cycleWidth := some (now - st) }
  | _, _ => d

/-! ## Demand line (R62) -/

/-- R62: the duty of a period that begins now, in permille. -/
def Drc.periodDuty (d : Drc) : Nat :=
  if d.driveState = .unconfigured then 0 else (500 + 4 * d.buffer).toNat

/-- R62: the high time of the running period in µs. -/
def Drc.highTime (d : Drc) : Nat := 2 * d.duty

def State.demandPeriod (s : State) : State :=
  if s.drc.periodDue ≤ s.now then
    { s with drc := { s.drc with duty := s.drc.periodDuty, periodDue := s.drc.periodDue + Config.demandPeriod } }
  else s

/-! ## The commands -/

/-- CONTROL_INTERVAL (R59). -/
def execControlInterval (t : Nat) (s : State) : Host.Outcome State Fault Refusal :=
  .next (s.atTime t).controlInterval

/-- ADHESION_CONDITION_END (R54): the control interval at which a slip or slide condition ends (assumption 4). -/
def execAdhesionConditionEnd (t : Nat) (s : State) : Host.Outcome State Fault Refusal :=
  let s := s.atTime t
  let s' := s.controlInterval
  .next (if s.drc.adhesion ≠ .none ∧ s'.drc.adhesion = .none then s' else s)

/-- A cap reaches the end of its relaxation at the next control interval (R55). -/
def Drc.capEnds (d : Drc) : Bool :=
  d.adhesion = .none &&
    ((d.tcap.isSome && (relaxTcap d.tcap).isNone) || (d.bcap.isSome && (relaxBcap d.bcap).isNone))

/-- CAP_REMOVED (R55): the control interval at which a relaxing cap is removed (assumption 4). -/
def execCapRemoved (t : Nat) (s : State) : Host.Outcome State Fault Refusal :=
  let s := s.atTime t
  .next (if s.drc.capEnds then s.controlInterval else s)

/-- SAND_RUN_ON_EXPIRY (R56): the control interval at which the sand run-on reaches 0 (assumption 4). -/
def execSandRunOnExpiry (t : Nat) (s : State) : Host.Outcome State Fault Refusal :=
  let s := s.atTime t
  .next (if s.drc.adhesion = .none ∧ s.drc.runOn = 1 then s.controlInterval else s)

/-- RESET_COMPLETE (R40): the control interval at which the reset procedure completes (assumption 4). -/
def execResetComplete (t : Nat) (s : State) : Host.Outcome State Fault Refusal :=
  let s := s.atTime t
  let s' := s.controlInterval
  .next (if s.drc.driveState = .tripped ∧ s'.drc.driveState = .ready then s' else s)

/-- HANDLE_CYCLE (R43): a rising edge of the handle signal. -/
def execHandleCycle (t : Nat) (s : State) : Host.Outcome State Fault Refusal :=
  let s := s.atTime t
  .next { s with drc := s.drc.handleRise s.now }

/-- HANDLE_FALLING_EDGE (R43). -/
def execHandleFallingEdge (t : Nat) (s : State) : Host.Outcome State Fault Refusal :=
  let s := s.atTime t
  .next { s with drc := s.drc.handleFall s.now }

/-- REVERSER_CHANGE (R47, R49). -/
def execReverserChange (t stood : Nat) (forward reverse : Bool) (s : State) : Host.Outcome State Fault Refusal :=
  let s := s.atTime t
  .next (if Config.cabContactMs ≤ stood then (s.takeReverser (reverserOf forward reverse)).settle else s)

/-- DEADMAN_CHANGE (R47, R50). -/
def execDeadmanChange (t stood : Nat) (pressed : Bool) (s : State) : Host.Outcome State Fault Refusal :=
  let s := s.atTime t
  .next (if Config.cabContactMs ≤ stood then
      State.settleVigilance { s with drc := { s.drc with deadman := pressed } }
    else s)

/-- EMERGENCY_DETENT_CLOSE (R47, R48): taken at the edge. -/
def execEmergencyDetentClose (t : Nat) (s : State) : Host.Outcome State Fault Refusal :=
  .next (s.atTime t).closeDetent.settle

/-- EMERGENCY_DETENT_OPEN (R47, R48): trips nothing. -/
def execEmergencyDetentOpen (t stood : Nat) (s : State) : Host.Outcome State Fault Refusal :=
  let s := s.atTime t
  .next (if Config.cabContactMs ≤ stood then { s with drc := { s.drc with detent := false } } else s)

/-- VIGILANCE_WARNING (R50): the timer reaches 1500 ms. -/
def execVigilanceWarning (t : Nat) (s : State) : Host.Outcome State Fault Refusal :=
  let s := s.atTime t
  .next (if expired s.drc.vigilance Config.vigilanceWarn s.now ∧ !s.drc.warnVigilance then
      State.requestVigilanceWarning { s with drc := { s.drc with warnVigilance := true } }
    else s)

/-- VIGILANCE_TRIP (R50): the timer reaches 2500 ms. -/
def execVigilanceTrip (t : Nat) (s : State) : Host.Outcome State Fault Refusal :=
  let s := s.atTime t
  .next (if expired s.drc.vigilance Config.vigilanceTrip s.now then (s.trip .vigilance).settle else s)

/-- DEMAND_PERIOD_START (R62). -/
def execDemandPeriodStart (t : Nat) (s : State) : Host.Outcome State Fault Refusal :=
  .next (s.atTime t).demandPeriod

end Sys2Proof.Machine
end

