-- ==== Sys2Proof/Machine/Configuration.lean ====
section
/-! DEFINITION. The configuration record (Chapter 11): the checks of CONFIGURE (R184) and what each block does with an
accepted one (R185, R186). -/

namespace Sys2Proof.Machine

/-! ## Checks (R184) -/

def inRange (lo hi n : Nat) : Bool := lo ≤ n && n ≤ hi

/-- R184: bits 5–3 of a byte of field 18 are zero. -/
def goodMapByte (b : Byte) : Bool := !b.getLsbD 3 && !b.getLsbD 4 && !b.getLsbD 5

/-- R184 item 1: a byte of field 18 with kind UNUSED accepts any door bits (Section 11.2). -/
def goodMap (p : Params) : Bool := p.buttonMap.toList.all goodMapByte

/-- R184 step 1: whether each of the fields 1 to 21 is in its range (Table 11-1). -/
def fieldChecks (p : Params) : List Bool :=
  [ inRange 1600 2400 p.circA.toNat, inRange 1600 2400 p.circB.toNat, inRange 300 2500 p.vehicleMax.toNat,
    inRange 1 10 p.tractionRise.toNat, inRange 1 20 p.tractionFall.toNat, inRange 1 20 p.brakeRise.toNat,
    inRange 1 10 p.brakeFall.toNat, -100 ≤ p.serviceBrake.toInt && p.serviceBrake.toInt ≤ -30,
    inRange 1 5 p.descentStep.toNat, inRange 50 200 p.curveDecel.toNat, inRange 50 300 p.reverseCeil.toNat,
    inRange 50 500 p.unknownCeil.toNat, inRange 10000 200000 p.fallback.toNat, inRange 10 100 p.slipMin.toNat,
    inRange 30 200 p.slipPermille.toNat, inRange 1 65535 p.vehicle.toNat, true, goodMap p,
    inRange 5 30 p.closeTimeout.toNat, inRange 100 600 p.bypassCeil.toNat, inRange 0 1 p.departureBell.toNat ]

/-- R184 step 1: the number of the first field out of range. -/
def badField (p : Params) : Option Nat := ((fieldChecks p).findIdx? fun ok => !ok).map (· + 1)

/-- R184: a button of kind UNUSED is stored as UNUSED, which reads as 0x00 (R187). -/
def storedMapByte (b : Byte) : Byte := if (mappingOf b).isNone then 0 else b

def storedParams (p : Params) : Params := { p with buttonMap := p.buttonMap.map storedMapByte }

/-- R184: the refusal of a CONFIGURE, if it is refused. -/
def refuseConfigure (p : Params) (s : State) : Option Verdict :=
  match badField p with
  | some n => some (.range (BitVec.ofNat 8 n))
  | none =>
    if s.sdu.door ≠ .none then some (.plain .inUse)
    else if s.configured ∧ !s.amu.atStandstill then some (.plain .notStandstill)
    else none

/-! ## An accepted CONFIGURE (R185) -/

/-- R39: the DRC leaves UNCONFIGURED. -/
def State.leaveUnconfigured (s : State) : State :=
  State.reportEmergency .unconfigured
    { s with drc := { s.drc with driveState := .tripped, tripReason := some .configured, u := -100,
                                 buffer := -100, resetCount := 0 } }

/-- R185 step 1: the DRC. -/
def State.configureDrc (first : Bool) (s : State) : State :=
  let s := s.recompute
  let s := if s.drc.table.reverse.isSome then
      s.post .reverse .ceiling s.params.reverseCeil.toNat reasonReversing
    else s
  if first then s.leaveUnconfigured else s

/-- R185 step 3: the SDU. -/
def State.configureSdu (first : Bool) (s : State) : State :=
  let s := s.remapButtons
  if first then s.examineDoors else s

/-- R185: the event of an accepted CONFIGURE; the AMU, the RTM, the LPT and the TNU read the record as it stands. Every
parameter takes its new value at the start, the bypass ceiling that the examination of the doors may post included
(DESIGN CHOICE, assumption 43). -/
def State.takeConfigure (p : Params) (s : State) : State :=
  let first := !s.configured
  let s := { s with params := storedParams p, configured := true }
  ((s.configureDrc first).configureSdu first).settle

/-- CONFIGURE at the part (R184, R185). -/
def State.configure (p : Params) (s : State) : State × Verdict :=
  match refuseConfigure p s with
  | some v => (s, v)
  | none =>
    let s' := s.takeConfigure p
    (s', .ok (.configured s'.drc.driveState (!s.configured)))

/-- READ_CONFIG (R187). -/
def State.readConfig (s : State) : Verdict := .ok (.config s.configured (paramsBytes s.params))

end Sys2Proof.Machine
end

