-- ==== Sys2Proof/Machine/AxleUnit.lean ====
section
/-! DEFINITION. The Axle Measurement Unit (Chapter 1): edges and windows, classes and faults, distance, and the
commands TACHO_EDGE, NO_EDGE_EXPIRY, SENSOR_HEALTH_OPEN, SENSOR_HEALTH_OK and PLAUSIBILITY_EXPIRY. -/

namespace Sys2Proof.Machine

/-! ## Windows (R1 to R4, R9) -/

/-- R1: an edge is taken when the sensor health is OK and it comes 50 µs or more after the last taken edge. -/
def AxleChannel.takes (now : Nat) (c : AxleChannel) : Bool :=
  !c.healthOpen && match c.lastEdge with
    | none => true
    | some e => e + Config.edgeFilter ≤ now

/-- R4: the speed of a closed window. -/
def windowSpeed (count circ time : Nat) : Nat :=
  min Config.speedMax (count * circ * 3125 / (2 * time))

/-- R9: whether a recovery window agrees with the other axle, by the slip_min and slip_permille in force as it closes: those of
a CONFIGURE at once (R16), not from the next control interval (DEDUCED, assumption 46). -/
def agrees (p : Params) (v : Nat) (other : AxleChannel) : Bool :=
  other.cls = .good && max v other.speed - min v other.speed ≤ slipThreshold p other.speed

/-- R4, R9: a window has closed with the speed v. -/
def AxleChannel.evaluate (p : Params) (v : Nat) (c other : AxleChannel) : AxleChannel :=
  if c.cls ≠ .fault then { c with speed := v, cls := .good }
  else if c.plausCause then
    if agrees p v other then
      if Config.recoveryWindows ≤ c.recovery + 1 then
        { c with speed := v, cls := .good, plausCause := false, recovery := 0, plausTimer := none }
      else { c with speed := v, recovery := c.recovery + 1 }
    else { c with speed := v, recovery := 0 }
  else c

/-- R1 to R4: a taken edge at the moment `now`. -/
def AxleChannel.edge (p : Params) (circ now : Nat) (c other : AxleChannel) : AxleChannel :=
  let c := { c with lastEdge := some now, noEdge := some now }
  match c.window with
  | none => { c with window := some { opened := now, count := 0 } }
  | some w =>
    let time := now - w.opened
    if Config.windowCount ≤ w.count + 1 ∨ Config.windowLimit ≤ time then
      ({ c with window := some { opened := now, count := 0 } } : AxleChannel).evaluate p
        (windowSpeed (w.count + 1) circ time) other
    else { c with window := some { opened := w.opened, count := w.count + 1 } }

/-! ## Distance (R13 to R15) -/

/-- R13: the direction of an edge. -/
def edgeDirection (r : Reverser) (memory : Direction) : Direction :=
  match r with
  | .forward => .forward
  | .reverse => .reverse
  | .neutral => memory

/-- R14, R15: an edge of the odometer axle enters the two accumulators. -/
def Amu.count (circ : Nat) (dir : Direction) (a : Amu) : Amu :=
  { a with odometer := min Config.odometerTop (a.odometer + circ),
           track := match dir with
             | .forward => a.track + BitVec.ofNat 38 circ
             | .reverse => a.track - BitVec.ofNat 38 circ }

/-! ## Events -/

/-- R10: the fault set is told when an axle has left FAULT. -/
def State.tellLeft (ax : Axle) (before : AxleClass) (s : State) : State :=
  if before = .fault ∧ (s.amu.channel ax).cls ≠ .fault then s.clearFault .axleFault (axleIndex ax) else s

/-- R10: AXLE_FAULT is latched when an axle enters FAULT from GOOD or ZERO. -/
def State.latchEntered (ax : Axle) (before : AxleClass) (s : State) : State :=
  if before ≠ .fault ∧ (s.amu.channel ax).cls = .fault then s.latch .axleFault (axleIndex ax) else s

def State.setAxle (ax : Axle) (c : AxleChannel) (s : State) : State :=
  { s with amu := s.amu.setChannel ax c }

/-- R1: an edge. Distance is counted on the axle that was the odometer axle when the edge came (R12). -/
def State.tachoEdge (ax : Axle) (s : State) : State :=
  let c := s.amu.channel ax
  if c.takes s.now then
    let circ := circumference s.params ax
    let counts := s.amu.odometerAxle = some ax
    let s' := s.setAxle ax (c.edge s.params circ s.now (s.amu.channel (otherAxle ax)))
    let s' := if counts then
        { s' with amu := s'.amu.count circ (edgeDirection s.drc.reverser s.amu.direction) }
      else s'
    (s'.tellLeft ax c.cls).settle
  else s

/-- R5: the no-edge timer has expired. -/
def AxleChannel.noEdges (c : AxleChannel) : AxleChannel :=
  let c := { c with window := none, speed := 0, noEdge := none }
  match c.cls with
  | .good => { c with cls := .zero }
  | .zero => c
  | .fault => if c.plausCause then { c with recovery := 0 } else c

def State.noEdgeExpiry (ax : Axle) (s : State) : State :=
  let c := s.amu.channel ax
  if expired c.noEdge Config.noEdgeLimit s.now then (s.setAxle ax c.noEdges).settle else s

/-- R6: the sensor-health input has turned to OPEN. -/
def AxleChannel.sensorOpen (c : AxleChannel) : AxleChannel :=
  { c with healthOpen := true, sensorCause := true, cls := .fault, window := none, speed := 0, noEdge := none,
           recovery := 0, plausTimer := none }

/-- R6 at an axle. AXLE_FAULT is latched before a vigilance warning that standstill ends is ended (DESIGN CHOICE,
assumption 35). -/
def State.sensorOpen (ax : Axle) (s : State) : State :=
  let c := s.amu.channel ax
  if c.healthOpen then s else ((s.setAxle ax c.sensorOpen).latchEntered ax c.cls).settle

/-- R7: the sensor-health input has returned to OK. -/
def AxleChannel.sensorOk (c : AxleChannel) : AxleChannel :=
  let c := { c with healthOpen := false, sensorCause := false, window := none }
  if c.plausCause then { c with recovery := 0 } else { c with cls := .zero, speed := 0 }

def State.sensorOk (ax : Axle) (s : State) : State :=
  let c := s.amu.channel ax
  if c.healthOpen then ((s.setAxle ax c.sensorOk).tellLeft ax c.cls).settle else s

/-- R8: the plausibility timer has reached its limit. -/
def AxleChannel.implausible (c : AxleChannel) : AxleChannel :=
  { c with plausCause := true, cls := .fault, recovery := 0, plausTimer := none }

def State.plausibilityExpiry (ax : Axle) (s : State) : State :=
  let c := s.amu.channel ax
  if expired c.plausTimer Config.plausibilityLimit s.now then
    ((s.setAxle ax c.implausible).latchEntered ax c.cls).settle
  else s

/-! ## The commands -/

/-- TACHO_EDGE (R1). -/
def execTachoEdge (t : Nat) (axle : Axle) (s : State) : Host.Outcome State Fault Refusal :=
  .next ((s.atTime t).tachoEdge axle)

/-- NO_EDGE_EXPIRY (R5). -/
def execNoEdgeExpiry (t : Nat) (axle : Axle) (s : State) : Host.Outcome State Fault Refusal :=
  .next ((s.atTime t).noEdgeExpiry axle)

/-- SENSOR_HEALTH_OPEN (R6). -/
def execSensorHealthOpen (t : Nat) (axle : Axle) (s : State) : Host.Outcome State Fault Refusal :=
  .next ((s.atTime t).sensorOpen axle)

/-- SENSOR_HEALTH_OK (R7). -/
def execSensorHealthOk (t : Nat) (axle : Axle) (s : State) : Host.Outcome State Fault Refusal :=
  .next ((s.atTime t).sensorOk axle)

/-- PLAUSIBILITY_EXPIRY (R8). -/
def execPlausibilityExpiry (t : Nat) (axle : Axle) (s : State) : Host.Outcome State Fault Refusal :=
  .next ((s.atTime t).plausibilityExpiry axle)

end Sys2Proof.Machine
end

