-- ==== Sys2Proof/Machine/Route.lean ====
section
/-! DEFINITION. The Route Manager's collections (Chapter 4): junction records and page lists, the route plan and its
head, what an RTM event hands on and in which order (R126), and the owner's side of the junction and route commands
of the cab link. -/

namespace Sys2Proof.Machine

/-! ## Junction table (R67, R68) -/

/-- R67: the record of a junction id, if it is LOADED. -/
def Rtm.record (r : Rtm) (id : Half) : Option JunctionRecord := r.junctions.find? fun j => j.id = id

/-- The route map of a record for a selection (Table 4-1). -/
def JunctionRecord.route (j : JunctionRecord) : Selection → Option (List Requirement)
  | .left => j.left
  | .straight => j.straight
  | .right => j.right

/-- The traversed sets of a list of requirements, in ascending set index. -/
def traversed : Nat → List Requirement → List (Nat × PointPos)
  | _, [] => []
  | i, .any :: rest => traversed (i + 1) rest
  | i, .normal :: rest => (i, .normal) :: traversed (i + 1) rest
  | i, .reverse :: rest => (i, .reverse) :: traversed (i + 1) rest

/-- R68: one page for each traversed set, the highest set index marked last. -/
def pagesOf : List (Nat × PointPos) → List Page
  | [] => []
  | [(i, p)] => [{ set := i, pos := p, last := true }]
  | (i, p) :: rest => { set := i, pos := p, last := false } :: pagesOf rest

/-- R68: the page list of a record for a selection. -/
def JunctionRecord.pageList (j : JunctionRecord) (sel : Selection) : List Page :=
  pagesOf (traversed 0 ((j.route sel).getD []))

/-- R69: the id is the head's junction id and the head's state is not WAITING. -/
def Rtm.inUse (r : Rtm) (id : Half) : Bool :=
  match r.plan with
  | [] => false
  | e :: _ => e.id = id && e.state ≠ .waiting

/-! ## What an RTM event hands on (R126) -/

/-- What an event of the RTM hands on: fault latches, JUNCTION reports, the lift and the post of the ROUTE entry, and
the junction warning tone, in this order (R126; assumption 17 for an event that both lifts and posts). -/
structure Emit where
  latches : List FaultCode
  reports : List JunctionReport
  lift    : Bool
  post    : Option (Kind × Nat × Byte)
  warn    : Bool
deriving DecidableEq, Repr

def Emit.nothing : Emit := { latches := [], reports := [], lift := false, post := none, warn := false }

def State.handOn (e : Emit) (s : State) : State :=
  let s := e.latches.foldl (fun s c => s.latch c 0) s
  let s := e.reports.foldl (fun s r => s.raise (.junction r)) s
  let s := if e.lift then s.lift .route else s
  let s := match e.post with
    | some (kind, ceiling, reason) => s.post .route kind ceiling reason
    | none => s
  if e.warn then s.requestJunctionWarning else s

/-! ## Lamps (R124) -/

/-- The head's state; WAITING when the plan is empty, where the lamps and the context are the same. -/
def Rtm.headState (r : Rtm) : ExState :=
  match r.plan with
  | [] => .waiting
  | e :: _ => e.state

/-- R124: the lamps follow the head's state. The amber lamp of UNKNOWN starts lit at the entry to UNKNOWN and is then
flashed by its timer. -/
def Rtm.setLamps (now : Nat) (r : Rtm) : Rtm :=
  match r.headState with
  | .waiting => { r with green := false, amber := false, red := false, flashStart := none }
  | .contact | .sending | .awaiting | .queued | .setting =>
    { r with green := false, amber := true, red := false, flashStart := none }
  | .locked => { r with green := true, amber := false, red := false, flashStart := none }
  | .unknown =>
    if r.flashStart.isSome then r
    else { r with green := false, amber := true, red := false, flashStart := some now }
  | .refused | .wrongLeg | .timedOut | .contactLost =>
    { r with green := false, amber := false, red := true, flashStart := none }

/-! ## The plan and its head (R74, R80 to R83) -/

/-- R80 steps 1 and 4, R118, R120 step 4: the head leaves the plan; its context and fresh-chain due flag go, the
junction-zone flag becomes false and the lamps go off. -/
def Rtm.dropHead (r : Rtm) : Rtm :=
  { r with plan := r.plan.tail, context := none, freshDue := false, zone := false
           green := false, amber := false, red := false, flashStart := none }

/-- The head takes a new state. -/
def Rtm.setHead (st : ExState) (r : Rtm) : Rtm :=
  match r.plan with
  | [] => r
  | e :: rest => { r with plan := { e with state := st } :: rest }

/-- R83: the selection of an ad-hoc entry. -/
def Rtm.adhocSelection (r : Rtm) (j : Half) : Selection :=
  match r.record j with
  | some rec =>
    match r.pendingSel with
    | some sel => if (rec.route sel).isSome then sel else rec.dflt
    | none => rec.dflt
  | none => r.pendingSel.getD .straight

/-- R83: an ad-hoc entry is inserted at the head; a full plan loses its tail and ROUTE_TRUNCATED is latched. -/
def Rtm.insertAdhoc (j : Half) (r : Rtm) (e : Emit) : Rtm × Emit :=
  let entry : PlanEntry := { id := j, selection := r.adhocSelection j, origin := .adhoc, state := .waiting }
  if Config.planSlots ≤ r.plan.length then
    ({ r with plan := entry :: r.plan.dropLast }, { e with latches := e.latches ++ [.routeTruncated] })
  else ({ r with plan := entry :: r.plan }, e)

/-- R81 steps 3 and 4, R82: from a head in WAITING, or an empty plan, the plan is brought to a head for J. -/
def Rtm.seek (j : Half) (r : Rtm) (e : Emit) : Rtm × Emit :=
  match r.plan.findIdx? (fun p => p.id = j) with
  | some 0 => (r, e)
  | some (n + 1) =>
    let removed := (r.plan.take (n + 1)).map (·.id)
    ({ r with plan := r.plan.drop (n + 1) }, { e with reports := e.reports ++ [.skipped removed j] })
  | none => r.insertAdhoc j e

/-- R81: a head for J is brought to the front of the plan. -/
def Rtm.bringHead (j : Half) (r : Rtm) : Rtm × Emit :=
  match r.plan with
  | [] => r.seek j Emit.nothing
  | h :: _ =>
    if h.id = j then (r, Emit.nothing)
    else if h.state ≠ .waiting then
      r.dropHead.seek j { Emit.nothing with
        reports := [.abandoned h.id h.selection h.origin h.state j], lift := true }
    else r.seek j Emit.nothing

/-! ## Junction commands (R70 to R73) -/

/-- The requirements of a set-count n in a requirement byte; `none` when one of them is no requirement. -/
def requirements (b : Byte) (n : Nat) : Option (List Requirement) :=
  (List.range n).mapM fun i => requirementOf b i

/-- R70 check 3: every requirement carried for a set index below n is NORMAL, REVERSE or ANY, for all three
selections (assumption 12). -/
def badRequirement (p : JunctionLoad) : Bool :=
  [p.reqLeft, p.reqStraight, p.reqRight].any fun b => (requirements b p.setCount.toNat).isNone

/-- The presence bit of a selection (Table 10-7). -/
def loadHas (p : JunctionLoad) : Selection → Bool
  | .left => p.present.getLsbD 0
  | .straight => p.present.getLsbD 1
  | .right => p.present.getLsbD 2

def loadReqByte (p : JunctionLoad) : Selection → Byte
  | .left => p.reqLeft
  | .straight => p.reqStraight
  | .right => p.reqRight

def allSelections : List Selection := [.left, .straight, .right]

/-- The route map that a load carries for a selection. -/
def loadRoute (p : JunctionLoad) (sel : Selection) : Option (List Requirement) :=
  if loadHas p sel then requirements (loadReqByte p sel) p.setCount.toNat else none

/-- R70 check 4: a present selection has ANY for every one of its sets. -/
def idleSelection (p : JunctionLoad) : Bool :=
  allSelections.any fun sel => (loadRoute p sel).any fun l => l.all fun q => q = .any

/-- The default selection, where it is a present selection (R70 check 5). -/
def loadDefault (p : JunctionLoad) : Option Selection :=
  (selectionOf p.dflt).filter (loadHas p)

/-- Checks 1 to 10 of Table 4-2: the number of the first that fails, or the record. -/
def checkLoad (p : JunctionLoad) : Except Byte JunctionRecord :=
  if p.id.toNat < 1 ∨ 4095 < p.id.toNat then .error 1
  else if p.setCount.toNat < 1 ∨ 4 < p.setCount.toNat then .error 2
  else if badRequirement p then .error 3
  else if idleSelection p then .error 4
  else
    match loadDefault p with
    | none => .error 5
    | some dflt =>
      if p.loopToPoint.toNat < 5000 ∨ 80000 < p.loopToPoint.toNat then .error 6
      else if p.clearing.toNat < 3000 ∨ 60000 < p.clearing.toNat then .error 7
      else if p.stopMargin.toNat < 2000 ∨ 10000 < p.stopMargin.toNat ∨
          p.loopToPoint.toNat ≤ p.stopMargin.toNat then .error 8
      else if p.approachCeil.toNat < 100 ∨ 800 < p.approachCeil.toNat then .error 9
      else if p.passingCeil.toNat < 100 ∨ 800 < p.passingCeil.toNat then .error 10
      else
        .ok { id := p.id, setCount := p.setCount.toNat, left := loadRoute p .left, straight := loadRoute p .straight,
              right := loadRoute p .right, dflt := dflt, loopToPoint := p.loopToPoint.toNat,
              clearing := p.clearing.toNat, stopMargin := p.stopMargin.toNat,
              approachCeil := p.approachCeil.toNat, passingCeil := p.passingCeil.toNat }

/-- R71: a plan entry with the record's id whose selection is absent from its route map. -/
def misaligned (j : JunctionRecord) (e : PlanEntry) : Bool := e.id = j.id && (j.route e.selection).isNone

/-- R71: the plan is aligned with a new record. -/
def alignPlan (j : JunctionRecord) (plan : List PlanEntry) : List PlanEntry :=
  plan.map fun e => if misaligned j e then { e with selection := j.dflt } else e

/-- R71: a record is written into its own slot, or into an EMPTY one. -/
def putRecord (j : JunctionRecord) (l : List JunctionRecord) : List JunctionRecord :=
  if l.any (fun r => r.id = j.id) then l.map fun r => if r.id = j.id then j else r else l ++ [j]

/-- JUNCTION_LOAD at the RTM (R70, R71). -/
def State.junctionLoad (p : JunctionLoad) (s : State) : State × Verdict :=
  match checkLoad p with
  | .error n => (s, .range n)
  | .ok j =>
    if s.rtm.inUse j.id then (s, .plain .inUse)
    else
      let replaced := (s.rtm.record j.id).isSome
      if !replaced ∧ Config.junctionSlots ≤ s.rtm.junctions.length then (s, .plain .full)
      else
        let junctions := putRecord j s.rtm.junctions
        ({ s with rtm := { s.rtm with junctions := junctions, plan := alignPlan j s.rtm.plan } },
          .ok (.junctionLoaded replaced junctions.length (s.rtm.plan.countP (misaligned j))))

/-- R72, R73: an id outside 1..4095. -/
def badJunctionId (id : Half) : Bool := id.toNat < 1 || 4095 < id.toNat

/-- JUNCTION_DROP at the RTM (R72). A NOT_FOUND reply carries no number of LOADED slots (DESIGN CHOICE,
assumption 38: R67 has the replies to the junction commands carry it, and R72 names none for this refusal). -/
def State.junctionDrop (id : Half) (s : State) : State × Verdict :=
  if badJunctionId id then (s, .rangeUnnamed 0x05 1)
  else if s.rtm.inUse id then (s, .plain .inUse)
  else if (s.rtm.record id).isNone then (s, .plain .notFound)
  else
    let junctions := s.rtm.junctions.filter fun r => r.id ≠ id
    ({ s with rtm := { s.rtm with junctions := junctions } }, .ok (.junctionCount junctions.length))

/-- R73: the requirements as a read gives them, with ANY for set indexes n..3. -/
def padRequirements (l : List Requirement) : List Requirement := l ++ List.replicate (4 - l.length) .any

/-- JUNCTION_READ at the RTM (R73). -/
def State.junctionRead (id : Half) (s : State) : Verdict :=
  if badJunctionId id then .rangeUnnamed 0x06 1
  else
    match s.rtm.record id with
    | none => { status := .notFound, check := none, data := .junctionCount s.rtm.junctions.length }
    | some j =>
      .ok (.junctionRecord j.id j.setCount (j.left.map padRequirements) (j.straight.map padRequirements)
        (j.right.map padRequirements) j.dflt j.loopToPoint j.clearing j.stopMargin j.approachCeil j.passingCeil
        (s.rtm.inUse id) s.rtm.junctions.length)

/-! ## Route commands (R76 to R78) -/

/-- R76 check 3: the id is LOADED and the selection is absent from its route map. -/
def Rtm.lacks (r : Rtm) (id : Half) (sel : Selection) : Bool :=
  match r.record id with
  | some j => (j.route sel).isNone
  | none => false

/-- ROUTE_APPEND at the RTM (R76). -/
def State.routeAppend (id : Half) (selection : Byte) (s : State) : State × Verdict :=
  if badJunctionId id then (s, .range 1)
  else
    match selectionOf selection with
    | none => (s, .range 2)
    | some sel =>
      if s.rtm.lacks id sel then (s, .range 3)
      else if Config.planSlots ≤ s.rtm.plan.length then (s, .plain .full)
      else
        let entry : PlanEntry := { id := id, selection := sel, origin := .plan, state := .waiting }
        let n := s.rtm.plan.length
        ({ s with rtm := { s.rtm with plan := s.rtm.plan ++ [entry] } }, .ok (.appended n (n + 1)))

/-- R77: what ROUTE_CLEAR leaves: a head beyond WAITING. -/
def keptHead : List PlanEntry → List PlanEntry
  | [] => []
  | e :: _ => if e.state = .waiting then [] else [e]

/-- ROUTE_CLEAR at the RTM (R77). -/
def State.routeClear (s : State) : State × Verdict :=
  let kept := keptHead s.rtm.plan
  ({ s with rtm := { s.rtm with plan := kept } },
    .ok (.planCleared (s.rtm.plan.length - kept.length) kept.length))

/-- ROUTE_READ at the RTM (R78); the view codes are those of Table 10-10. -/
def State.routeRead (view : Byte) (s : State) : Verdict :=
  match view.toNat with
  | 0 => .ok (.plan s.rtm.plan.length s.rtm.pendingSel s.rtm.plan)
  | 1 =>
    match s.rtm.plan with
    | [] => .plain .notFound
    | e :: _ => .ok (.head e (s.rtm.record e.id).isSome s.rtm.context)
  | _ => .rangeUnnamed 0x09 1

/-! ## RESTART (R87, R118) -/

/-- R87: the RTM stands as after power-on, with each selector button taken as inactive, so that a button held through
RESTART gives a press (R85; DEDUCED, assumption 37). The approach interval runs on (R119). -/
def Rtm.restarted (r : Rtm) : Rtm := { Rtm.initial 0 with intervalDue := r.intervalDue }

/-- The head exchange is abandoned, and its ROUTE entry lifted; the plan, the table and the pending selection are emptied;
the lamps are off and the junction-zone flag is false. No JUNCTION report is sent. -/
def State.restartRoute (s : State) : State :=
  let restarted := { s with rtm := s.rtm.restarted }
  if s.rtm.headState ≠ .waiting then restarted.lift .route else restarted

end Sys2Proof.Machine
end

