-- ==== Sys2Proof/Machine/Exchange.lean ====
section
/-! DEFINITION. Junction exchanges (Chapter 6) and the request pages of the Loop Transceiver (Section 5.5): how a
valid beacon moves the head, what is sent in its reply slot, the braking curve and the ROUTE entry, the approach
interval, contact loss and the point selector. -/

namespace Sys2Proof.Machine

/-! ## Request pages (R96 to R100) -/

/-- R96: what the RTM hands the LPT in a slot; `nothing` is no slot request. -/
inductive SlotRequest where
  | nothing
  | first (page : Page)
  | next (page : Page)
  | again
deriving DecidableEq, Repr

/-- R98: the toggle of the next page built. -/
def nextToggle : Option Bool → Bool
  | none => false
  | some t => !t

/-- R97 to R99: a page built from a chain value. -/
def Lpt.build (junction vehicle chain : Half) (p : Page) (l : Lpt) : RequestPage :=
  let toggle := nextToggle l.toggleMemory
  { junction := junction, vehicle := vehicle, set := p.set, pos := p.pos, last := p.last, toggle := toggle,
    check := crc chain (requestBody junction vehicle p.set p.pos p.last toggle) }

/-- R96: a built page is sent and becomes the held page; its toggle becomes the toggle memory (R98). -/
def Lpt.sendBuilt (r : RequestPage) (l : Lpt) : Lpt :=
  { l with held := some r, toggleMemory := some r.toggle, slotPage := some r }

/-- R96, R99, R100: the slot of a valid beacon for a junction, with the toggle and the chain value that the LPT
writes into the head's context. The slot of a beacon that is taken before the page of the beacon before it has begun takes
the place of the earlier slot, whose page stays held as sent (DESIGN CHOICE, assumption 41). -/
def Lpt.slot (junction vehicle : Half) (req : SlotRequest) (l : Lpt) : Lpt × Option (Bool × Half) :=
  match req with
  | .nothing => ({ l with slotPage := none }, none)
  | .first p =>
    let chain := junction ^^^ vehicle
    let r := l.build junction vehicle chain p
    (l.sendBuilt r, some (r.toggle, chain))
  | .next p =>
    match l.held with
    | none => ({ l with slotPage := none }, none)
    | some h =>
      let r := l.build junction vehicle h.check p
      (l.sendBuilt r, some (r.toggle, h.check))
  | .again => ({ l with slotPage := l.held }, none)

/-- R96: the LPT's toggle and chain value enter the context. -/
def PageContext.written (w : Option (Bool × Half)) (pc : PageContext) : PageContext :=
  match w with
  | none => pc
  | some (toggle, chain) => { pc with toggle := toggle, chain := chain }

/-! ## What a beacon says to the vehicle (R94, R95) -/

/-- R94: the addressed indication. -/
def Beacon.addressed (vehicle : Half) (b : Beacon) : Bool := b.addressee ≠ 0 && b.addressee = vehicle

/-- R95: the acknowledged indication. -/
def Beacon.acknowledges (vehicle : Half) (held : Option RequestPage) (b : Beacon) : Bool :=
  match held with
  | none => false
  | some h => b.junction = h.junction && b.addressed vehicle && b.ackValid && b.ackToggle = h.toggle

/-- A REFUSED answer. -/
def Answer.refuses : Answer → Bool
  | .refusedBlocked | .refusedLocal | .refusedFault => true
  | .none | .accepted | .queued => false

/-- R112: a page's set is locked; a set at or above the beacon's set count is not. -/
def Beacon.locks (b : Beacon) (p : Page) : Bool :=
  match b.sets[p.set]? with
  | some v => v.locked
  | none => false

/-- R112: a page's set is in place. -/
def Beacon.inPlace (b : Beacon) (p : Page) : Bool :=
  match b.sets[p.set]? with
  | some v => v.locked && v.pos = some p.pos
  | none => false

/-! ## The exchange rules at a beacon (R107 to R114) -/

/-- What a beacon makes of an exchange with a page list: the state, the page fields, the fresh-chain due flag, the
slot request, the faults to latch, and whether the junction warning is requested. -/
structure Judged where
  state  : ExState
  paging : PageContext
  fresh  : Bool
  slot   : SlotRequest
  faults : List FaultCode
  warn   : Bool
deriving DecidableEq, Repr

/-- A beacon after which the exchange stands in a state, with nothing sent or latched. -/
def Judged.rest (state : ExState) (fresh : Bool) (pc : PageContext) : Judged :=
  { state := state, paging := pc, fresh := fresh, slot := .nothing, faults := [], warn := false }

/-- R114: the fault latched on entering a failed state. -/
def failureFaults : ExState → List FaultCode
  | .wrongLeg => [.junctionWrongLeg]
  | .timedOut => [.junctionTimeout]
  | _ => []

/-- R114: REFUSED, WRONG_LEG or TIMED_OUT is entered. -/
def Judged.fail (state : ExState) (fresh : Bool) (pc : PageContext) : Judged :=
  { state := state, paging := pc, fresh := fresh, slot := .nothing, faults := failureFaults state, warn := true }

/-- R110, R112: a beacon counts toward the timeout of a state. -/
def countBeacon (state : ExState) (limit : Nat) (fresh : Bool) (pc : PageContext) : Judged :=
  let pc := { pc with counter := pc.counter + 1 }
  if limit ≤ pc.counter then .fail .timedOut fresh pc else .rest state fresh pc

/-- R112: SETTING. -/
def judgeSetting (addressed fresh : Bool) (b : Beacon) (pc : PageContext) : Judged :=
  if addressed then
    if b.answer.refuses then .fail .refused fresh pc
    else if pc.pages.all b.inPlace then .rest .locked fresh pc
    else if pc.pages.all b.locks then .fail .wrongLeg fresh pc
    else countBeacon .setting Config.settingBeacons fresh pc
  else countBeacon .setting Config.settingBeacons fresh pc

/-- R110: AWAITING. -/
def judgeAwaiting (addressed fresh : Bool) (b : Beacon) (pc : PageContext) : Judged :=
  if addressed then
    match b.answer with
    | .accepted => judgeSetting addressed fresh b { pc with counter := 0 }
    | .queued => .rest .queued fresh { pc with counter := 0 }
    | .refusedBlocked | .refusedLocal | .refusedFault => .fail .refused fresh pc
    | .none => countBeacon .awaiting Config.awaitingBeacons fresh pc
  else countBeacon .awaiting Config.awaitingBeacons fresh pc

/-- R111: QUEUED. -/
def judgeQueued (addressed fresh : Bool) (b : Beacon) (pc : PageContext) : Judged :=
  if addressed then
    match b.answer with
    | .accepted => judgeSetting addressed fresh b { pc with counter := 0 }
    | .refusedBlocked | .refusedLocal | .refusedFault => .fail .refused fresh pc
    | .queued | .none => .rest .queued fresh pc
  else .rest .queued fresh pc

/-- The page of an index, to be handed as a slot request. -/
def pageRequest (build : Page → SlotRequest) (pc : PageContext) (index : Nat) : SlotRequest :=
  match pc.pages[index]? with
  | some p => build p
  | none => .nothing

/-- R109: the last page has been acknowledged. -/
def judgeLastPage (addressed fresh : Bool) (b : Beacon) (pc : PageContext) : Judged :=
  let pc := { pc with counter := 0 }
  if b.answer = .none then .rest .awaiting fresh pc else judgeAwaiting addressed fresh b pc

/-- R108: SENDING. -/
def judgeSending (addressed acknowledged fresh : Bool) (b : Beacon) (pc : PageContext) : Judged :=
  if fresh then
    { Judged.rest .sending false { pc with sends := 1 } with slot := pageRequest .first pc 0 }
  else if acknowledged then
    if pc.index + 1 < pc.pages.length then
      { Judged.rest .sending fresh { pc with index := pc.index + 1, sends := 1 } with
        slot := pageRequest .next pc (pc.index + 1) }
    else judgeLastPage addressed fresh b pc
  else if pc.sends < Config.pageSends then
    { Judged.rest .sending fresh { pc with sends := pc.sends + 1 } with slot := .again }
  else .fail .timedOut fresh pc

/-- R113: LOCKED. -/
def judgeLocked (addressed fresh : Bool) (b : Beacon) (pc : PageContext) : Judged :=
  if addressed && !pc.pages.all b.inPlace then
    { Judged.rest .setting fresh { pc with counter := 0 } with faults := [.junctionLockLost], warn := true }
  else .rest .locked fresh pc

/-- R107: the rule of a state; the answer field has been written. -/
def judgeState (state : ExState) (addressed acknowledged fresh : Bool) (b : Beacon) (pc : PageContext) : Judged :=
  match state with
  | .sending => judgeSending addressed acknowledged fresh b pc
  | .awaiting => judgeAwaiting addressed fresh b pc
  | .queued => judgeQueued addressed fresh b pc
  | .setting => judgeSetting addressed fresh b pc
  | .locked => judgeLocked addressed fresh b pc
  | .waiting | .contact | .refused | .wrongLeg | .timedOut | .contactLost | .unknown => .rest state fresh pc

/-- R107: the answer field of an addressed beacon. -/
def PageContext.answered (addressed : Bool) (a : Answer) (pc : PageContext) : PageContext :=
  if addressed then { pc with answer := a } else pc

/-- R116: the state by whose rule a beacon is taken: in CONTACT_LOST the resume state. -/
def Context.ruleState (state : ExState) (c : Context) : ExState :=
  match state, c.resume with
  | .contactLost, some st => st
  | _, _ => state

/-! ## Approach supervision (R119 to R123) -/

/-- The largest r with r² ≤ n, found bit by bit from bit k−1 down, starting from r. -/
def isqrtFrom (n : Nat) : Nat → Nat → Nat
  | 0, r => r
  | k + 1, r => isqrtFrom n k (if (r + 2 ^ k) * (r + 2 ^ k) ≤ n then r + 2 ^ k else r)

/-- R122: isqrt. Eleven bits hold the root of every argument that the curve forms: a is a byte and e / 10 is at most
7800, so the argument lies below 2048². -/
def isqrt (n : Nat) : Nat := isqrtFrom n 11 0

/-- R122: the braking curve in cm/s for a distance in mm, with the curve deceleration a. -/
def curve (a : Nat) (e : Int) : Nat :=
  if e ≤ 0 then 0 else isqrt (2 * a * ((min e Config.curveTop).toNat / 10))

/-- R121: c at the distance s from the loop mark. -/
def approachSpeed (a : Nat) (j : JunctionRecord) (s : Int) : Nat :=
  min j.approachCeil (curve a ((j.loopToPoint : Int) - s - j.stopMargin))

/-- R121: an entry on the braking curve. -/
def approachPost (c : Nat) : Kind × Nat × Byte :=
  if c = 0 then (.hold, 0, reasonApproach) else (.ceiling, c, reasonApproach)

/-- R121: the ROUTE entry for the head. -/
def routePost (p : Params) (r : Rtm) (track : Pos) : Option (Kind × Nat × Byte) :=
  match r.plan, r.context with
  | h :: _, some c =>
    match h.state, r.record h.id with
    | .waiting, _ => none
    | .unknown, _ => some (.ceiling, p.unknownCeil.toNat, reasonUnknownJunction)
    | _, none => none
    | .locked, some j => some (.ceiling, j.passingCeil, reasonPassing)
    | _, some j => some (approachPost (approachSpeed p.curveDecel.toNat j (distance c.loopMark track)))
  | _, _ => none

/-- R120, R123: the distance at which the head passes. -/
def passingDistance (p : Params) (r : Rtm) (h : PlanEntry) : Option Int :=
  match h.state, r.record h.id with
  | .unknown, _ => some p.fallback.toNat
  | _, some j => some (j.loopToPoint + j.clearing)
  | _, none => none

/-- R123: where the junction zone begins; with an unknown junction the whole distance is zone. -/
def inZone (p : Params) (r : Rtm) (h : PlanEntry) (s : Int) : Bool :=
  match h.state, r.record h.id with
  | .unknown, _ => s < p.fallback.toNat
  | _, some j => (j.loopToPoint : Int) - j.stopMargin ≤ s && s < j.loopToPoint + j.clearing
  | _, none => false

/-! ## STATE reports (R126) -/

/-- The STATE report of an event that took the head from the state `before`, if it changed the state. -/
def Rtm.stateReport (before : ExState) (track : Pos) (controller : Option Nat) (r : Rtm) : List JunctionReport :=
  match r.plan, r.context with
  | h :: _, some c =>
    if h.state = before then []
    else [.state h.id h.selection h.origin before h.state
      (c.paging.map fun pc => (pc.answer, pc.index, pc.sends, pc.counter)) c.bad (distance c.loopMark track)
      controller]
  | _, _ => []

/-! ## A valid beacon at the RTM -/

/-- R126: what a beacon event hands on, once the head stands as the exchange rules leave it: its faults, its STATE
report, and the ROUTE post of a changed state (R121). -/
def State.handOnBeacon (before : ExState) (controller : Nat) (faults : List FaultCode) (warn : Bool) (e : Emit)
    (s : State) : State :=
  let track := s.amu.trackMm
  let report := s.rtm.stateReport before track (some controller)
  let s := { s with rtm := s.rtm.setLamps s.now }
  s.handOn { e with latches := e.latches ++ faults
                    reports := e.reports ++ report
                    post := if report = [] then none else routePost s.params s.rtm track
                    warn := warn }

/-- R105, R79: the page fields of a first contact; the LPT writes the toggle and the chain value. -/
def firstPaging (pages : List Page) : PageContext where
  pages := pages
  index := 0
  toggle := false
  sends := 1
  chain := 0
  answer := .none
  counter := 0

/-- R105: the head takes its first contact. -/
def State.firstContact (h : PlanEntry) (j : JunctionRecord) (b : Beacon) (e : Emit) (s : State) : State :=
  let pc := firstPaging (j.pageList h.selection)
  let (lpt, w) := s.lpt.slot b.junction s.params.vehicle (pageRequest .first pc 0)
  let ctx : Context := { loopMark := s.amu.trackMm, paging := some (pc.written w), resume := none, bad := 0 }
  State.handOnBeacon .waiting b.controller [] false e
    { s with lpt := lpt, rtm := { s.rtm.setHead .sending with context := some ctx } }

/-- R106: the head enters UNKNOWN, where the flashing lamp starts lit (R124). -/
def State.enterUnknown (b : Beacon) (e : Emit) (s : State) : State :=
  let ctx : Context := { loopMark := s.amu.trackMm, paging := none, resume := none, bad := 0 }
  State.handOnBeacon .waiting b.controller [.junctionUnknown] false e
    { s with lpt := (s.lpt.slot b.junction s.params.vehicle .nothing).1,
             rtm := { s.rtm.setHead .unknown with context := some ctx, flashStart := none } }

/-- R107 to R116: a valid beacon for a head that holds a page list. -/
def State.beaconMoves (h : PlanEntry) (c : Context) (pc : PageContext) (b : Beacon) (e : Emit) (s : State) : State :=
  let addressed := b.addressed s.params.vehicle
  let acknowledged := b.acknowledges s.params.vehicle s.lpt.held
  let j := judgeState (c.ruleState h.state) addressed acknowledged s.rtm.freshDue b (pc.answered addressed b.answer)
  let (lpt, w) := s.lpt.slot b.junction s.params.vehicle j.slot
  let ctx : Context := { c with paging := some (j.paging.written w), resume := none }
  State.handOnBeacon h.state b.controller j.faults j.warn e
    { s with lpt := lpt, rtm := { s.rtm.setHead j.state with context := some ctx, freshDue := j.fresh } }

/-- The exchange rules, for a head that stands at the front of the plan for the beacon's junction (R81). -/
def State.exchange (b : Beacon) (e : Emit) (s : State) : State :=
  let idle : State := { s with lpt := (s.lpt.slot b.junction s.params.vehicle .nothing).1 }
  match s.rtm.plan with
  | [] => idle.handOn e
  | h :: _ =>
    if h.state = .waiting then
      match s.rtm.record h.id with
      | some j => s.firstContact h j b e
      | none => s.enterUnknown b e
    else
      match s.rtm.context with
      | some { loopMark, paging := some pc, resume, bad } =>
        s.beaconMoves h { loopMark, paging := some pc, resume, bad } pc b e
      | _ => idle.handOn e

/-- R91: the contact state at a valid beacon. -/
def Lpt.hear (junction : Half) (now : Nat) (l : Lpt) : Lpt :=
  if l.contact = some junction then { l with contactTimer := some now }
  else { l with contact := some junction, contactTimer := some now, badCount := 0, checkFault := false }

/-- A valid beacon: the contact (R91), then the RTM (R81), then the slot (R88). -/
def State.validBeacon (b : Beacon) (s : State) : State :=
  let s := { s with lpt := s.lpt.hear b.junction s.now }
  if s.drc.driveState = .unconfigured then
    { s with lpt := (s.lpt.slot b.junction s.params.vehicle .nothing).1 }
  else
    let (rtm, e) := s.rtm.bringHead b.junction
    State.exchange b e { s with rtm := rtm }

/-! ## A bad beacon (R93) -/

/-- R93 item 1: the LPT's count, and whether LOOP_CHECK is latched. -/
def Lpt.countBad (l : Lpt) : Lpt × Bool :=
  if l.contact.isNone then (l, false)
  else
    let n := min 255 (l.badCount + 1)
    let latches := n = Config.badBeaconLimit && !l.checkFault
    ({ l with badCount := n, checkFault := l.checkFault || latches }, latches)

/-- R93 item 2: the count of the head's context. -/
def Context.countBad (c : Context) : Context := { c with bad := min 255 (c.bad + 1) }

def State.badBeacon (s : State) : State :=
  let (lpt, latches) := s.lpt.countBad
  let s := { s with lpt := lpt, rtm := { s.rtm with context := s.rtm.context.map Context.countBad } }
  if latches then s.latch .loopCheck 0 else s

/-- R88: the LPT is transmitting the page that answers the latest valid beacon; its receiver takes no page meanwhile.
When the page begins and ends within its bounds is open (assumption 23). -/
def Lpt.transmitting (now : Nat) (l : Lpt) : Bool :=
  match l.slotPage, l.contactTimer with
  | some _, some beacon => beacon + Config.slotBegin beacon ≤ now && now < beacon + Config.slotEnd beacon
  | _, _ => false

/-- R89, R182: a page that the receiver takes. -/
def State.takePage (page : List Byte) (s : State) : State :=
  match classify page with
  | .incomplete => s
  | .request => s
  | .bad => s.badBeacon
  | .beacon b => s.validBeacon b

/-- R88, R89: a page of the loop. -/
def State.loopPage (page : List Byte) (s : State) : State :=
  if s.lpt.transmitting s.now then s else s.takePage page

/-! ## Contact loss (R92, R115) -/

/-- R115: the states that a contact loss moves. -/
def ExState.losesContact : ExState → Bool
  | .sending | .awaiting | .queued | .setting => true
  | .waiting | .contact | .locked | .refused | .wrongLeg | .timedOut | .contactLost | .unknown => false

/-- R115: a contact-lost event at the RTM. -/
def State.loseContact (junction : Half) (s : State) : State :=
  match s.rtm.plan with
  | [] => s
  | h :: _ =>
    if h.id = junction ∧ h.state.losesContact then
      let ctx := s.rtm.context.map fun c => { c with resume := some h.state }
      let rtm := Rtm.setLamps s.now { s.rtm.setHead .contactLost with context := ctx }
      State.handOn { Emit.nothing with reports := rtm.stateReport h.state s.amu.trackMm none } { s with rtm := rtm }
    else s

/-- R92: the contact timer has reached its limit. -/
def State.contactLost (s : State) : State :=
  if expired s.lpt.contactTimer Config.contactLimit s.now then
    let s' := { s with lpt := { s.lpt with contact := none, contactTimer := none } }
    match s.lpt.contact with
    | some j => s'.loseContact j
    | none => s'
  else s

/-! ## The approach interval (R119 to R123) -/

/-- R120: the head is PASSED at the distance s. -/
def State.passHead (h : PlanEntry) (d : Int) (s : State) : State :=
  let overrun := h.state ≠ .locked && h.state ≠ .unknown
  let rtm := Rtm.setLamps s.now { s.rtm.dropHead with pendingSel := none }
  State.handOn
    { Emit.nothing with
      latches := if overrun then [.junctionOverrun] else []
      reports := [.passed h.id h.selection h.origin h.state d overrun]
      lift := true }
    { s with rtm := rtm }

/-- R121, R123: the head does not pass: the junction-zone flag, then the ROUTE post. -/
def State.superviseHead (h : PlanEntry) (d : Int) (s : State) : State :=
  State.handOn { Emit.nothing with post := routePost s.params s.rtm s.amu.trackMm }
    { s with rtm := { s.rtm with zone := inZone s.params s.rtm h d } }

/-- R119: the three steps of an approach interval. -/
def State.approachSteps (s : State) : State :=
  match s.rtm.plan, s.rtm.context with
  | h :: _, some c =>
    let d := distance c.loopMark s.amu.trackMm
    match passingDistance s.params s.rtm h with
    | some limit => if limit ≤ d then s.passHead h d else s.superviseHead h d
    | none => s
  | _, _ => s

/-- R119: the approach interval is due: it recurs every 20 ms from power-on. -/
def State.approachInterval (s : State) : State :=
  if s.rtm.intervalDue ≤ s.now then
    State.approachSteps
      { s with rtm := { s.rtm with intervalDue := s.rtm.intervalDue + Config.intervalLength } }
  else s

/-! ## The flashing lamp (R124) -/

def State.amberFlash (s : State) : State :=
  if s.rtm.headState = .unknown ∧ expired s.rtm.flashStart Config.flashTime s.now then
    { s with rtm := { s.rtm with amber := !s.rtm.amber, flashStart := some s.now } }
  else s

/-! ## The point selector (R85, R86, R117) -/

def Rtm.armed (r : Rtm) : Selection → Bool
  | .left => r.armedLeft
  | .straight => r.armedStraight
  | .right => r.armedRight

def Rtm.arm (sel : Selection) (v : Bool) (r : Rtm) : Rtm :=
  match sel with
  | .left => { r with armedLeft := v }
  | .straight => { r with armedStraight := v }
  | .right => { r with armedRight := v }

/-- The head takes a selection. -/
def Rtm.selectHead (sel : Selection) (r : Rtm) : Rtm :=
  match r.plan with
  | [] => r
  | e :: rest => { r with plan := { e with selection := sel } :: rest }

/-- R86: the press replaces the selection of a head in WAITING. -/
def State.replaceSelection (h : PlanEntry) (sel : Selection) (s : State) : State :=
  if h.selection = sel then s
  else State.handOn { Emit.nothing with reports := [.selection h.id h.selection sel] }
    { s with rtm := s.rtm.selectHead sel }

/-- R117 step 3: the page fields of a re-request; toggle and chain value stand until FIRST is sent. -/
def PageContext.again (pages : List Page) (pc : PageContext) : PageContext :=
  { pc with pages := pages, index := 0, sends := 1, answer := .none, counter := 0 }

/-- R117: a re-request. -/
def State.reRequest (h : PlanEntry) (j : JunctionRecord) (sel : Selection) (s : State) : State :=
  let inContact := s.lpt.contact = some h.id
  let ctx := s.rtm.context.map fun c =>
    { c with paging := c.paging.map (PageContext.again (j.pageList sel))
             resume := if inContact then none else some .sending }
  let rtm := Rtm.setLamps s.now
    { (s.rtm.selectHead sel).setHead (if inContact then .sending else .contactLost) with
      context := ctx, freshDue := true }
  State.handOn { Emit.nothing with reports := rtm.stateReport h.state s.amu.trackMm none } { s with rtm := rtm }

/-- A state from which a re-request may be made (R117). -/
def ExState.failed : ExState → Bool
  | .refused | .wrongLeg | .timedOut => true
  | .waiting | .contact | .sending | .awaiting | .queued | .setting | .locked | .contactLost | .unknown => false

/-- R86, Table 4-5: a taken press. -/
def State.selectHead (sel : Selection) (s : State) : State :=
  match s.rtm.plan with
  | [] => s
  | h :: _ =>
    let rec_ := s.rtm.record h.id
    if h.state = .waiting then
      if s.rtm.lacks h.id sel then s.requestRefuse .route else s.replaceSelection h sel
    else if h.state.failed ∧ s.amu.atStandstill then
      match rec_ with
      | some j => if (j.route sel).isSome then s.reRequest h j sel else s.requestRefuse .route
      | none => s.requestRefuse .route
    else s.requestRefuse .route

/-- R85: a press of a selector button. -/
def State.selectorPress (sel : Selection) (s : State) : State :=
  if s.rtm.armed sel then
    State.selectHead sel { s with rtm := { s.rtm.arm sel false with pendingSel := some sel } }
  else s

/-! ## The commands -/

/-- SELECTOR_PRESS (R85, R86, R117). For a button that was held through power-on or RESTART `stood` counts from there. -/
def execSelectorPress (t stood : Nat) (selection : Selection) (s : State) : Host.Outcome State Fault Refusal :=
  let s := s.atTime t
  .next (if Config.buttonMs ≤ stood then s.selectorPress selection else s)

/-- The release of a selector button (R85): its next press can be taken. -/
def execSelectorButtonRelease (t stood : Nat) (selection : Selection) (s : State) :
    Host.Outcome State Fault Refusal :=
  let s := s.atTime t
  .next (if Config.buttonMs ≤ stood then { s with rtm := s.rtm.arm selection true } else s)

/-- APPROACH_INTERVAL (R119). -/
def execApproachInterval (t : Nat) (s : State) : Host.Outcome State Fault Refusal :=
  .next (s.atTime t).approachInterval

/-- AMBER_FLASH (R124). -/
def execAmberFlash (t : Nat) (s : State) : Host.Outcome State Fault Refusal :=
  .next (s.atTime t).amberFlash

/-- LOOP_PAGE (R88, R89). -/
def execLoopPage (t : Nat) (page : List Byte) (s : State) : Host.Outcome State Fault Refusal :=
  .next ((s.atTime t).loopPage page)

/-- The state by whose rule the next beacon of the head is taken. -/
def Rtm.ruleState (r : Rtm) : ExState :=
  match r.context with
  | some c => c.ruleState r.headState
  | none => r.headState

/-- AWAITING_TIMEOUT (R110): the page whose counting takes AWAITING to TIMED_OUT (assumption 4). -/
def execAwaitingTimeout (t : Nat) (page : List Byte) (s : State) : Host.Outcome State Fault Refusal :=
  let s := s.atTime t
  let s' := s.loopPage page
  .next (if s.rtm.ruleState = .awaiting ∧ s'.rtm.headState = .timedOut then s' else s)

/-- SETTING_TIMEOUT (R112): the page whose counting takes SETTING to TIMED_OUT (assumption 4). -/
def execSettingTimeout (t : Nat) (page : List Byte) (s : State) : Host.Outcome State Fault Refusal :=
  let s := s.atTime t
  let s' := s.loopPage page
  .next (if s.rtm.ruleState = .setting ∧ s'.rtm.headState = .timedOut then s' else s)

/-- CONTACT_LOST (R92, R115). -/
def execContactLost (t : Nat) (s : State) : Host.Outcome State Fault Refusal :=
  .next (s.atTime t).contactLost

end Sys2Proof.Machine
end

