-- ==== Sys2Proof/Machine/SoundLink.lean ====
section
/-! DEFINITION. The Tone Unit's side of the cab-link commands SOUND_START, SOUND_STOP, PATTERN_LOAD and PATTERN_READ
(R157, R158, R161, R168). -/

namespace Sys2Proof.Machine

/-! ## SOUND_START (R161) -/

/-- R161: the priority of the request, and whether it was clamped. -/
def clampPriority (n : Nat) : Nat × Bool := (min n Config.linkPriority, Config.linkPriority < n)

/-- R163: the priority that an update of a key keeps: that of the playing or saved context. -/
def Channel.keptPriority (key : Request → Bool) (c : Channel) : Option Nat :=
  ((c.playing.toList.map (·.saved.req) ++ c.stack.map (·.req)).find? key).map (·.priority)

/-- R161: the priority in force after a request of priority `p` has arrived at a channel. -/
def priorityInForce (p : Nat) (outcome : SoundOutcome) (kept : Option Nat) : Nat :=
  match outcome with
  | .updated => kept.getD p
  | .started | .waiting _ | .full => p

/-- SOUND_START at the TNU. -/
def State.soundStart (channel pattern priority mode : Byte) (s : State) : State × Verdict :=
  match channelOf channel with
  | none => (s, .range 1)
  | some ch =>
    if 23 < pattern.toNat then (s, .range 2)
    else if 7 < priority.toNat then (s, .range 3)
    else
      match linkModeOf mode with
      | none => (s, .range 4)
      | some m =>
        if (s.tnu.pattern pattern.toNat).isNone then (s, .plain .notFound)
        else
          let (p, clamped) := clampPriority priority.toNat
          let (s', outcome) := s.requestSound ch
            { pattern := pattern.toNat, priority := p, source := .link, mode := m, rank := 0 }
          match outcome with
          | .full => (s, .plain .full)
          | _ =>
            let kept := (s.channel ch).keptPriority (Request.hasKey .link pattern.toNat)
            (s', .ok (.soundStarted (priorityInForce p outcome kept) clamped outcome))

/-! ## SOUND_STOP (R168) -/

def Request.isLink (r : Request) : Bool := r.source = .link

/-- R168: the removals from a channel: waiting requests from head to tail, then saved contexts from top to bottom. -/
def Channel.linkExits (c : Channel) : List Exit :=
  (c.queue.filter Request.isLink).map (fun r => ⟨.stopped, r, 0⟩) ++
  (c.stack.filter fun sv => sv.req.isLink).map (fun sv => ⟨.stopped, sv.req, sv.repeats⟩)

/-- R168: the playing context, if its source is LINK. -/
def Channel.linkPlaying (c : Channel) : Option Exit :=
  match c.playing with
  | some p => if p.saved.req.isLink then some ⟨.stopped, p.saved.req, p.saved.repeats⟩ else none
  | none => none

/-- R168: the queue and the stack without the requests of source LINK. -/
def Channel.withoutLink (c : Channel) : Channel :=
  { c with queue := c.queue.filter fun r => !r.isLink, stack := c.stack.filter fun sv => !sv.req.isLink }

/-- R168: the stop of a channel, with the requests removed and those that complete on resumption (R162). -/
def State.stopChannel (ch : ChannelId) (s : State) : State × Nat :=
  let c := s.channel ch
  let waiting := c.linkExits
  match c.linkPlaying with
  | some e =>
    let (c', more) := c.withoutLink.endPlaying s.tnu.pattern s.now
    ((s.setChannel ch c').reportExits ch (waiting ++ e :: more), waiting.length + 1)
  | none => ((s.setChannel ch c.withoutLink).reportExits ch waiting, waiting.length)

/-- SOUND_STOP at the TNU. -/
def State.soundStop (channel : Byte) (s : State) : State × Verdict :=
  match channelOf channel with
  | none => (s, .rangeUnnamed 0x0E 1)
  | some ch =>
    let (s', n) := s.stopChannel ch
    (s', .ok (.soundStopped n ((s'.channel ch).playing.map fun p => (p.saved.req.pattern, p.saved.req.source))))

/-! ## PATTERN_LOAD (R157) -/

/-- R157 check 5 for one step. -/
def badStep (st : StepField) : Bool :=
  (st.period.toNat ≠ 0 && (st.period.toNat < 250 || 20000 < st.period.toNat)) || 500 < st.level.toNat ||
    st.duration.toNat < 10 || 5000 < st.duration.toNat || st.duration.toNat % 10 ≠ 0

/-- R156: a step as it is kept; a silence step carries no level. -/
def keptStep (st : StepField) : Step where
  period := st.period.toNat
  level := if st.period = 0 then 0 else st.level.toNat
  duration := st.duration.toNat

/-- R157 check 6: the load buffer is empty or holds another pattern. -/
def bufferDiffers (p : PatternLoad) (b : Option LoadBuffer) : Bool :=
  match b with
  | none => true
  | some b => b.number ≠ p.number.toNat || b.stepCount ≠ p.stepCount.toNat || b.repeats ≠ p.repeats.toNat

/-- R157: the command writes the pattern, and does not only fill the load buffer. -/
def writesPattern (p : PatternLoad) : Bool := p.first.toNat = 8 || p.stepCount.toNat ≤ 8

/-- R157, checks 1 to 7: the refusal of the first that fails. -/
def checkPattern (p : PatternLoad) (t : Tnu) : Option Verdict :=
  if p.number.toNat < 8 ∨ 23 < p.number.toNat then some (.range 1)
  else if 15 < p.repeats.toNat ∨ p.stepCount.toNat < 1 ∨ 16 < p.stepCount.toNat then some (.range 2)
  else if (p.first.toNat ≠ 0 ∧ p.first.toNat ≠ 8) ∨ (p.first.toNat = 8 ∧ p.stepCount.toNat ≤ 8) then
    some (.range 3)
  else if p.steps.length ≠ min 8 (p.stepCount.toNat - p.first.toNat) then some (.range 4)
  else if p.steps.any badStep then some (.range 5)
  else if p.first.toNat = 8 ∧ bufferDiffers p t.loadBuffer then some (.plain .refusedState)
  else if writesPattern p ∧ t.inUse p.number.toNat then some (.plain .inUse)
  else none

/-- R157: a loadable pattern is written whole. -/
def Tnu.writePattern (n : Nat) (pat : Pattern) (t : Tnu) : Tnu :=
  { t with patterns := t.patterns.setIfInBounds (n - 8) (some pat) }

/-- R157: an accepted load. -/
def Tnu.loadPattern (p : PatternLoad) (t : Tnu) : Tnu :=
  let n := p.number.toNat
  let steps := p.steps.map keptStep
  if p.first.toNat = 8 then
    let whole : Pattern := { steps := ((t.loadBuffer.map (·.steps)).getD []) ++ steps, repeats := p.repeats.toNat }
    { t.writePattern n whole with loadBuffer := none }
  else if p.stepCount.toNat ≤ 8 then
    let whole : Pattern := { steps := steps, repeats := p.repeats.toNat }
    { t.writePattern n whole with loadBuffer := t.loadBuffer.filter fun b => b.number ≠ n }
  else
    let part : LoadBuffer :=
      { number := n, repeats := p.repeats.toNat, stepCount := p.stepCount.toNat, steps := steps }
    { t with loadBuffer := some part }

/-- PATTERN_LOAD at the TNU. -/
def State.patternLoad (p : PatternLoad) (s : State) : State × Verdict :=
  match checkPattern p s.tnu with
  | some v => (s, v)
  | none => ({ s with tnu := s.tnu.loadPattern p }, .ok (.patternLoaded p.number.toNat (writesPattern p)))

/-- PATTERN_READ at the TNU (R158). With both fields out of range the number is refused (DESIGN CHOICE, assumption 45). -/
def State.patternRead (number first : Byte) (s : State) : Verdict :=
  let n := number.toNat
  if 23 < n then .rangeUnnamed 0x10 1
  else if first.toNat ≠ 0 ∧ first.toNat ≠ 8 then .rangeUnnamed 0x10 2
  else
    match s.tnu.pattern n with
    | none => .plain .notFound
    | some p =>
      .ok (.pattern p.repeats p.steps.length ((p.steps.drop first.toNat).take 8) (n < 8)
        [s.tnu.bell.uses n, s.tnu.horn.uses n, s.tnu.cab.uses n])

end Sys2Proof.Machine
end

