-- ==== Sys2Proof/Machine/Link.lean ====
section
/-! DEFINITION. The Cab Link Port (Chapter 10): the receiver, the inbound queue and the taking of commands, the
outbound queue, status, the fault set as it is read, and RESTART. Every row of the opcode table that is a command of the
cab link is the arrival of that command's checked frame (assumption 5). -/

namespace Sys2Proof.Machine

/-! ## Status (R176 to R178) -/

/-- R176. -/
def identity : ReplyData := .identity 0x4E18 1 2 0xFD

/-- STATUS_READ (R177). -/
def State.statusRead (section_ : Byte) (s : State) : Verdict :=
  match section_.toNat with
  | 0 => .ok (.drive s.driveView)
  | 1 => .ok (.loop s.lpt.view)
  | 2 => .ok (.doors s.sdu.view s.sdu.stopLamp s.sdu.rampLamp)
  | 3 => .ok (.channel (Channel.view s.tnu s.now s.tnu.bell))
  | 4 => .ok (.channel (Channel.view s.tnu s.now s.tnu.horn))
  | 5 => .ok (.channel (Channel.view s.tnu s.now s.tnu.cab))
  | _ => .rangeUnnamed 0x14 1

/-- R178: the report interval in µs. -/
def rateInterval (n : Nat) : Nat := n * 100000

/-- REPORT_RATE (R178). -/
def State.reportRate (rate : Byte) (s : State) : State × Verdict :=
  if 50 < rate.toNat then (s, .rangeUnnamed 0x15 1)
  else
    ({ s with clp := { s.clp with rate := rate.toNat, statusDue := s.now + rateInterval rate.toNat } },
      .ok (.rate rate.toNat))

/-- R178: the report interval expires. -/
def State.statusExpiry (s : State) : State :=
  if 0 < s.clp.rate ∧ s.clp.statusDue ≤ s.now then
    State.raise (.status s.statusView)
      { s with clp := { s.clp with statusDue := s.clp.statusDue + rateInterval s.clp.rate } }
  else s

/-! ## The fault set as it is read (R180) -/

/-- R180: the entries created for the persistent conditions that stand. -/
def standingEntries (s : State) : List FaultEntry :=
  (standingFaults s).map fun f =>
    { code := f.1, index := f.2, count := 1, firstSeen := s.amu.odometerMm, active := true }

/-- R180: the set is emptied and holds the standing faults alone; the overflow flag is clear. -/
def State.renewFaults (s : State) : State :=
  { s with clp := { s.clp with faults := standingEntries s, overflow := false } }

/-- R180: what a read of a snapshot carries. -/
def Snapshot.read (start : Nat) (sn : Snapshot) : ReplyData :=
  .faults sn.overflow sn.entries.length start ((sn.entries.drop start).take Config.faultsPerReply)

/-- FAULTS_READ (R180). -/
def State.faultsRead (start : Byte) (s : State) : State × Verdict :=
  let n := start.toNat
  if n = 0 then
    let sn : Snapshot := { entries := s.clp.faults, overflow := s.clp.overflow }
    (State.renewFaults { s with clp := { s.clp with snapshot := some sn } }, .ok (sn.read 0))
  else if 31 < n then (s, .rangeUnnamed 0x16 1)
  else
    match s.clp.snapshot with
    | none => (s, .plain .notFound)
    | some sn => if sn.entries.length ≤ n then (s, .rangeUnnamed 0x16 2) else (s, .ok (sn.read n))

/-! ## RESTART (R181) -/

/-- R181: each block takes RESTART as its own rule gives. -/
def State.restartBlocks (s : State) : State :=
  let s := s.dropLinkEntries.restartRoute
  { s with lpt := { s.lpt with held := none }, tnu := s.tnu.restarted }

/-- R181: both queues are emptied, but for the frame whose transmission had begun when RESTART was taken. -/
def Clp.restarted (begun : List OutFrame) (c : Clp) : Clp :=
  { c with inbound := [], outbound := begun, lost := false, snapshot := none }

/-- R181: an accepted RESTART, before its reply. -/
def State.restart (s : State) : State :=
  let begun := s.clp.outbound.take 1
  let s := s.restartBlocks.renewFaults
  { s with clp := s.clp.restarted begun }

/-- RESTART as R174 judges it. -/
def State.restartCommand (s : State) : State × Verdict :=
  if s.amu.atStandstill then (s.restart, .ok .none) else (s, .plain .notStandstill)

/-! ## Taking a command (R174) -/

/-- R174: the judgement of a taken frame: by the CLP, then by the owner of the command. -/
def State.runCommand (c : LinkCommand) (s : State) : State × Verdict :=
  match c with
  | .unknown => (s, .plain .unknownCommand)
  | .badLength => (s, .plain .badLength)
  | .identify => (s, .ok identity)
  | .configure p => s.configure p
  | .readConfig => (s, s.readConfig)
  | .junctionLoad load => s.junctionLoad load
  | .junctionDrop id => s.junctionDrop id
  | .junctionRead id => (s, s.junctionRead id)
  | .routeAppend id sel => s.routeAppend id sel
  | .routeClear => s.routeClear
  | .routeRead view => (s, s.routeRead view)
  | .restrictPost post => s.restrictPost post
  | .restrictLift owner linkId => s.restrictLift owner linkId
  | .restrictRead owner linkId => (s, s.restrictRead owner linkId)
  | .soundStart ch pattern priority mode => s.soundStart ch pattern priority mode
  | .soundStop ch => s.soundStop ch
  | .patternLoad load => s.patternLoad load
  | .patternRead number first => (s, s.patternRead number first)
  | .stopRead => (s, s.stopRead)
  | .stopClear target => s.stopClear target
  | .buttonIsolate index action => s.buttonIsolate index action
  | .statusRead section_ => (s, s.statusRead section_)
  | .reportRate rate => s.reportRate rate
  | .faultsRead start => s.faultsRead start
  | .restart => s.restartCommand

/-- R174: the reply to a command carries its KIND with bit 7 set and its TAG (Table 10-5). -/
def replyFrame (kind tag : Byte) (v : Verdict) : OutFrame := .reply (kind ||| 0x80) tag v.status v.check v.data

/-- R174: a command taken from the inbound queue completes, and its reply joins (assumption 9). -/
def State.takeFrame (c : Inbound) (s : State) : State :=
  let (s', v) := s.runCommand c.command
  s'.pushReply (replyFrame c.kind c.tag v)

/-- R174: no reply waits to begin transmission; the head of the outbound queue has begun. -/
def Clp.replyWaits (c : Clp) : Bool := (c.outbound.drop 1).any OutFrame.isReply

/-- R174: commands are taken while the condition stands; the first argument bounds their number. -/
def State.drain : Nat → State → State
  | 0, s => s
  | n + 1, s =>
    if s.clp.replyWaits then s
    else
      match s.clp.inbound with
      | [] => s
      | c :: rest => State.drain n (State.takeFrame c { s with clp := { s.clp with inbound := rest } })

/-- R174: the head of the inbound queue is taken as soon as its condition stands. -/
def State.takeWaiting (s : State) : State := s.drain s.clp.inbound.length

/-- R173: a checked frame that is not EMERGENCY_STOP arrives. -/
def State.arrive (c : Inbound) (s : State) : State :=
  if s.clp.inbound.length < Config.inboundSlots then
    State.takeWaiting { s with clp := { s.clp with inbound := s.clp.inbound ++ [c] } }
  else s.pushReply (replyFrame c.kind c.tag (.plain .busy))

/-- R41, R173: EMERGENCY_STOP, taken at once. -/
def State.emergencyStop (tag : Byte) (s : State) : State :=
  if s.drc.driveState = .unconfigured then s.pushReply (replyFrame 0x17 tag (.plain .unconfigured))
  else
    let s := (s.trip .linkStop).settle
    s.pushReply (replyFrame 0x17 tag (.ok (.driveState s.drc.driveState)))

/-! ## The receiver (R172) -/

/-- R172: a checked frame goes on under R173. -/
def State.checkedFrame (kind tag : Byte) (payload : List Byte) (s : State) : State :=
  if kind = 0x17 then
    if payload = [] then s.emergencyStop tag else s.pushReply (replyFrame kind tag (.plain .badLength))
  else s.arrive { kind := kind, tag := tag, command := parseCommand kind payload }

def State.setReceiver (r : Receiver) (s : State) : State := { s with clp := { s.clp with receiver := r } }

/-- R172: a frame is aborted or discarded: the LINK_ERROR report of the bytes received after the sync byte. -/
def State.abortFrame (reason : LinkErrorReason) (bytes : List Byte) (s : State) : State :=
  (s.setReceiver .hunting).raise (.linkError reason bytes.length bytes[1]? bytes[2]?)

/-- R172: a byte in HUNTING. -/
def State.hunt (b : RxByte) (s : State) : State :=
  if b.value = 0xC3 then s.setReceiver (.collecting [] b.endedAt) else s.setReceiver .hunting

/-- R172: the bytes a frame has after its sync byte: LENGTH itself, what it counts, and the check. -/
def frameSize (length : Byte) : Nat := length.toNat + 3

/-- R172: the check of a frame collected whole. -/
def frameChecks (bytes : List Byte) : Bool :=
  let n := bytes.length - 2
  halfBytes (crc 0xFFFF (bytes.take n)) = bytes.drop n

/-- R172: a frame has been collected whole. -/
def State.frameWhole (bytes : List Byte) (s : State) : State :=
  if frameChecks bytes then
    match bytes with
    | _ :: kind :: tag :: rest => (s.setReceiver .hunting).checkedFrame kind tag (rest.take (rest.length - 2))
    | _ => s.setReceiver .hunting
  else s.abortFrame .check bytes

/-- R172: a byte in COLLECTING that comes within the gap limit. -/
def State.collect (bytes : List Byte) (b : RxByte) (s : State) : State :=
  match bytes ++ [b.value] with
  | [] => s
  | length :: rest =>
    if rest = [] ∧ (length.toNat < 2 ∨ 58 < length.toNat) then (s.abortFrame .length [length]).hunt b
    else if (length :: rest).length = frameSize length then s.frameWhole (length :: rest)
    else s.setReceiver (.collecting (length :: rest) b.endedAt)

/-- R172: a byte at the receiver. One without its stop bit is discarded as if it had not arrived. -/
def State.receive (s : State) (b : RxByte) : State :=
  let s := s.atTime b.endedAt
  if !b.stopBit then s
  else
    match s.clp.receiver with
    | .hunting => s.hunt b
    | .collecting bytes last =>
      if last + Config.gapLimit < b.endedAt then (s.abortFrame .gap bytes).hunt b
      else s.collect bytes b

/-- R172: a gap longer than the limit after the last byte, before another has come (assumption 26). -/
def State.gapAbort (s : State) : State :=
  match s.clp.receiver with
  | .hunting => s
  | .collecting bytes last => if last + Config.gapLimit < s.now then s.abortFrame .gap bytes else s

/-- R175: the last byte of the frame in transmission has been sent, and the next begins. -/
def State.frameSent (s : State) : State :=
  match s.clp.outbound with
  | [] => s
  | _ :: rest => State.takeWaiting { s with clp := ({ s.clp with outbound := rest } : Clp).beginHead }

/-! ## The commands of the receiver, the queues and the STATUS timer -/

/-- LINK_FRAME (R172, R173). -/
def execLinkFrame (bytes : List RxByte) (s : State) : Host.Outcome State Fault Refusal :=
  .next (bytes.foldl State.receive s)

/-- GAP_ABORT (R172). -/
def execGapAbort (t : Nat) (s : State) : Host.Outcome State Fault Refusal := .next (s.atTime t).gapAbort

/-- TAKE_COMMAND (R174). -/
def execTakeCommand (t : Nat) (s : State) : Host.Outcome State Fault Refusal := .next (s.atTime t).takeWaiting

/-- FRAME_SENT (R175). -/
def execFrameSent (t : Nat) (s : State) : Host.Outcome State Fault Refusal := .next (s.atTime t).frameSent

/-- STATUS_TIMER_EXPIRY (R178). -/
def execStatusTimerExpiry (t : Nat) (s : State) : Host.Outcome State Fault Refusal :=
  .next (s.atTime t).statusExpiry

/-! ## The commands of the cab computer, each as the arrival of its checked frame (assumption 5) -/

/-- A frame of a KIND with its command arrives at the moment `t`. -/
def State.command (t : Nat) (kind tag : Byte) (c : LinkCommand) (s : State) : State :=
  (s.atTime t).arrive { kind := kind, tag := tag, command := c }

/-- EMERGENCY_STOP (R41, R173). -/
def execEmergencyStop (t : Nat) (tag : Byte) (s : State) : Host.Outcome State Fault Refusal :=
  .next ((s.atTime t).emergencyStop tag)

/-- IDENTIFY (R176). -/
def execIdentify (t : Nat) (tag : Byte) (s : State) : Host.Outcome State Fault Refusal :=
  .next (s.command t 0x01 tag .identify)

/-- CONFIGURE (R184 to R186). -/
def execConfigure (t : Nat) (tag : Byte) (params : Params) (s : State) : Host.Outcome State Fault Refusal :=
  .next (s.command t 0x02 tag (.configure params))

/-- READ_CONFIG (R187). -/
def execReadConfig (t : Nat) (tag : Byte) (s : State) : Host.Outcome State Fault Refusal :=
  .next (s.command t 0x03 tag .readConfig)

/-- JUNCTION_LOAD (R70, R71). -/
def execJunctionLoad (t : Nat) (tag : Byte) (load : JunctionLoad) (s : State) : Host.Outcome State Fault Refusal :=
  .next (s.command t 0x04 tag (.junctionLoad load))

/-- JUNCTION_DROP (R72). -/
def execJunctionDrop (t : Nat) (tag : Byte) (id : Half) (s : State) : Host.Outcome State Fault Refusal :=
  .next (s.command t 0x05 tag (.junctionDrop id))

/-- JUNCTION_READ (R73). -/
def execJunctionRead (t : Nat) (tag : Byte) (id : Half) (s : State) : Host.Outcome State Fault Refusal :=
  .next (s.command t 0x06 tag (.junctionRead id))

/-- ROUTE_APPEND (R76). -/
def execRouteAppend (t : Nat) (tag : Byte) (id : Half) (selection : Byte) (s : State) :
    Host.Outcome State Fault Refusal :=
  .next (s.command t 0x07 tag (.routeAppend id selection))

/-- ROUTE_CLEAR (R77). -/
def execRouteClear (t : Nat) (tag : Byte) (s : State) : Host.Outcome State Fault Refusal :=
  .next (s.command t 0x08 tag .routeClear)

/-- ROUTE_READ (R78). -/
def execRouteRead (t : Nat) (tag view : Byte) (s : State) : Host.Outcome State Fault Refusal :=
  .next (s.command t 0x09 tag (.routeRead view))

/-- RESTRICT_POST (R23, R24). -/
def execRestrictPost (t : Nat) (tag : Byte) (post : RestrictPost) (s : State) : Host.Outcome State Fault Refusal :=
  .next (s.command t 0x0A tag (.restrictPost post))

/-- RESTRICT_LIFT (R25). -/
def execRestrictLift (t : Nat) (tag owner linkId : Byte) (s : State) : Host.Outcome State Fault Refusal :=
  .next (s.command t 0x0B tag (.restrictLift owner linkId))

/-- RESTRICT_READ (R26). -/
def execRestrictRead (t : Nat) (tag owner linkId : Byte) (s : State) : Host.Outcome State Fault Refusal :=
  .next (s.command t 0x0C tag (.restrictRead owner linkId))

/-- SOUND_START (R161). -/
def execSoundStart (t : Nat) (tag channel pattern priority mode : Byte) (s : State) :
    Host.Outcome State Fault Refusal :=
  .next (s.command t 0x0D tag (.soundStart channel pattern priority mode))

/-- SOUND_STOP (R168). -/
def execSoundStop (t : Nat) (tag channel : Byte) (s : State) : Host.Outcome State Fault Refusal :=
  .next (s.command t 0x0E tag (.soundStop channel))

/-- R174 item 2: a PATTERN_LOAD payload has at most eight steps (Table 10-5). -/
def patternCommand (load : PatternLoad) : LinkCommand :=
  if load.steps.length ≤ 8 then .patternLoad load else .badLength

/-- PATTERN_LOAD (R157). -/
def execPatternLoad (t : Nat) (tag : Byte) (load : PatternLoad) (s : State) : Host.Outcome State Fault Refusal :=
  .next (s.command t 0x0F tag (patternCommand load))

/-- PATTERN_READ (R158). -/
def execPatternRead (t : Nat) (tag number first : Byte) (s : State) : Host.Outcome State Fault Refusal :=
  .next (s.command t 0x10 tag (.patternRead number first))

/-- STOP_READ (R137). -/
def execStopRead (t : Nat) (tag : Byte) (s : State) : Host.Outcome State Fault Refusal :=
  .next (s.command t 0x11 tag .stopRead)

/-- STOP_CLEAR (R136). -/
def execStopClear (t : Nat) (tag target : Byte) (s : State) : Host.Outcome State Fault Refusal :=
  .next (s.command t 0x12 tag (.stopClear target))

/-- BUTTON_ISOLATE (R132). -/
def execButtonIsolate (t : Nat) (tag index action : Byte) (s : State) : Host.Outcome State Fault Refusal :=
  .next (s.command t 0x13 tag (.buttonIsolate index action))

/-- STATUS_READ (R177). -/
def execStatusRead (t : Nat) (tag section_ : Byte) (s : State) : Host.Outcome State Fault Refusal :=
  .next (s.command t 0x14 tag (.statusRead section_))

/-- REPORT_RATE (R178). -/
def execReportRate (t : Nat) (tag rate : Byte) (s : State) : Host.Outcome State Fault Refusal :=
  .next (s.command t 0x15 tag (.reportRate rate))

/-- FAULTS_READ (R180). -/
def execFaultsRead (t : Nat) (tag start : Byte) (s : State) : Host.Outcome State Fault Refusal :=
  .next (s.command t 0x16 tag (.faultsRead start))

/-- RESTART (R174, R181). -/
def execRestart (t : Nat) (tag : Byte) (s : State) : Host.Outcome State Fault Refusal :=
  .next (s.command t 0x18 tag .restart)

end Sys2Proof.Machine
end

