-- ==== Sys2Proof/Machine/Power.lean ====
section
/-! DEFINITION. POWER_ON: the starting state of every block (R18, R35, R65, R87, R103, R127, R141, R153, R171, R173,
R175, R183), and the examination of the inputs as they stand (R18, R47, R141, R153). -/

namespace Sys2Proof.Machine

/-- R18: a sensor-health input found OPEN. -/
def State.examineSensor (ax : Axle) (isOpen : Bool) (s : State) : State := if isOpen then s.sensorOpen ax else s

/-- R153: the levels of the bypass switch and the door inputs are taken as they stand. -/
def Sdu.takeLevels (bypass : Bool) (locked : Vector Bool 8) (d : Sdu) : Sdu :=
  { d with bypass := bypass, locked := locked }

/-- R141: a contact closed at power-on starts its settle timer. -/
def Sdu.takeContacts (now : Nat) (raw : Vector Bool 16) (d : Sdu) : Sdu :=
  { d with buttons := Vector.ofFn fun i => d.buttons[i].input now raw[i] }

/-- R47, R65: the cab contacts are taken as they stand. -/
def State.takeContacts (p : PowerInputs) (s : State) : State :=
  let s := s.takeReverser (reverserOf p.forward p.reverse)
  let s := { s with drc := { s.drc with deadman := p.deadman } }
  if p.detent then s.closeDetent else s

/-- The examination of the inputs, block by block in the order of the chapters (assumption 29). -/
def State.examine (p : PowerInputs) (s : State) : State :=
  let s := ((s.examineSensor .A p.openA).examineSensor .B p.openB).takeContacts p
  { s with sdu := (s.sdu.takeLevels p.bypassOn p.locked).takeContacts s.now p.buttons }

/-- POWER_ON: every block takes its starting state; the queue of waiting commands is the model's own and is kept
(assumption 25). -/
def execPowerOn (t : Nat) (inputs : PowerInputs) (s : State) : Host.Outcome State Fault Refusal :=
  .next (State.examine inputs { State.initial (s.atTime t).now with pending := s.pending })

end Sys2Proof.Machine
end

