-- ==== Sys2Proof/Machine/Dispatch.lean ====
section
/-! DEFINITION. The effect of each command: one arm for each row of spec/opcode_table.json. -/

namespace Sys2Proof.Machine

def exec (i : Instr) (s : State) : Host.Outcome State Fault Refusal :=
  match i with
  | .powerOn t inputs => Sys2Proof.Machine.execPowerOn t inputs s
  | .tachoEdge t axle => Sys2Proof.Machine.execTachoEdge t axle s
  | .noEdgeExpiry t axle => Sys2Proof.Machine.execNoEdgeExpiry t axle s
  | .sensorHealthOpen t axle => Sys2Proof.Machine.execSensorHealthOpen t axle s
  | .sensorHealthOk t axle => Sys2Proof.Machine.execSensorHealthOk t axle s
  | .plausibilityExpiry t axle => Sys2Proof.Machine.execPlausibilityExpiry t axle s
  | .controlInterval t => Sys2Proof.Machine.execControlInterval t s
  | .adhesionConditionEnd t => Sys2Proof.Machine.execAdhesionConditionEnd t s
  | .capRemoved t => Sys2Proof.Machine.execCapRemoved t s
  | .sandRunOnExpiry t => Sys2Proof.Machine.execSandRunOnExpiry t s
  | .resetComplete t => Sys2Proof.Machine.execResetComplete t s
  | .handleCycle t => Sys2Proof.Machine.execHandleCycle t s
  | .reverserChange t stood forward reverse => Sys2Proof.Machine.execReverserChange t stood forward reverse s
  | .deadmanChange t stood pressed => Sys2Proof.Machine.execDeadmanChange t stood pressed s
  | .emergencyDetentClose t => Sys2Proof.Machine.execEmergencyDetentClose t s
  | .emergencyDetentOpen t stood => Sys2Proof.Machine.execEmergencyDetentOpen t stood s
  | .vigilanceWarning t => Sys2Proof.Machine.execVigilanceWarning t s
  | .vigilanceTrip t => Sys2Proof.Machine.execVigilanceTrip t s
  | .demandPeriodStart t => Sys2Proof.Machine.execDemandPeriodStart t s
  | .emergencyStop t tag => Sys2Proof.Machine.execEmergencyStop t tag s
  | .restrictPost t tag post => Sys2Proof.Machine.execRestrictPost t tag post s
  | .restrictLift t tag owner linkId => Sys2Proof.Machine.execRestrictLift t tag owner linkId s
  | .restrictRead t tag owner linkId => Sys2Proof.Machine.execRestrictRead t tag owner linkId s
  | .junctionLoad t tag load => Sys2Proof.Machine.execJunctionLoad t tag load s
  | .junctionDrop t tag id => Sys2Proof.Machine.execJunctionDrop t tag id s
  | .junctionRead t tag id => Sys2Proof.Machine.execJunctionRead t tag id s
  | .routeAppend t tag id selection => Sys2Proof.Machine.execRouteAppend t tag id selection s
  | .routeClear t tag => Sys2Proof.Machine.execRouteClear t tag s
  | .routeRead t tag view => Sys2Proof.Machine.execRouteRead t tag view s
  | .selectorPress t stood selection => Sys2Proof.Machine.execSelectorPress t stood selection s
  | .approachInterval t => Sys2Proof.Machine.execApproachInterval t s
  | .amberFlash t => Sys2Proof.Machine.execAmberFlash t s
  | .loopPage t page => Sys2Proof.Machine.execLoopPage t page s
  | .awaitingTimeout t page => Sys2Proof.Machine.execAwaitingTimeout t page s
  | .settingTimeout t page => Sys2Proof.Machine.execSettingTimeout t page s
  | .contactLost t => Sys2Proof.Machine.execContactLost t s
  | .buttonInputChange t button raw => Sys2Proof.Machine.execButtonInputChange t button raw s
  | .settleTimerExpiry t button => Sys2Proof.Machine.execSettleTimerExpiry t button s
  | .holdTimerExpiry t button => Sys2Proof.Machine.execHoldTimerExpiry t button s
  | .recoveryTimerExpiry t button => Sys2Proof.Machine.execRecoveryTimerExpiry t button s
  | .buttonIsolate t tag index action => Sys2Proof.Machine.execButtonIsolate t tag index action s
  | .stopClear t tag target => Sys2Proof.Machine.execStopClear t tag target s
  | .stopRead t tag => Sys2Proof.Machine.execStopRead t tag s
  | .releasePress t stood side => Sys2Proof.Machine.execReleasePress t stood side s
  | .closePress t stood => Sys2Proof.Machine.execClosePress t stood s
  | .closeTimerExpiry t => Sys2Proof.Machine.execCloseTimerExpiry t s
  | .doorInputChange t stood door locked => Sys2Proof.Machine.execDoorInputChange t stood door locked s
  | .bypassOn t stood => Sys2Proof.Machine.execBypassOn t stood s
  | .bypassOff t stood => Sys2Proof.Machine.execBypassOff t stood s
  | .hornButtonChange t stood pressed => Sys2Proof.Machine.execHornButtonChange t stood pressed s
  | .bellPedalChange t stood pressed => Sys2Proof.Machine.execBellPedalChange t stood pressed s
  | .soundStart t tag channel pattern priority mode => Sys2Proof.Machine.execSoundStart t tag channel pattern priority mode s
  | .soundStop t tag channel => Sys2Proof.Machine.execSoundStop t tag channel s
  | .patternLoad t tag load => Sys2Proof.Machine.execPatternLoad t tag load s
  | .patternRead t tag number first => Sys2Proof.Machine.execPatternRead t tag number first s
  | .stepEnd t channel => Sys2Proof.Machine.execStepEnd t channel s
  | .tonePeriodEnd t channel => Sys2Proof.Machine.execTonePeriodEnd t channel s
  | .linkFrame bytes => Sys2Proof.Machine.execLinkFrame bytes s
  | .gapAbort t => Sys2Proof.Machine.execGapAbort t s
  | .takeCommand t => Sys2Proof.Machine.execTakeCommand t s
  | .frameSent t => Sys2Proof.Machine.execFrameSent t s
  | .statusTimerExpiry t => Sys2Proof.Machine.execStatusTimerExpiry t s
  | .identify t tag => Sys2Proof.Machine.execIdentify t tag s
  | .statusRead t tag section_ => Sys2Proof.Machine.execStatusRead t tag section_ s
  | .reportRate t tag rate => Sys2Proof.Machine.execReportRate t tag rate s
  | .faultsRead t tag start => Sys2Proof.Machine.execFaultsRead t tag start s
  | .restart t tag => Sys2Proof.Machine.execRestart t tag s
  | .configure t tag params => Sys2Proof.Machine.execConfigure t tag params s
  | .readConfig t tag => Sys2Proof.Machine.execReadConfig t tag s
  | .handleFallingEdge t => Sys2Proof.Machine.execHandleFallingEdge t s
  | .selectorButtonRelease t stood selection => Sys2Proof.Machine.execSelectorButtonRelease t stood selection s
  | .cabDoorButtonInactive t stood button => Sys2Proof.Machine.execCabDoorButtonInactive t stood button s

end Sys2Proof.Machine
end

