-- ==== Sys2Proof/Safety.lean ====
section
/-! DEFINITION. What counts as a sound state of the part, block by block: the properties that the manual says every
state of the running part has. Each is meant to hold right after power-on and to be kept by every step. -/

namespace Sys2Proof.Machine

/-! ## The cab link -/

/-- R173, R175: the link takes a command at once and has room for its reply: no frame waits, and no reply waits to
begin. -/
def LinkReady (s : State) : Prop := s.clp.inbound = [] ∧ s.clp.replyWaits = false

/-- The state at the moment `t`, changed by nothing but a reply at the tail of the outbound queue. -/
def State.answered (t : Nat) (kind tag : Byte) (v : Verdict) (s : State) : State :=
  { s.atTime t with clp := { s.clp with outbound := s.clp.outbound ++ [replyFrame kind tag v] } }

/-- The reply to a command stands at the tail of the outbound queue. -/
def Replied (kind tag : Byte) (v : Verdict) (s : State) : Prop :=
  s.clp.outbound.getLast? = some (replyFrame kind tag v)

/-- The fault set can record a latch of the pair (R179). -/
def HasRoom (code : FaultCode) (index : Nat) (s : State) : Prop :=
  s.clp.faults.length < 32 ∨ ∃ e ∈ s.clp.faults, e.code = code ∧ e.index = index

/-- The fault set holds the pair, with its active flag set. -/
def Latched (code : FaultCode) (index : Nat) (s : State) : Prop :=
  ∃ e ∈ s.clp.faults, e.code = code ∧ e.index = index ∧ e.active = true

/-- The pair of a fault-set entry (R179). -/
def FaultEntry.pair (e : FaultEntry) : FaultCode × Nat := (e.code, e.index)

/-- R173, R175, R179, R180: the capacities of the link queues, of the fault set and of the read snapshot, and at most one
entry per pair of code and index. -/
structure LinkBounded (s : State) : Prop where
  inbound  : s.clp.inbound.length ≤ 4
  replies  : replyCount s.clp.outbound ≤ 8
  reports  : reportCount s.clp.outbound ≤ 12
  faults   : s.clp.faults.length ≤ 32
  pairs    : (s.clp.faults.map FaultEntry.pair).Nodup
  counts   : ∀ e ∈ s.clp.faults, 1 ≤ e.count ∧ e.count ≤ 255
  snapshot : ∀ sn, s.clp.snapshot = some sn → sn.entries.length ≤ 32

/-! ## Timers that run by conditions -/

/-- R8, R50: after an event the plausibility timers and the vigilance timer run exactly while their conditions stand, a
timer that ran before runs on, and the vigilance warning lasts no longer than its timer. -/
def TimersFollow (s s' : State) : Prop :=
  (∀ ax, (s'.amu.channel ax).plausTimer =
    if plausible s'.drc.u (s'.amu.channel ax) (s'.amu.channel (otherAxle ax)) then
      some ((s.amu.channel ax).plausTimer.getD s'.now)
    else none) ∧
  s'.drc.vigilance = (if vigilanceRuns s' then some (s.drc.vigilance.getD s'.now) else none) ∧
  s'.drc.warnVigilance = (s.drc.warnVigilance && vigilanceRuns s')

/-- What an event of one axle leaves alone: everything but the AMU, the vigilance timer with its warning and the cab link;
of the AMU, the direction memory and the other axle but for its plausibility timer; and the Tone Unit, unless the
vigilance warning ends. -/
structure AxleFrame (t : Nat) (ax : Axle) (s s' : State) : Prop where
  blocks : s' = { s with now := max s.now t, amu := s'.amu, drc := s'.drc, tnu := s'.tnu, clp := s'.clp }
  drive  : s'.drc = { s.drc with vigilance := s'.drc.vigilance, warnVigilance := s'.drc.warnVigilance }
  memory : s'.amu.direction = s.amu.direction
  other  : s'.amu.channel (otherAxle ax) =
    { s.amu.channel (otherAxle ax) with plausTimer := (s'.amu.channel (otherAxle ax)).plausTimer }
  tones  : s'.drc.warnVigilance = s.drc.warnVigilance → s'.tnu = s.tnu
  timers : TimersFollow s s'

/-- What a control interval leaves alone: every block but the AMU's plausibility timers, the drive, the Tone Unit and the
cab link; of the drive, the handle signal, the cab contacts and the running demand-line period. -/
structure IntervalFrame (t : Nat) (s s' : State) : Prop where
  blocks : s' = { s with now := max s.now t, amu := s'.amu, drc := s'.drc, tnu := s'.tnu, clp := s'.clp }
  axles  : s'.amu = { s.amu with a := { s.amu.a with plausTimer := s'.amu.a.plausTimer }
                                 b := { s.amu.b with plausTimer := s'.amu.b.plausTimer } }
  drive  : s'.drc = { s'.drc with
    cycleStart := s.drc.cycleStart, cycleWidth := s.drc.cycleWidth, lastCycle := s.drc.lastCycle
    reverser := s.drc.reverser, deadman := s.drc.deadman, detent := s.drc.detent, duty := s.drc.duty
    periodDue := s.drc.periodDue, intervalDue := s.drc.intervalDue + 20000 }
  timers : TimersFollow s s'

/-- What a trip hands on to the Tone Unit (R38): the warnings that the drive holds end, VIGILANCE first (the choice of
assumption 11), and then the alarm is requested. -/
def State.alarmed (t : Nat) (s : State) : State :=
  (((s.atTime t).endVigilanceWarning).endDriveWarning).requestAlarm

/-- What a trip leaves alone, and the Tone Unit after it (R38). -/
structure TripFrame (t : Nat) (s s' : State) : Prop where
  blocks : s' = { s with now := max s.now t, amu := s'.amu, drc := s'.drc, tnu := s'.tnu, clp := s'.clp }
  axles  : s'.amu = { s.amu with a := { s.amu.a with plausTimer := s'.amu.a.plausTimer }
                                 b := { s.amu.b with plausTimer := s'.amu.b.plausTimer } }
  timers : TimersFollow s s'
  tones  : s'.tnu = (s.alarmed t).tnu

/-- The drive after a trip from READY (R38). -/
def Drc.trippedBy (cause : TripReason) (d : Drc) : Drc :=
  { d with driveState := .tripped, tripReason := some cause, loop := false, u := -100, buffer := -100, resetCount := 0
           vigilance := none, band := .normal, warnVigilance := false, warnDrive := false }

/-- R8, R50, R57, R58, R130, R131: the timers and warnings that a state's conditions run are there exactly while the
conditions stand, and the band is NORMAL out of READY. -/
structure TimersSound (s : State) : Prop where
  plausibility : ∀ ax, (s.amu.channel ax).plausTimer.isSome =
    plausible s.drc.u (s.amu.channel ax) (s.amu.channel (otherAxle ax))
  vigilance    : s.drc.vigilance.isSome = vigilanceRuns s
  warning      : s.drc.warnVigilance = true → s.drc.vigilance.isSome = true
  band         : s.drc.warnDrive = true ↔ s.drc.band ≠ .normal
  calm         : s.drc.driveState ≠ .ready → s.drc.band = .normal
  hold         : ∀ i : Fin 16, s.sdu.buttons[i].hold.isSome = holdRuns s.params i s.sdu.buttons[i]
  recovery     : ∀ i : Fin 16, s.sdu.buttons[i].recovery.isSome = (s.sdu.buttons[i].stuck && !s.sdu.buttons[i].level)

/-! ## The drive -/

/-- R42, with what keeps it: the emergency loop is energised in READY alone; with an ACTIVE entry of kind INHIBIT or
HOLD, or out of READY, u is not above 0; u is 0 in UNCONFIGURED and −100 in TRIPPED (R37); a brake cap is not above 0
(R53); UNCONFIGURED lasts until the first accepted CONFIGURE (R183). -/
structure DriveSafe (s : State) : Prop where
  loop         : s.drc.loop = true ↔ s.drc.driveState = .ready
  configured   : s.configured = true ↔ s.drc.driveState ≠ .unconfigured
  noTraction   : s.drc.table.entries.any Entry.inhibits = true ∨ s.drc.driveState ≠ .ready → s.drc.u ≤ 0
  unconfigured : s.drc.driveState = .unconfigured → s.drc.u = 0
  tripped      : s.drc.driveState = .tripped → s.drc.u = -100
  brakeCap     : ∀ c, s.drc.bcap = some c → c ≤ 0

/-- R62, with what keeps it: u lies within −100..+100 and stands in the buffer, and the duty of a driven period lies in
100..900 permille. -/
structure DemandBounded (s : State) : Prop where
  demand  : -100 ≤ s.drc.u ∧ s.drc.u ≤ 100
  buffer  : s.drc.buffer = s.drc.u
  duty    : s.drc.duty = 0 ∨ (100 ≤ s.drc.duty ∧ s.drc.duty ≤ 900)
  handle  : -100 ≤ s.drc.h ∧ s.drc.h ≤ 100
  tcap    : ∀ c, s.drc.tcap = some c → 0 ≤ c ∧ c ≤ 99
  bcap    : ∀ c, s.drc.bcap = some c → -99 ≤ c ∧ c ≤ 0
  service : -100 ≤ s.params.serviceBrake.toInt

/-- R31, R34: V_ceil is the effective ceiling of the table as it stands, and V_sup is never below it; an entry of kind
INHIBIT or HOLD has the ceiling 0 (R20). -/
structure CeilingSound (s : State) : Prop where
  ceiling    : s.drc.vCeil = effectiveCeiling s.params.vehicleMax.toNat s.drc.table.entries
  supervised : s.drc.vCeil ≤ s.drc.vSup
  stored     : ∀ e ∈ s.drc.table.entries, e.kind ≠ .ceiling → e.ceiling = 0

/-! ## Doors and stops -/

/-- R143: the DOORS entry that a door state stands for. -/
def doorsEntry (p : Params) : DoorState → Option Entry
  | .none => Option.none
  | .released _ => some (internalEntry .hold 0 reasonDoorHold)
  | .closing _ => some (internalEntry .hold 0 reasonDoorHold)
  | .unsafe_ => some (internalEntry .hold 0 reasonDoorHold)
  | .bypassed => some (internalEntry .ceiling p.bypassCeil.toNat reasonBypass)

/-- R143: the restriction table holds the DOORS entry of the door state, and no other. -/
def DoorsHeld (s : State) : Prop := s.drc.table.doors = doorsEntry s.params s.sdu.door

/-- R134, R138: at most one entry per door, none for a door of the side of a session, every entry with a kind and a
count of 1..255, and the lamps as the list stands. -/
structure StopsSound (s : State) : Prop where
  doors    : (s.sdu.stops.map (·.door)).Nodup
  sides    : ∀ e ∈ s.sdu.stops, s.sdu.door.session ≠ some (doorSide s.params e.door)
  kinds    : ∀ e ∈ s.sdu.stops, e.alight = true ∨ e.board = true ∨ e.access = true
  counts   : ∀ e ∈ s.sdu.stops, 1 ≤ e.count ∧ e.count ≤ 255
  stopLamp : s.sdu.stopLamp = !s.sdu.stops.isEmpty
  rampLamp : s.sdu.rampLamp = s.sdu.stops.any fun e => e.access

/-! ## Route -/

/-- R75, R79, R69, R80, R123: the head alone is beyond WAITING; the context and the ROUTE entry stand exactly while it
is; a page list stands unless the head is in UNKNOWN; the resume state stands in CONTACT_LOST alone; the record of a head
with pages is LOADED; the capacities of the plan and of the table. -/
structure PlanSound (s : State) : Prop where
  tail     : ∀ e ∈ s.rtm.plan.tail, e.state = .waiting
  fits     : s.rtm.plan.length ≤ 16
  context  : s.rtm.context.isSome = true ↔ s.rtm.headState ≠ .waiting
  entry    : s.drc.table.route.isSome = true ↔ s.rtm.headState ≠ .waiting
  zone     : s.rtm.zone = true → s.rtm.headState ≠ .waiting
  settled  : s.rtm.headState ≠ .contact
  pages    : ∀ c, s.rtm.context = some c → (c.paging = none ↔ s.rtm.headState = .unknown)
  resume   : ∀ c, s.rtm.context = some c →
    (s.rtm.headState = .contactLost → ∃ st, c.resume = some st ∧ st.losesContact = true) ∧
    (s.rtm.headState ≠ .contactLost → c.resume = none)
  record   : s.rtm.headState ≠ .waiting → s.rtm.headState ≠ .unknown →
    ∀ e ∈ s.rtm.plan.head?, (s.rtm.record e.id).isSome = true
  ids      : (s.rtm.junctions.map (·.id)).Nodup
  slots    : s.rtm.junctions.length ≤ 64

/-- R122: the braking curve by the whole square root, for a distance in mm and the curve deceleration a. -/
def brakingCurve (a : Nat) (e : Int) : Nat :=
  if e ≤ 0 then 0 else Nat.sqrt (2 * a * ((min e 78000).toNat / 10))

/-- R121: the speed on the curve for a head whose tram has run d mm from the loop mark. -/
def curveSpeed (p : Params) (j : JunctionRecord) (d : Int) : Nat :=
  min j.approachCeil (brakingCurve p.curveDecel.toNat (j.loopToPoint - d - j.stopMargin))

/-- R121: the drive takes the ROUTE post of a head that is neither LOCKED nor UNKNOWN. -/
def State.postCurve (j : JunctionRecord) (d : Int) (s : State) : State :=
  if curveSpeed s.params j d = 0 then s.post .route .hold 0 0xE1
  else s.post .route .ceiling (curveSpeed s.params j d) 0xE1

/-- R121: the ROUTE posts of a LOCKED head and of an UNKNOWN one. -/
def State.postPassing (j : JunctionRecord) (s : State) : State := s.post .route .ceiling j.passingCeil 0xE2
def State.postUnknown (s : State) : State := s.post .route .ceiling s.params.unknownCeil.toNat 0xE3

/-- R114, R125: the junction warning, as the Tone Unit takes it. -/
def State.warned (t : Nat) (s : State) : State := (s.atTime t).sound .cab 5 6 .route (.count 2)

/-- What a beacon leaves alone. -/
structure BeaconFrame (t : Nat) (s s' : State) : Prop where
  blocks : s' = { s with now := max s.now t, drc := s'.drc, rtm := s'.rtm, lpt := s'.lpt, tnu := s'.tnu, clp := s'.clp }
  tables : s'.rtm.junctions = s.rtm.junctions ∧ s'.rtm.plan.tail = s.rtm.plan.tail ∧
    s'.rtm.pendingSel = s.rtm.pendingSel ∧ s'.rtm.zone = s.rtm.zone ∧ s'.rtm.intervalDue = s.rtm.intervalDue
  heard  : s'.lpt.contact.isSome = true ∧ s'.lpt.contactTimer = some (max s.now t)

/-- R124: the lamps as a state beyond WAITING drives them, but for UNKNOWN. -/
def Rtm.lampsAre (green amber red : Bool) (r : Rtm) : Prop :=
  r.green = green ∧ r.amber = amber ∧ r.red = red ∧ r.flashStart = none

/-- R126: what an event of the RTM hands on, in its order: fault latches, JUNCTION reports, the lift and the post of the
ROUTE entry (a lift before a post is assumption 17), and the junction warning. -/
def State.handedOn (t : Nat) (codes : List FaultCode) (reports : List JunctionReport) (lifts : Bool)
    (post : State → State) (warns : Bool) (s : State) : State :=
  let latched := codes.foldl (fun s code => s.latch code 0) s
  let reported := reports.foldl (fun s r => s.raise (.junction r)) latched
  let posted := post (if lifts then reported.lift .route else reported)
  if warns then posted.warned t else posted

/-- R121: the ROUTE post of a head in a state beyond WAITING whose tram has run d mm from the loop mark. -/
def State.postFor (h : PlanEntry) (st : ExState) (d : Int) (s : State) : State :=
  match st, s.rtm.record h.id with
  | .unknown, _ => s.postUnknown
  | _, none => s
  | .locked, some j => s.postPassing j
  | _, some j => s.postCurve j d

/-- R126: the STATE report of an event that takes a head with the context `c` to the state `after`; `controller` is the
controller state of a beacon. -/
def stateReport (h : PlanEntry) (c : Context) (after : ExState) (track : Pos) (controller : Option Nat) : JunctionReport :=
  .state h.id h.selection h.origin h.state after
    (c.paging.map fun pc => (pc.answer, pc.index, pc.sends, pc.counter)) c.bad (distance c.loopMark track) controller

/-- The context `c` in a moving state, with the page fields `pc` (R116: the resume state is absent). -/
def Context.holding (pc : PageContext) (c : Context) : Context := { c with paging := some pc, resume := none }

/-- R107, R114, R116, R121, R124, R126: a beacon takes the head `h` to the state `after` with the context `c`, latching
`codes`: the lamps follow, and a changed state sends one STATE report and posts the ROUTE entry. -/
structure BeaconMoves (t : Nat) (b : Beacon) (h : PlanEntry) (c : Context) (after : ExState) (codes : List FaultCode)
    (warns : Bool) (s s' : State) : Prop where
  head    : s'.rtm.plan.head? = some { h with state := after }
  context : s'.rtm.context = some c
  lamps   : s'.rtm.lampsAre (after = .locked) (after ∈ [.sending, .awaiting, .queued, .setting])
    (after ∈ [.refused, .wrongLeg, .timedOut, .contactLost])
  same    : after = h.state → s'.drc = s.drc ∧ s'.tnu = s.tnu ∧ s'.clp = s.clp
  outputs : ∀ x : State, after ≠ h.state →
    x = s.handedOn t codes [stateReport h c after s.amu.trackMm (some b.controller)] false
      (State.postFor h after (distance c.loopMark s.amu.trackMm)) warns →
    s'.drc = x.drc ∧ s'.tnu = x.tnu ∧ s'.clp = x.clp

/-! ## Tone channels -/

/-- The keys on a channel: of the playing context, the saved contexts and the waiting requests (R155). -/
def Channel.keys (c : Channel) : List (Source × Nat) :=
  c.playing.toList.map (fun p => (p.saved.req.source, p.saved.req.pattern)) ++
  c.stack.map (fun sv => (sv.req.source, sv.req.pattern)) ++ c.queue.map (fun r => (r.source, r.pattern))

/-- R155, R165, R166: the saved contexts of a channel, all below the playing priority and strictly falling from the top;
the waiting requests, none above the playing priority, by falling priority and rising arrival rank; each key once; the
arrival ranks; the capacities; an idle channel holds nothing. -/
structure ChannelSound (c : Channel) : Prop where
  stackFits : c.stack.length ≤ 3
  queueFits : c.queue.length ≤ 6
  stack     : c.stack.Pairwise fun a b => b.req.priority < a.req.priority
  queue     : c.queue.Pairwise fun a b => b.priority < a.priority ∨ b.priority = a.priority ∧ a.rank < b.rank
  keys      : c.keys.Nodup
  ranks     : (c.queue.map fun r => r.rank).Nodup ∧ (∀ r ∈ c.queue, r.rank < c.nextRank) ∧ c.nextRank ≤ 256
  idle      : c.playing = none → c.stack = [] ∧ c.queue = []
  saved     : ∀ p, c.playing = some p → ∀ sv ∈ c.stack, sv.req.priority < p.saved.req.priority
  waiting   : ∀ p, c.playing = some p → ∀ r ∈ c.queue, r.priority ≤ p.saved.req.priority

def TonesSound (s : State) : Prop := ∀ ch, ChannelSound (s.tnu.channel ch)

/-- R154: a tone output across a change of what plays on its channel, at the moment `now`: a period in progress goes on,
and a SILENT output starts a period at once where the step now in force has a tone period, and else stays SILENT. -/
structure OutputFollows (pattern : Nat → Option Pattern) (now : Nat) (c c' : Channel) : Prop where
  running : c.output ≠ .silent → c'.output = c.output
  starts  : c.output = .silent → ∀ p, c'.playing = some p → ∀ pat, pattern p.saved.req.pattern = some pat →
    ∀ step, pat.steps[p.saved.step]? = some step →
    c'.output = if step.period = 0 then .silent else .sounding step.period step.level now
  idle    : c.output = .silent → c'.playing = none → c'.output = .silent

/-- R159: the repeat target of a mode of a pattern, `none` being CONTINUOUS. -/
structure RepeatTarget (pat : Pattern) (mode : Mode) (target : Option Nat) : Prop where
  given  : ∀ n, mode = .count (n + 1) → target = some (n + 1)
  own    : mode = .count 0 → target = if pat.repeats = 0 then none else some pat.repeats
  ending : mode = .held ∨ mode = .untilStopped → target = none

/-- R169: the cab link after a request has left its channel: a SOUND report for a request of source LINK alone. -/
def Clp.soundLeft (ch : ChannelId) (cause : SoundCause) (r : Request) (repeats : Nat) (c : Clp) : Clp :=
  if r.source = .link then c.raise (.sound ch r.pattern r.priority r.mode repeats cause) else c

/-- R164, R169: the cab link when the oldest of a full stack is discarded: the latch, then the SOUND report. -/
def State.dropped (ch : ChannelId) (old : Saved) (s : State) : Clp :=
  (s.latch .soundDropped 0).clp.soundLeft ch .dropped old.req old.repeats

end Sys2Proof.Machine
end

