-- ==== Sys2Proof/Certificates/Slice0/Obligations.lean ====
section
/-! DEFINITION. The statements for the provers, chapter by chapter. -/

open Sys2Proof Sys2Proof.Machine

/-! ## The machine -/

/-- The front command of the queue leaves it and is executed on the state with the rest; on an empty queue the part
idles (the model's own queue, the choice of assumption 21). -/
def Obligations.StepTakesFront : Prop :=
  (∀ (c : Instr) (rest : List Instr) (s : State), s.pending = c :: rest → step s = exec c { s with pending := rest }) ∧
  (∀ s : State, s.pending = [] → step s = .next s)

/-- Every command is taken in every state: it answers a next state, leaves the queue of waiting commands alone and
does not turn time back. That much is the model's own choice: its time base (assumption 1), its queue (assumption 21), a
meaning in every state (assumption 22), and what POWER_ON keeps (assumption 25). And no command but POWER_ON lowers an
odometer within its accumulator's range, nor takes it out of that range (R14), or takes the configured flag back (R183).
-/
def Obligations.CommandsNeverStop : Prop :=
  ∀ (c : Instr) (s : State), ∃ s', exec c s = .next s' ∧ s'.pending = s.pending ∧ s.now ≤ s'.now ∧
    (s.amu.odometer ≤ 64 * (2 ^ 40 - 1) → s'.amu.odometer ≤ 64 * (2 ^ 40 - 1)) ∧
    ((∀ t i, c ≠ .powerOn t i) → s'.poweredAt = s.poweredAt ∧ (s.configured = true → s'.configured = true) ∧
      (s.amu.odometer ≤ 64 * (2 ^ 40 - 1) → s.amu.odometer ≤ s'.amu.odometer))

/-- The state right after reset has every property that the statements below say each step keeps; with inputs at rest
(the choice of assumption 6) it is what POWER_ON leaves at the moment 0. -/
def Obligations.ResetIsSound : Prop :=
  (DriveSafe State.reset ∧ DemandBounded State.reset ∧ CeilingSound State.reset ∧ DoorsHeld State.reset ∧
    StopsSound State.reset ∧ PlanSound State.reset ∧ TonesSound State.reset ∧ LinkBounded State.reset ∧
    TimersSound State.reset) ∧
  ∀ s : State, s.now = 0 → s.pending = [] →
    exec (.powerOn 0 { openA := false, openB := false, forward := false, reverse := false, deadman := false, detent := false
                       bypassOn := false, locked := Vector.replicate 8 true, buttons := Vector.replicate 16 false }) s =
      .next State.reset

/-- R37, R42, R62: every step keeps the drive safe and its demand in bounds: the loop is energised in READY alone, u
is not above 0 out of READY or with an ACTIVE entry of kind INHIBIT or HOLD, it is 0 in UNCONFIGURED and −100 in
TRIPPED, within −100..+100, and stands in the buffer, and the duty of a driven period lies in 100..900 permille. -/
def Obligations.DriveKept : Prop :=
  ∀ s s' : State, DriveSafe s → DemandBounded s → step s = .next s' → DriveSafe s' ∧ DemandBounded s'

/-- R31, R34: every step keeps V_ceil the effective ceiling of the restriction table as it stands, and V_sup not below
it. -/
def Obligations.CeilingKept : Prop :=
  ∀ s s' : State, CeilingSound s → step s = .next s' → CeilingSound s'

/-- R134, R138, R143: every step keeps the DOORS entry that of the door state, at most one stop-list entry per door
and none for the side of a session, and the lamps as the list stands. -/
def Obligations.DoorsAndStopsKept : Prop :=
  (∀ s s' : State, DoorsHeld s → step s = .next s' → DoorsHeld s') ∧
  (∀ s s' : State, StopsSound s → step s = .next s' → StopsSound s')

/-- R69, R75, R79, R80, R123: every step keeps the head alone beyond WAITING, with its context, its page list, its
record and its ROUTE entry, and the capacities of the plan and of the junction table. -/
def Obligations.PlanKept : Prop :=
  ∀ s s' : State, PlanSound s → step s = .next s' → PlanSound s'

/-- R155, R165, R166: every step keeps each tone channel sound: the capacities, the order of its stack and its queue
by priority and arrival rank, both below or at the playing priority, each key once, and nothing held on an idle
channel. -/
def Obligations.TonesKept : Prop :=
  ∀ s s' : State, TonesSound s → step s = .next s' → TonesSound s'

/-- R173, R175, R179, R180: every step keeps at most four frames in the inbound queue, eight replies and twelve
reports in the outbound queue, 32 fault-set entries with one per pair of code and index, and a snapshot of 32 at most.
-/
def Obligations.LinkKept : Prop :=
  ∀ s s' : State, LinkBounded s → step s = .next s' → LinkBounded s'

/-- R8, R50, R57, R58, R130, R131: every step keeps the plausibility, vigilance, hold and recovery timers running
exactly while their conditions stand, the DRIVE warning held exactly while the band is not NORMAL, and the vigilance
warning held no longer than its timer runs, in a state whose drive is safe (DriveSafe, which DriveKept keeps). -/
def Obligations.TimersKept : Prop :=
  ∀ s s' : State, TimersSound s → DriveSafe s → step s = .next s' → TimersSound s'

/-! ## Axle measurement (Chapter 1) -/

/-- R1, R2, R3: a taken edge becomes the last taken edge and restarts the no-edge timer. With no window open it opens
one; otherwise it counts an interval, and at 16 intervals or 250 000 µs it closes the window and opens the next. While
no window closes, the speed, the class, the fault causes and the recovery run stay. R1: an edge that comes less than
50 µs after the last taken edge, or while the sensor health is OPEN, changes nothing. -/
def Obligations.EdgeTaken : Prop :=
  (∀ (t now : Nat) (ax : Axle) (s : State) (c : AxleChannel),
    s.amu.channel ax = c → max s.now t = now → c.healthOpen = false →
    (∀ e, c.lastEdge = some e → e + 50 ≤ now) →
    ∃ s', exec (.tachoEdge t ax) s = .next s' ∧ AxleFrame t ax s s' ∧
      (s'.amu.channel ax).lastEdge = some now ∧ (s'.amu.channel ax).noEdge = some now ∧ (s'.amu.channel ax).healthOpen = false ∧ (s'.amu.channel ax).sensorCause = c.sensorCause ∧
      (c.window = none → (s'.amu.channel ax).window = some { opened := now, count := 0 }) ∧
      (∀ w, c.window = some w → (s'.amu.channel ax).window =
        if 16 ≤ w.count + 1 ∨ 250000 ≤ now - w.opened then some { opened := now, count := 0 }
        else some { opened := w.opened, count := w.count + 1 }) ∧
      ((∀ w, c.window = some w → w.count + 1 < 16 ∧ now - w.opened < 250000) →
        (s'.amu.channel ax).speed = c.speed ∧ (s'.amu.channel ax).cls = c.cls ∧ (s'.amu.channel ax).plausCause = c.plausCause ∧ (s'.amu.channel ax).recovery = c.recovery)) ∧
  (∀ (t : Nat) (ax : Axle) (s : State),
    ((s.amu.channel ax).healthOpen = true ∨
      ∃ e, (s.amu.channel ax).lastEdge = some e ∧ max s.now t < e + 50) →
    exec (.tachoEdge t ax) s = .next { s with now := max s.now t })

/-- R4: the window that an edge closes gives the speed v = p × C × 3125 / (2 × T), saturated to 3000; an axle that is
GOOD or ZERO takes it and becomes GOOD; an axle that is FAULT by PLAUSIBILITY takes it as well. R9, R10: a recovery
window agrees when the other axle is GOOD and the two speeds differ by no more than the threshold max(slip_min, w ×
slip_permille / 1000). The fourth agreeing window in a row ends the plausibility fault, the axle becomes GOOD and the
fault set is told; an earlier one raises the run; one that does not agree sets it to 0. The threshold takes the
parameters in force as the window closes, those of a CONFIGURE at once (the choice of assumption 46). -/
def Obligations.WindowSpeed : Prop :=
  (∀ (t now v : Nat) (ax : Axle) (s : State) (c : AxleChannel) (w : Window),
    s.amu.channel ax = c → max s.now t = now → c.healthOpen = false →
    (∀ e, c.lastEdge = some e → e + 50 ≤ now) → c.window = some w → w.opened < now →
    (16 ≤ w.count + 1 ∨ 250000 ≤ now - w.opened) →
    v = min 3000 ((w.count + 1) * circumference s.params ax * 3125 / (2 * (now - w.opened))) →
    ∃ s', exec (.tachoEdge t ax) s = .next s' ∧
      (c.cls ≠ .fault → (s'.amu.channel ax).speed = v ∧ (s'.amu.channel ax).cls = .good) ∧
      (c.cls = .fault → c.plausCause = true → (s'.amu.channel ax).speed = v)) ∧
  (∀ (t now v w : Nat) (ax : Axle) (s : State) (c : AxleChannel) (win : Window),
    s.amu.channel ax = c → max s.now t = now → c.healthOpen = false →
    (∀ e, c.lastEdge = some e → e + 50 ≤ now) → c.window = some win → win.opened < now →
    (16 ≤ win.count + 1 ∨ 250000 ≤ now - win.opened) →
    c.cls = .fault → c.plausCause = true →
    v = min 3000 ((win.count + 1) * circumference s.params ax * 3125 / (2 * (now - win.opened))) →
    w = (s.amu.channel (otherAxle ax)).speed →
    ∃ s', exec (.tachoEdge t ax) s = .next s' ∧ (s'.amu.channel ax).speed = v ∧
      if (s.amu.channel (otherAxle ax)).cls = .good ∧
          max v w - min v w ≤ max s.params.slipMin.toNat (w * s.params.slipPermille.toNat / 1000) then
        if 4 ≤ c.recovery + 1 then
          (s'.amu.channel ax).plausCause = false ∧ (s'.amu.channel ax).cls = .good ∧ (s'.amu.channel ax).recovery = 0 ∧ (s'.amu.channel ax).plausTimer = none ∧
            ∀ e ∈ s'.clp.faults, e.code = .axleFault → e.index = axleIndex ax → e.active = false
        else (s'.amu.channel ax).plausCause = true ∧ (s'.amu.channel ax).cls = .fault ∧ (s'.amu.channel ax).recovery = c.recovery + 1
      else (s'.amu.channel ax).plausCause = true ∧ (s'.amu.channel ax).cls = .fault ∧ (s'.amu.channel ax).recovery = 0)

/-- R12 to R15: a taken edge of the odometer axle adds the circumference to the odometer accumulator, which saturates
at 64 × (2⁴⁰ − 1), and adds it to or takes it from the track-position accumulator, a 38-bit signed value that wraps,
by the reverser's direction or, at NEUTRAL, by the direction memory. An edge of the other axle leaves both as they
are. -/
def Obligations.EdgeDistance : Prop :=
  ∀ (t : Nat) (ax : Axle) (s : State),
    (s.amu.channel ax).healthOpen = false →
    (∀ e, (s.amu.channel ax).lastEdge = some e → e + 50 ≤ max s.now t) →
    ∃ s', exec (.tachoEdge t ax) s = .next s' ∧
      if (ax = .B ∧ s.amu.b.cls ≠ .fault) ∨ (ax = .A ∧ s.amu.b.cls = .fault ∧ s.amu.a.cls ≠ .fault) then
        s'.amu.odometer = min (64 * (2 ^ 40 - 1)) (s.amu.odometer + circumference s.params ax) ∧
        ((s.drc.reverser = .forward ∨ s.drc.reverser = .neutral ∧ s.amu.direction = .forward) →
          s'.amu.track.toInt = (s.amu.track.toInt + circumference s.params ax).bmod (2 ^ 38)) ∧
        ((s.drc.reverser = .reverse ∨ s.drc.reverser = .neutral ∧ s.amu.direction = .reverse) →
          s'.amu.track.toInt = (s.amu.track.toInt - circumference s.params ax).bmod (2 ^ 38))
      else s'.amu.odometer = s.amu.odometer ∧ s'.amu.track = s.amu.track

/-- R5: 1000 ms after the last taken edge the no-edge timer expires: the open window is discarded, the speed is 0, the
timer stops, GOOD becomes ZERO, and the recovery run of an axle that is FAULT by PLAUSIBILITY returns to 0. Nothing
else of the axle changes; before the limit, or with the timer stopped, the expiry has no effect. R6, R7, R10: when the
sensor-health input turns to OPEN the axle is FAULT by SENSOR, its window is discarded, its speed, its recovery run
and its timers are cleared, and an axle that entered FAULT latches AXLE_FAULT. When the input returns to OK the cause
leaves; the axle is ZERO at speed 0 and has left FAULT unless PLAUSIBILITY remains, when its recovery run is 0. R8,
R10: when the plausibility timer has run for 3000 ms the axle is FAULT by PLAUSIBILITY with its recovery run at 0, its
window stays as it is, and AXLE_FAULT is latched; before the limit the expiry has no effect. -/
def Obligations.AxleEvents : Prop :=
  (∀ (t : Nat) (ax : Axle) (s : State) (c : AxleChannel), s.amu.channel ax = c →
    ((∃ st, c.noEdge = some st ∧ st + 1000000 ≤ max s.now t) →
      ∃ s', exec (.noEdgeExpiry t ax) s = .next s' ∧ AxleFrame t ax s s' ∧
        s'.amu = { s.amu with a := s'.amu.a, b := s'.amu.b } ∧
        s'.amu.channel ax = { c with window := none, speed := 0, noEdge := none
                                     cls := if c.cls = .good then .zero else c.cls
                                     recovery := if c.cls = .fault ∧ c.plausCause then 0 else c.recovery
                                     plausTimer := (s'.amu.channel ax).plausTimer } ∧
        s'.clp.faults = s.clp.faults) ∧
    ((∀ st, c.noEdge = some st → max s.now t < st + 1000000) →
      exec (.noEdgeExpiry t ax) s = .next { s with now := max s.now t })) ∧
  (∀ (t : Nat) (ax : Axle) (s : State) (c : AxleChannel), s.amu.channel ax = c →
    (c.healthOpen = false →
      ∃ s', exec (.sensorHealthOpen t ax) s = .next s' ∧ AxleFrame t ax s s' ∧
        s'.amu = { s.amu with a := s'.amu.a, b := s'.amu.b } ∧
        s'.amu.channel ax = { c with healthOpen := true, sensorCause := true, cls := .fault, window := none
                                     speed := 0, noEdge := none, recovery := 0, plausTimer := none } ∧
        (c.cls ≠ .fault → HasRoom .axleFault (axleIndex ax) s → Latched .axleFault (axleIndex ax) s') ∧
        (c.cls ≠ .fault → ¬ HasRoom .axleFault (axleIndex ax) s → s'.clp.overflow = true) ∧
        (c.cls = .fault → s'.clp.faults = s.clp.faults)) ∧
    (c.healthOpen = true →
      ∃ s', exec (.sensorHealthOk t ax) s = .next s' ∧ AxleFrame t ax s s' ∧
        s'.amu = { s.amu with a := s'.amu.a, b := s'.amu.b } ∧
        s'.amu.channel ax = { c with healthOpen := false, sensorCause := false, window := none
                                     cls := if c.plausCause then c.cls else .zero
                                     speed := if c.plausCause then c.speed else 0
                                     recovery := if c.plausCause then 0 else c.recovery
                                     plausTimer := (s'.amu.channel ax).plausTimer } ∧
        (c.cls = .fault → c.plausCause = false →
          ∀ e ∈ s'.clp.faults, e.code = .axleFault → e.index = axleIndex ax → e.active = false))) ∧
  (∀ (t : Nat) (ax : Axle) (s : State) (c : AxleChannel), s.amu.channel ax = c →
    ((∃ st, c.plausTimer = some st ∧ st + 3000000 ≤ max s.now t) →
      ∃ s', exec (.plausibilityExpiry t ax) s = .next s' ∧ AxleFrame t ax s s' ∧
        s'.amu = { s.amu with a := s'.amu.a, b := s'.amu.b } ∧
        s'.amu.channel ax = { c with plausCause := true, cls := .fault, recovery := 0, plausTimer := none } ∧
        (c.cls ≠ .fault → HasRoom .axleFault (axleIndex ax) s → Latched .axleFault (axleIndex ax) s')) ∧
    ((∀ st, c.plausTimer = some st → max s.now t < st + 3000000) →
      exec (.plausibilityExpiry t ax) s = .next { s with now := max s.now t }))

/-- R11: the standstill state is a function of the two classes. -/
def Obligations.StandstillState : Prop :=
  ∀ a : Amu,
    (a.standstill = .standstill ↔ (∃ ax, (a.channel ax).cls ≠ .fault) ∧
      ∀ ax, (a.channel ax).cls ≠ .fault → (a.channel ax).cls = .zero) ∧
    (a.standstill = .moving ↔ ∃ ax, (a.channel ax).cls = .good) ∧
    (a.standstill = .unknown ↔ ∀ ax, (a.channel ax).cls = .fault) ∧
    (a.atStandstill = true ↔ a.standstill = .standstill)

/-! ## Speed ceilings (Chapter 2) -/

/-- R31: over the ACTIVE entries alone, the effective ceiling is 0 with a HOLD, and otherwise the smallest of the
vehicle maximum and the ceilings of kind CEILING; the order of the entries does not matter. -/
def Obligations.EffectiveCeiling : Prop :=
  ∀ (vmax : Nat) (es : List Entry),
    ((∃ e ∈ es, e.phase = .active ∧ e.kind = .hold) → effectiveCeiling vmax es = 0) ∧
    ((∀ e ∈ es, e.phase = .active → e.kind ≠ .hold) →
      effectiveCeiling vmax es ≤ vmax ∧
      (∀ e ∈ es, e.phase = .active → e.kind = .ceiling → effectiveCeiling vmax es ≤ e.ceiling) ∧
      (effectiveCeiling vmax es = vmax ∨
        ∃ e ∈ es, e.phase = .active ∧ e.kind = .ceiling ∧ effectiveCeiling vmax es = e.ceiling)) ∧
    effectiveCeiling vmax es.reverse = effectiveCeiling vmax es

/-- R21, R29, R30: an internal post of the kind, ceiling and reason that already stand changes nothing. Any other
writes the owner's slot alone, ACTIVE and without positions, recomputes V_ceil, raises V_sup to it, sets a u above 0
to 0 where the kind forbids traction, and sends a POSTED report unless only the ceiling of the entry changed. R22: an
internal lift of an empty slot changes nothing; one of an occupied slot empties it, recomputes V_ceil, raises V_sup to
it and sends a LIFTED report with the entry as it stood; nothing else changes. -/
def Obligations.InternalPosts : Prop :=
  (∀ (slot : Slot) (kind : Kind) (ceiling : Nat) (reason : Byte) (s : State) (e : Entry) (same : Bool),
    e = { kind := kind, ceiling := if kind = .ceiling then ceiling else 0, reason := reason, start := none, stop := none
          phase := .active } →
    ((∃ old, s.drc.table.get slot = some old ∧ old.kind = kind ∧ old.ceiling = e.ceiling ∧ old.reason = reason) →
      s.post slot kind ceiling reason = s) ∧
    ((∀ old, s.drc.table.get slot = some old → ¬(old.kind = kind ∧ old.ceiling = e.ceiling ∧ old.reason = reason)) →
      (same = true ↔ ∃ old, s.drc.table.get slot = some old ∧ old.kind = kind ∧ old.reason = reason) →
      (s.post slot kind ceiling reason).drc.table = s.drc.table.set slot (some e) ∧
      (s.post slot kind ceiling reason).drc.vCeil =
        effectiveCeiling s.params.vehicleMax.toNat (s.drc.table.set slot (some e)).entries ∧
      (s.post slot kind ceiling reason).drc.vSup = max s.drc.vSup (s.post slot kind ceiling reason).drc.vCeil ∧
      (s.post slot kind ceiling reason).drc.u = (if kind ≠ .ceiling ∧ 0 < s.drc.u then 0 else s.drc.u) ∧
      (s.post slot kind ceiling reason).drc.buffer = (if kind ≠ .ceiling ∧ 0 < s.drc.u then 0 else s.drc.buffer) ∧
      (s.post slot kind ceiling reason).clp =
        if same then s.clp
        else s.clp.raise (.restriction (.posted (s.drc.table.get slot).isSome) slot e
          (s.post slot kind ceiling reason).drc.vCeil (s.post slot kind ceiling reason).drc.vSup))) ∧
  (∀ (slot : Slot) (s : State) (vc : Nat),
    vc = effectiveCeiling s.params.vehicleMax.toNat (s.drc.table.set slot none).entries →
    (s.drc.table.get slot = none → s.lift slot = s) ∧
    (∀ e, s.drc.table.get slot = some e →
      s.lift slot = { s with
        drc := { s.drc with table := s.drc.table.set slot none, vCeil := vc, vSup := max s.drc.vSup vc }
        clp := s.clp.raise (.restriction .lifted slot e vc (max s.drc.vSup vc)) }))

/-- R23: RESTRICT_POST is refused OUT_OF_RANGE with the number of the first failing check, in the order link id, kind,
ceiling, positions; a refused post changes no state and sends no report. R24, R29: an accepted RESTRICT_POST writes
the entry into the slot of its link id, ARMED with its start ahead of the track position and ACTIVE otherwise,
recomputes V_ceil, raises V_sup to it, sets a u above 0 to 0 where the ACTIVE entry forbids traction, sends a POSTED
report marked as a replacement if the slot was occupied, and is answered OK with the phase and the two ceilings. R25:
RESTRICT_LIFT of an owner code that names none is refused OUT_OF_RANGE, of an internal owner NOT_OWNER, of a link id
outside 1..6 OUT_OF_RANGE, of an empty slot NOT_FOUND; of an occupied LINK slot it is accepted: the slot is emptied,
V_ceil is recomputed, V_sup is raised to it, a LIFTED report is sent, and the reply is OK with the two ceilings. The
reply stands behind the report (the choice of assumption 9). -/
def Obligations.RestrictCommands : Prop :=
  (∀ (t : Nat) (tag : Byte) (p : RestrictPost) (s : State), LinkReady s →
    (p.linkId.toNat < 1 ∨ 6 < p.linkId.toNat →
      exec (.restrictPost t tag p) s = .next (s.answered t 0x0A tag (.range 1))) ∧
    (1 ≤ p.linkId.toNat ∧ p.linkId.toNat ≤ 6 → p.kind.toNat < 1 ∨ 3 < p.kind.toNat →
      exec (.restrictPost t tag p) s = .next (s.answered t 0x0A tag (.range 2))) ∧
    (1 ≤ p.linkId.toNat ∧ p.linkId.toNat ≤ 6 → p.kind.toNat = 1 → 3000 < p.ceiling.toNat →
      exec (.restrictPost t tag p) s = .next (s.answered t 0x0A tag (.range 3))) ∧
    (1 ≤ p.linkId.toNat ∧ p.linkId.toNat ≤ 6 → 1 ≤ p.kind.toNat ∧ p.kind.toNat ≤ 3 →
      (p.kind.toNat = 1 → p.ceiling.toNat ≤ 3000) →
      (∃ a, p.start = some a ∧ ∃ b, p.stop = some b ∧ distance a b ≤ 0) →
      exec (.restrictPost t tag p) s = .next (s.answered t 0x0A tag (.range 4)))) ∧
  (∀ (t : Nat) (tag : Byte) (p : RestrictPost) (s : State) (id : Fin 6) (kind : Kind) (e : Entry) (vc : Nat) (clips : Bool),
    LinkReady s → p.linkId.toNat = id.val + 1 →
    (p.kind.toNat = 1 ∧ kind = .ceiling ∨ p.kind.toNat = 2 ∧ kind = .inhibit ∨ p.kind.toNat = 3 ∧ kind = .hold) →
    (kind = .ceiling → p.ceiling.toNat ≤ 3000) →
    (∀ a, p.start = some a → ∀ b, p.stop = some b → 0 < distance a b) →
    e.kind = kind → e.ceiling = (if kind = .ceiling then p.ceiling.toNat else 0) → e.reason = p.reason →
    e.start = p.start → e.stop = p.stop →
    (e.phase = .armed ↔ ∃ a, p.start = some a ∧ 0 < distance s.amu.trackMm a) →
    vc = effectiveCeiling s.params.vehicleMax.toNat (s.drc.table.set (.link id) (some e)).entries →
    (clips = true ↔ e.phase = .active ∧ kind ≠ .ceiling ∧ 0 < s.drc.u) →
    exec (.restrictPost t tag p) s = .next { s with
      now := max s.now t
      drc := { s.drc with table := s.drc.table.set (.link id) (some e), vCeil := vc, vSup := max s.drc.vSup vc
                          u := if clips then 0 else s.drc.u, buffer := if clips then 0 else s.drc.buffer }
      clp := { s.clp.raise (.restriction (.posted (s.drc.table.get (.link id)).isSome) (.link id) e vc
                 (max s.drc.vSup vc)) with
               outbound := (s.clp.raise (.restriction (.posted (s.drc.table.get (.link id)).isSome) (.link id) e vc
                 (max s.drc.vSup vc))).outbound ++
                 [replyFrame 0x0A tag (.ok (.posted e.phase vc (max s.drc.vSup vc)))] } }) ∧
  (∀ (t : Nat) (tag owner linkId : Byte) (s : State), LinkReady s →
    (3 < owner.toNat → ∃ n, exec (.restrictLift t tag owner linkId) s = .next (s.answered t 0x0B tag (.range n))) ∧
    (owner.toNat ≤ 2 →
      exec (.restrictLift t tag owner linkId) s = .next (s.answered t 0x0B tag (.plain .notOwner))) ∧
    (owner.toNat = 3 → linkId.toNat < 1 ∨ 6 < linkId.toNat →
      ∃ n, exec (.restrictLift t tag owner linkId) s = .next (s.answered t 0x0B tag (.range n))) ∧
    (∀ id : Fin 6, owner.toNat = 3 → linkId.toNat = id.val + 1 →
      (s.drc.table.get (.link id) = none →
        exec (.restrictLift t tag owner linkId) s = .next (s.answered t 0x0B tag (.plain .notFound))) ∧
      (∀ e, s.drc.table.get (.link id) = some e →
        ∀ vc, vc = effectiveCeiling s.params.vehicleMax.toNat (s.drc.table.set (.link id) none).entries →
        exec (.restrictLift t tag owner linkId) s = .next { s with
          now := max s.now t
          drc := { s.drc with table := s.drc.table.set (.link id) none, vCeil := vc, vSup := max s.drc.vSup vc }
          clp := { s.clp.raise (.restriction .lifted (.link id) e vc (max s.drc.vSup vc)) with
                   outbound := (s.clp.raise (.restriction .lifted (.link id) e vc (max s.drc.vSup vc))).outbound ++
                     [replyFrame 0x0B tag (.ok (.lifted vc (max s.drc.vSup vc)))] } })))

/-! ## Traction and braking (Chapter 3) -/

/-- R43: a rising edge completes the cycle in progress, whose high width is the period if no falling edge came, and
starts the next; the first falling edge of a cycle ends its high width; a later one, or one outside a cycle, is
ignored; at power-on there is no completed cycle. -/
def Obligations.HandleCapture : Prop :=
  ∀ (t now : Nat) (s : State), max s.now t = now →
    (∀ st, s.drc.cycleStart = some st →
      exec (.handleCycle t) s = .next { s with
        now := now
        drc := { s.drc with cycleStart := some now, cycleWidth := none
                            lastCycle := some { width := s.drc.cycleWidth.getD (now - st), period := now - st
                                                doneAt := now } } }) ∧
    (s.drc.cycleStart = none →
      exec (.handleCycle t) s = .next { s with
        now := now, drc := { s.drc with cycleStart := some now, cycleWidth := none } }) ∧
    (∀ st, s.drc.cycleStart = some st → s.drc.cycleWidth = none →
      exec (.handleFallingEdge t) s = .next { s with
        now := now, drc := { s.drc with cycleWidth := some (now - st) } }) ∧
    (s.drc.cycleStart = none ∨ s.drc.cycleWidth ≠ none →
      exec (.handleFallingEdge t) s = .next { s with now := now }) ∧
    (State.initial t).drc.lastCycle = none ∧ (State.initial t).drc.cycleStart = none

/-- R44, R45, R46, R59: a control interval that is due judges the handle from the latest completed cycle. In FAULT, h
is −100, the brake-held time is 0 and, where the interval before was not in FAULT, HANDLE_FAULT is latched. Otherwise
h follows from the duty, the brake-held time rises by 20 ms at h = −100 and is 0 elsewhere, and a handle that has left
FAULT is told to the fault set. With no completed cycle the handle is in FAULT at every interval (the choice of assumption
20). An interval that is not due yet does nothing. -/
def Obligations.IntervalHandle : Prop :=
  ∀ (t now d : Nat) (h : Int) (s : State) (failed : Bool), max s.now t = now →
    (failed = true ↔ ∀ c, s.drc.lastCycle = some c →
      c.doneAt + 10000 < now ∨ c.period < 800 ∨ 1200 < c.period ∨ c.width * 1000 / c.period < 50 ∨
        950 < c.width * 1000 / c.period) →
    (∀ c, s.drc.lastCycle = some c → d = c.width * 1000 / c.period) →
    h = (min 900 (max 100 (d : Int)) - 500).tdiv 4 →
    (now < s.drc.intervalDue → exec (.controlInterval t) s = .next { s with now := now }) ∧
    (s.drc.intervalDue ≤ now →
      ∃ s', exec (.controlInterval t) s = .next s' ∧ IntervalFrame t s s' ∧
        (failed = true → s'.drc.h = -100 ∧ s'.drc.handleFault = true ∧ s'.drc.brakeHeld = 0 ∧
          (s.drc.handleFault = false → HasRoom .handleFault 0 s → Latched .handleFault 0 s')) ∧
        (failed = false → s'.drc.h = (if -3 ≤ h ∧ h ≤ 3 then 0 else h) ∧ s'.drc.handleFault = false ∧
          s'.drc.brakeHeld = (if s'.drc.h = -100 then min 65535 (s.drc.brakeHeld + 20) else 0) ∧
          (s.drc.handleFault = true →
            ∀ e ∈ s'.clp.faults, e.code = .handleFault → e.index = 0 → e.active = false)))

/-- R52 to R56: stage 3 of a control interval. While the condition is NONE the caps relax by one, to be removed at
their ends, and the run-on counts down and turns the sand off at 0. A slip sets tcap, a slide bcap, 15 percent inside
the demand, and the sand on. With no detection a condition ends at the tenth interval in a row that finds the axles
within half the threshold, or at once when the class is not GOOD, and the run-on becomes 100. -/
def Obligations.IntervalAdhesion : Prop :=
  ∀ (t thr diff ref run : Nat) (cls : RefClass) (s : State) (tc bc : Option Int) (slip slide sand : Bool),
    s.drc.intervalDue ≤ max s.now t → reference s.drc.u s.amu.a s.amu.b = (cls, ref) →
    thr = max s.params.slipMin.toNat (ref * s.params.slipPermille.toNat / 1000) →
    diff = axleDifference s.amu.a s.amu.b →
    (slip = true ↔ cls = .good ∧ 0 < s.drc.u ∧ thr < diff) →
    (slide = true ↔ s.drc.driveState = .ready ∧ cls = .good ∧ s.drc.u < 0 ∧ thr < diff) →
    (s.drc.adhesion ≠ .none → tc = s.drc.tcap ∧ bc = s.drc.bcap ∧ run = s.drc.runOn ∧ sand = s.drc.sand) →
    (s.drc.adhesion = .none →
      tc = s.drc.tcap.bind (fun c => if 100 ≤ c + 1 then none else some (c + 1)) ∧
      bc = s.drc.bcap.bind (fun c => if c - 1 ≤ -100 then none else some (c - 1)) ∧
      run = s.drc.runOn - 1 ∧ sand = if s.drc.runOn = 0 then s.drc.sand else decide (1 < s.drc.runOn)) →
    ∃ s', exec (.controlInterval t) s = .next s' ∧
      (slip = true → s'.drc.adhesion = .slip ∧ s'.drc.quiet = 0 ∧ s'.drc.tcap = some (max 0 (s.drc.u - 15)) ∧
        s'.drc.bcap = bc ∧ s'.drc.runOn = run ∧ s'.drc.sand = true) ∧
      (slide = true → s'.drc.adhesion = .slide ∧ s'.drc.quiet = 0 ∧ s'.drc.bcap = some (min 0 (s.drc.u + 15)) ∧
        s'.drc.tcap = tc ∧ s'.drc.runOn = run ∧ s'.drc.sand = true) ∧
      (slip = false → slide = false → s'.drc.tcap = tc ∧ s'.drc.bcap = bc ∧ s'.drc.sand = sand ∧
        (s.drc.adhesion = .none →
          s'.drc.adhesion = .none ∧ s'.drc.quiet = s.drc.quiet ∧ s'.drc.runOn = run) ∧
        (s.drc.adhesion ≠ .none →
          if cls ≠ .good ∨ (diff ≤ thr / 2 ∧ 10 ≤ s.drc.quiet + 1) then
            s'.drc.adhesion = .none ∧ s'.drc.quiet = 0 ∧ s'.drc.runOn = 100
          else s'.drc.adhesion = s.drc.adhesion ∧ s'.drc.runOn = run ∧
            s'.drc.quiet = if diff ≤ thr / 2 then s.drc.quiet + 1 else 0))

/-- R27, R28, R31, R33, R51: a control interval forms the reference class and ref from the two axles and the u it
finds; then an ARMED entry whose start the tram has reached becomes ACTIVE, an ACTIVE one whose end it has reached
leaves the table, V_ceil is the effective ceiling of what remains, and V_sup follows V_ceil upward at once and
downward by the descent step. -/
def Obligations.IntervalCeilings : Prop :=
  ∀ (t : Nat) (s : State), s.drc.intervalDue ≤ max s.now t →
    ∃ s', exec (.controlInterval t) s = .next s' ∧
      (s.amu.a.cls ≠ .fault → s.amu.b.cls ≠ .fault → s'.drc.refClass = .good ∧
        s'.drc.ref = if 0 ≤ s.drc.u then min s.amu.a.counted s.amu.b.counted
          else max s.amu.a.counted s.amu.b.counted) ∧
      (s.amu.a.cls ≠ .fault → s.amu.b.cls = .fault → s'.drc.refClass = .single ∧ s'.drc.ref = s.amu.a.counted) ∧
      (s.amu.a.cls = .fault → s.amu.b.cls ≠ .fault → s'.drc.refClass = .single ∧ s'.drc.ref = s.amu.b.counted) ∧
      (s.amu.a.cls = .fault → s.amu.b.cls = .fault → s'.drc.refClass = .lost ∧ s'.drc.ref = 0) ∧
      s'.drc.table.route = s.drc.table.route ∧ s'.drc.table.doors = s.drc.table.doors ∧
      s'.drc.table.reverse = s.drc.table.reverse ∧
      (∀ i : Fin 6, s.drc.table.get (.link i) = none → s'.drc.table.get (.link i) = none) ∧
      (∀ (i : Fin 6) (e : Entry), s.drc.table.get (.link i) = some e →
        ∀ active : Entry, active = (if e.starts s.amu.trackMm then { e with phase := .active } else e) →
        s'.drc.table.get (.link i) = if active.ends s.amu.trackMm then none else some active) ∧
      s'.drc.vCeil = effectiveCeiling s.params.vehicleMax.toNat s'.drc.table.entries ∧
      (s.drc.vSup ≤ s'.drc.vCeil → s'.drc.vSup = s'.drc.vCeil) ∧
      (s'.drc.vCeil < s.drc.vSup → s'.drc.vSup =
        max s'.drc.vCeil (min s.drc.vSup s'.drc.ref - s.params.descentStep.toNat))

/-- R57, R58, R38: in READY with class GOOD or SINGLE a control interval sets the band from the band before and the
margin of ref over V_sup, or trips with cause OVERSPEED above 250 cm/s; elsewhere the band is NORMAL. The DRIVE
warning is held exactly while the band is not NORMAL. -/
def Obligations.IntervalBand : Prop :=
  ∀ (t : Nat) (s : State), s.drc.intervalDue ≤ max s.now t →
    (s.drc.warnDrive = true ↔ s.drc.band ≠ .normal) →
    ∃ s', exec (.controlInterval t) s = .next s' ∧
      (s'.drc.warnDrive = true ↔ s'.drc.band ≠ .normal) ∧
      (s.drc.driveState ≠ .ready ∨ s'.drc.refClass = .lost → s'.drc.band = .normal) ∧
      (s.drc.driveState = .ready → s'.drc.refClass = .lost → s'.drc.driveState = .ready) ∧
      (s.drc.driveState = .ready → s'.drc.refClass ≠ .lost → ∀ margin : Int, margin = s'.drc.ref - s'.drc.vSup →
        (margin ≤ 0 → s'.drc.driveState = .ready ∧ s'.drc.band = .normal) ∧
        (0 < margin → margin ≤ 100 → s'.drc.driveState = .ready ∧
          s'.drc.band = if s.drc.band = .intervene then .intervene else .warn) ∧
        (100 < margin → margin ≤ 250 → s'.drc.driveState = .ready ∧ s'.drc.band = .intervene) ∧
        (250 < margin → s'.drc.driveState = .tripped ∧ s'.drc.tripReason = some .overspeed ∧
          s'.drc.loop = false ∧ s'.drc.u = -100 ∧ s'.drc.resetCount = 0 ∧ s'.drc.band = .normal ∧
          (s.clp.faults.length < 30 → Latched .overspeed 0 s')))

/-- R59 to R62: a control interval leaves u as 0 in UNCONFIGURED and −100 in TRIPPED. In READY it starts from u as a
detection or an activated entry has left it, forms the target from h by the limits of R60 in their order, and ramps u
toward it; the buffer takes the new u. -/
def Obligations.IntervalDemand : Prop :=
  ∀ (t thr diff ref : Nat) (cls : RefClass) (s : State) (u3 u4 : Int) (clips : Bool),
    s.drc.intervalDue ≤ max s.now t → reference s.drc.u s.amu.a s.amu.b = (cls, ref) →
    thr = max s.params.slipMin.toNat (ref * s.params.slipPermille.toNat / 1000) →
    diff = axleDifference s.amu.a s.amu.b →
    u3 = (if cls = .good ∧ 0 < s.drc.u ∧ thr < diff then min s.drc.u (max 0 (s.drc.u - 15))
      else if s.drc.driveState = .ready ∧ cls = .good ∧ s.drc.u < 0 ∧ thr < diff then
        max s.drc.u (min 0 (s.drc.u + 15))
      else s.drc.u) →
    (clips = true ↔ 0 < u3 ∧ ∃ i : Fin 6, ∃ e, s.drc.table.get (.link i) = some e ∧
      e.kind ≠ .ceiling ∧ e.starts s.amu.trackMm = true) →
    u4 = (if clips then 0 else u3) →
    ∃ s', exec (.controlInterval t) s = .next s' ∧ s'.drc.buffer = s'.drc.u ∧
      (s'.drc.driveState = .unconfigured → s'.drc.u = 0) ∧ (s'.drc.driveState = .tripped → s'.drc.u = -100) ∧
      (s'.drc.driveState = .ready → ∀ x1, x1 = (if s'.drc.inhibited then min s'.drc.h 0 else s'.drc.h) →
        ∀ x2, x2 = (if cls = .lost then min x1 30 else x1) →
        ∀ x3, x3 = s'.drc.tcap.elim x2 (min x2) → ∀ x4, x4 = s'.drc.bcap.elim x3 (max x3) →
        ∀ x5, x5 = (if s'.drc.band = .warn then min x4 0
          else if s'.drc.band = .intervene then min x4 s.params.serviceBrake.toInt else x4) →
        s'.drc.u = ramp s.params x5 u4)

/-- R61: with the sign of the target other than that of a u that is not 0 the target becomes 0; u then moves toward
the target by at most the step of Table 3-6 for its direction, takes a target that is closer, and never crosses 0. -/
def Obligations.RampStep : Prop :=
  ∀ (p : Params) (target u goal step : Int),
    goal = (if u ≠ 0 ∧ target.sign ≠ u.sign then 0 else target) →
    step = (if u < goal then (if 0 ≤ u then (p.tractionRise.toNat : Int) else p.brakeFall.toNat)
      else if 0 < u then (p.tractionFall.toNat : Int) else p.brakeRise.toNat) →
    (u < goal → ramp p target u = min goal (u + step)) ∧ (goal < u → ramp p target u = max goal (u - step)) ∧
    (u = goal → ramp p target u = u) ∧ (0 < u → 0 ≤ ramp p target u) ∧ (u < 0 → ramp p target u ≤ 0)

/-- R40, R42: in TRIPPED a control interval judges the reset procedure. Where it holds the reset count rises by 1 up
to 250, elsewhere it is 0; at 50 intervals, or 250 in class LOST, the loop is energised, the state is READY, the count
is 0, the trip reason is kept and an EMERGENCY report is sent (stated for a tram with no DRIVE warning to end, no
restriction to activate or to expire, and room in the report share). RESET_COMPLETE is that interval, and otherwise has
no effect (the choice of assumption 4). -/
def Obligations.ResetProcedure : Prop :=
  ∀ (t n req : Nat) (s : State), s.drc.driveState = .tripped → s.drc.intervalDue ≤ max s.now t →
    n = min 250 (s.drc.resetCount + 1) →
    req = (if s.amu.a.cls = .fault ∧ s.amu.b.cls = .fault then 250 else 50) →
    ∃ s', exec (.controlInterval t) s = .next s' ∧
      ∀ holds : Bool, (holds = true ↔ s'.drc.handleFault = false ∧ s'.drc.h = -100 ∧ s.drc.detent = false ∧
        s.drc.deadman = true ∧ (s.amu.atStandstill = true ∨ s'.drc.refClass = .lost)) →
      (holds = false → s'.drc.driveState = .tripped ∧ s'.drc.resetCount = 0 ∧ s'.drc.loop = s.drc.loop ∧
        exec (.resetComplete t) s = .next { s with now := max s.now t }) ∧
      (holds = true → n < req → s'.drc.driveState = .tripped ∧ s'.drc.resetCount = n ∧ s'.drc.loop = s.drc.loop ∧
        exec (.resetComplete t) s = .next { s with now := max s.now t }) ∧
      (holds = true → req ≤ n → s'.drc.driveState = .ready ∧ s'.drc.resetCount = 0 ∧ s'.drc.loop = true ∧
        s'.drc.tripReason = s.drc.tripReason ∧ exec (.resetComplete t) s = .next s' ∧
        (s.drc.warnDrive = false → (∀ e ∈ s.drc.table.entries, e.phase = .active ∧ e.stop = none) →
          reportCount s.clp.outbound < 12 → ∃ tag lost, .report tag lost (.emergency .tripped .ready s.drc.tripReason
            s'.drc.refClass s'.drc.ref s.amu.odometerMm) ∈ s'.clp.outbound))

/-- R54, R55, R56 with the choice of assumption 4: the rows that name a part of a control interval are that interval
when it has their outcome, and otherwise have no effect: a slip or slide condition ends, a relaxing cap is removed,
the sand run-on reaches 0 and the sand turns off. A detection later in the same interval may set the cap anew and keeps
the sand on. Without effect are all three before the interval is due, the first in no condition or in one that does not
end, and the other two in a condition, or with no cap at its end and no run-on of 1. -/
def Obligations.IntervalParts : Prop :=
  ∀ (t thr diff ref : Nat) (cls : RefClass) (s s1 : State) (slips slides : Bool), s1 = { s with now := max s.now t } →
    reference s.drc.u s.amu.a s.amu.b = (cls, ref) →
    thr = max s.params.slipMin.toNat (ref * s.params.slipPermille.toNat / 1000) →
    diff = axleDifference s.amu.a s.amu.b →
    (slips = true ↔ cls = .good ∧ 0 < s.drc.u ∧ thr < diff) →
    (slides = true ↔ s.drc.driveState = .ready ∧ cls = .good ∧ s.drc.u < 0 ∧ thr < diff) →
    (s.drc.intervalDue ≤ max s.now t →
      (s.drc.adhesion ≠ .none → cls ≠ .good ∨ (diff ≤ thr / 2 ∧ 10 ≤ s.drc.quiet + 1) →
        ∃ s', exec (.adhesionConditionEnd t) s = .next s' ∧ exec (.controlInterval t) s = .next s' ∧
          s'.drc.adhesion = .none ∧ s'.drc.quiet = 0 ∧ s'.drc.runOn = 100) ∧
      (s.drc.adhesion = .none → ∀ c, s.drc.tcap = some c → 100 ≤ c + 1 →
        ∃ s', exec (.capRemoved t) s = .next s' ∧ exec (.controlInterval t) s = .next s' ∧
          (slips = false → s'.drc.tcap = none)) ∧
      (s.drc.adhesion = .none → ∀ c, s.drc.bcap = some c → c - 1 ≤ -100 →
        ∃ s', exec (.capRemoved t) s = .next s' ∧ exec (.controlInterval t) s = .next s' ∧
          (slides = false → s'.drc.bcap = none)) ∧
      (s.drc.adhesion = .none → s.drc.runOn = 1 →
        ∃ s', exec (.sandRunOnExpiry t) s = .next s' ∧ exec (.controlInterval t) s = .next s' ∧
          s'.drc.runOn = 0 ∧ (slips = false → slides = false → s'.drc.sand = false))) ∧
    (max s.now t < s.drc.intervalDue → exec (.adhesionConditionEnd t) s = .next s1 ∧
      exec (.capRemoved t) s = .next s1 ∧ exec (.sandRunOnExpiry t) s = .next s1) ∧
    (s.drc.adhesion = .none ∨ cls = .good ∧ (thr / 2 < diff ∨ s.drc.quiet + 1 < 10) →
      exec (.adhesionConditionEnd t) s = .next s1) ∧
    (s.drc.adhesion ≠ .none ∨ (∀ c, s.drc.tcap = some c → c + 1 < 100) ∧ (∀ c, s.drc.bcap = some c → -100 < c - 1) →
      exec (.capRemoved t) s = .next s1) ∧
    (s.drc.adhesion ≠ .none ∨ s.drc.runOn ≠ 1 → exec (.sandRunOnExpiry t) s = .next s1)

/-- R38, R41, R47, R48, R64: EMERGENCY_STOP and the closing of the emergency detent trip. In READY the state is
TRIPPED with the cause as its reason, the loop is de-energised, u is −100, the reset count is 0 and the band NORMAL;
in TRIPPED the reason is the new one and the count is 0. The warnings end, the alarm is requested, an EMERGENCY report
is sent, and EMERGENCY_STOP is answered OK. In UNCONFIGURED the one is refused and the other changes the detent alone.
The opening trips nothing. The reply stands behind the report (the choice of assumption 9), and of two warnings that
of VIGILANCE ends first (the choice of assumption 11). -/
def Obligations.TripTaken : Prop :=
  ∀ (t stood : Nat) (tag : Byte) (s : State),
    (s.drc.driveState = .ready → ∃ s', exec (.emergencyStop t tag) s = .next s' ∧ TripFrame t s s' ∧
      s'.drc = s.drc.trippedBy .linkStop ∧
      s'.clp = ((s.alarmed t).clp.raise (.emergency .ready .tripped (some .linkStop) s.drc.refClass s.drc.ref
        s.amu.odometerMm)).pushReply (replyFrame 0x17 tag (.ok (.driveState .tripped)))) ∧
    (s.drc.driveState = .ready → s.drc.detent = false →
      ∃ s', exec (.emergencyDetentClose t) s = .next s' ∧ TripFrame t s s' ∧
      s'.drc = { s.drc.trippedBy .emergencyDetent with detent := true } ∧
      s'.clp = (s.alarmed t).clp.raise (.emergency .ready .tripped (some .emergencyDetent) s.drc.refClass s.drc.ref
        s.amu.odometerMm)) ∧
    (s.drc.driveState = .tripped → ∃ s', exec (.emergencyStop t tag) s = .next s' ∧ TripFrame t s s' ∧
      s'.drc = { s.drc with tripReason := some .linkStop, resetCount := 0, vigilance := none, warnVigilance := false
                            warnDrive := false } ∧
      s'.clp = ((s.alarmed t).clp.raise (.emergency .tripped .tripped (some .linkStop) s.drc.refClass s.drc.ref
        s.amu.odometerMm)).pushReply (replyFrame 0x17 tag (.ok (.driveState .tripped)))) ∧
    (s.drc.driveState = .tripped → s.drc.detent = false →
      ∃ s', exec (.emergencyDetentClose t) s = .next s' ∧ TripFrame t s s' ∧
      s'.drc = { s.drc with tripReason := some .emergencyDetent, resetCount := 0, vigilance := none
                            warnVigilance := false, warnDrive := false, detent := true } ∧
      s'.clp = (s.alarmed t).clp.raise (.emergency .tripped .tripped (some .emergencyDetent) s.drc.refClass s.drc.ref
        s.amu.odometerMm)) ∧
    (s.drc.driveState = .unconfigured →
      exec (.emergencyStop t tag) s = .next { s with
        now := max s.now t, clp := s.clp.pushReply (replyFrame 0x17 tag (.plain .unconfigured)) }) ∧
    (s.drc.driveState = .unconfigured → TimersSound s →
      exec (.emergencyDetentClose t) s = .next { s with now := max s.now t, drc := { s.drc with detent := true } }) ∧
    exec (.emergencyDetentOpen t stood) s = .next { s with
      now := max s.now t, drc := { s.drc with detent := if 10 ≤ stood then false else s.drc.detent } }

/-- R47, R49: a reverser change that has stood for 10 ms sets the direction memory from FORWARD or REVERSE, posts the
REVERSE entry or lifts it, sets a u above 0 to 0 at NEUTRAL, and away from standstill trips with cause REVERSER; at
standstill, or in UNCONFIGURED, nothing trips. A shorter change is not taken. -/
def Obligations.ReverserChange : Prop :=
  ∀ (t stood : Nat) (forward reverse : Bool) (r : Reverser) (s : State),
    r = (if forward ∧ ¬ reverse then .forward else if reverse ∧ ¬ forward then .reverse else .neutral) →
    (stood < 10 → exec (.reverserChange t stood forward reverse) s = .next { s with now := max s.now t }) ∧
    (10 ≤ stood → s.drc.reverser ≠ r →
      ∃ s', exec (.reverserChange t stood forward reverse) s = .next s' ∧ s'.drc.reverser = r ∧
        s' = { s with now := max s.now t, amu := s'.amu, drc := s'.drc, tnu := s'.tnu, clp := s'.clp } ∧
        s'.amu.direction = (if r = .forward then .forward else if r = .reverse then .reverse else s.amu.direction) ∧
        s'.amu.odometer = s.amu.odometer ∧ s'.amu.track = s.amu.track ∧ TimersFollow s s' ∧
        (r = .reverse → (∀ e, s.drc.table.reverse = some e → e.phase = .active ∧ e.start = none ∧ e.stop = none) →
          s'.drc.table = s.drc.table.set .reverse (some
          { kind := .ceiling, ceiling := s.params.reverseCeil.toNat, reason := 0xE6, start := none, stop := none
            phase := .active })) ∧
        (r = .forward → s'.drc.table = s.drc.table.set .reverse none) ∧
        (r = .neutral → s'.drc.table = s.drc.table) ∧
        (s.amu.standstill = .standstill ∨ s.drc.driveState = .unconfigured →
          s'.drc.driveState = s.drc.driveState ∧ s'.drc.loop = s.drc.loop ∧ s'.drc.tripReason = s.drc.tripReason ∧
          s'.drc.u = if r = .neutral ∧ 0 < s.drc.u then 0 else s.drc.u) ∧
        (s.amu.standstill ≠ .standstill → s.drc.driveState ≠ .unconfigured →
          s'.drc.driveState = .tripped ∧ s'.drc.tripReason = some .reverser ∧ s'.drc.resetCount = 0 ∧
          (s.drc.driveState = .ready → s'.drc.u = -100 ∧ s'.drc.loop = false ∧ s'.drc.band = .normal) ∧
          (s.clp.faults.length < 31 → Latched .reverser 0 s')))

/-- R50: the vigilance timer runs while the drive is READY, the tram not at standstill and the deadman released. A
deadman change that has stood for 10 ms is taken and starts or stops the timer; at 1500 ms the warning is requested;
at 2500 ms the tram trips with cause VIGILANCE. Of two warnings that the trip ends, that of VIGILANCE ends first (the
choice of assumption 11). -/
def Obligations.Vigilance : Prop :=
  ∀ (t stood : Nat) (pressed : Bool) (s : State),
    (stood < 10 → exec (.deadmanChange t stood pressed) s = .next { s with now := max s.now t }) ∧
    (10 ≤ stood → ∃ s', exec (.deadmanChange t stood pressed) s = .next s' ∧
      s' = { s with now := max s.now t, drc := s'.drc, tnu := s'.tnu, clp := s'.clp } ∧
      s'.drc = { s.drc with
        deadman := pressed, warnVigilance := s.drc.warnVigilance && vigilanceRuns s'
        vigilance := if s.drc.driveState = .ready ∧ s.amu.standstill ≠ .standstill ∧ pressed = false then
          some (s.drc.vigilance.getD (max s.now t)) else none } ∧
      (s'.drc.warnVigilance = s.drc.warnVigilance → s'.tnu = s.tnu ∧ s'.clp = s.clp)) ∧
    (∀ st, s.drc.vigilance = some st → st + 1500000 ≤ max s.now t → s.drc.warnVigilance = false →
      exec (.vigilanceWarning t) s = .next (State.sound .cab 5 7 .vigilance .held
        { s with now := max s.now t, drc := { s.drc with warnVigilance := true } })) ∧
    ((∀ st, s.drc.vigilance = some st → max s.now t < st + 1500000) ∨ s.drc.warnVigilance = true →
      exec (.vigilanceWarning t) s = .next { s with now := max s.now t }) ∧
    (∀ st, s.drc.vigilance = some st → st + 2500000 ≤ max s.now t → s.drc.driveState = .ready →
      ∃ s', exec (.vigilanceTrip t) s = .next s' ∧ TripFrame t s s' ∧ s'.drc = s.drc.trippedBy .vigilance ∧
        (s.clp.faults.length < 31 → Latched .vigilance 0 s')) ∧
    ((∀ st, s.drc.vigilance = some st → max s.now t < st + 2500000) →
      exec (.vigilanceTrip t) s = .next { s with now := max s.now t })

/-- R62: at the start of each demand-line period the line takes the buffer and the drive state: its duty is 0 in
UNCONFIGURED and 500 + 4u permille elsewhere; the periods recur every 2000 µs. -/
def Obligations.DemandPeriod : Prop :=
  ∀ (t : Nat) (s : State),
    (s.drc.periodDue ≤ max s.now t → ∃ s', exec (.demandPeriodStart t) s = .next s' ∧
      s' = { s with now := max s.now t, drc := { s.drc with duty := s'.drc.duty, periodDue := s.drc.periodDue + 2000 } } ∧
      (s.drc.driveState = .unconfigured → s'.drc.duty = 0) ∧
      (s.drc.driveState ≠ .unconfigured → -100 ≤ s.drc.buffer → (s'.drc.duty : Int) = 500 + 4 * s.drc.buffer ∧
        (s'.drc.highTime : Int) = 2 * (500 + 4 * s.drc.buffer))) ∧
    (max s.now t < s.drc.periodDue → exec (.demandPeriodStart t) s = .next { s with now := max s.now t })

/-- R37: the drive state moves in three ways alone: from UNCONFIGURED to TRIPPED at the first accepted CONFIGURE, from
READY to TRIPPED at a trip, and from TRIPPED to READY at a control interval that finds the reset procedure held. -/
def Obligations.DriveStateMoves : Prop :=
  ∀ (c : Instr) (s s' : State), (∀ t i, c ≠ .powerOn t i) → exec c s = .next s' →
    (s'.drc.driveState = .unconfigured → s.drc.driveState = .unconfigured) ∧
    (s.drc.driveState = .unconfigured → s'.drc.driveState ≠ .unconfigured →
      s'.drc.driveState = .tripped ∧ s.configured = false ∧ s'.configured = true) ∧
    (s.drc.driveState ≠ .ready → s'.drc.driveState = .ready →
      s.drc.driveState = .tripped ∧ s'.drc.h = -100 ∧ s'.drc.handleFault = false ∧ s.drc.detent = false ∧
        s.drc.deadman = true ∧ (s.amu.atStandstill = true ∨ s'.drc.refClass = .lost) ∧
        ∃ t, c = .controlInterval t ∨ c = .adhesionConditionEnd t ∨ c = .capRemoved t ∨ c = .sandRunOnExpiry t ∨
          c = .resetComplete t)

/-! ## Junctions, the loop and exchanges (Chapters 4 to 6) -/

/-- R69, R70, R71: JUNCTION_LOAD is refused OUT_OF_RANGE with the number of the first failing check of Table 4-2,
IN_USE for the id of a head beyond WAITING, FULL with no slot left for a new id. Otherwise the record is written whole
into the slot of its id, every plan entry with the id whose selection the record lacks takes the default, no other
record changes, and the reply is OK with whether a record was replaced, the LOADED slots and the entries changed. Check
3 examines the bytes of absent selections too (the choice of assumption 12). -/
def Obligations.JunctionLoadChecked : Prop :=
  ∀ (t n : Nat) (tag : Byte) (p : JunctionLoad) (s : State) (checks : List Bool) (at_ : Byte → Nat → Requirement)
    (dflt : Selection) (j : JunctionRecord) (misfits : PlanEntry → Bool), LinkReady s → n = p.setCount.toNat →
    checks = [ decide (p.id.toNat < 1 ∨ 4095 < p.id.toNat), decide (n < 1 ∨ 4 < n),
      [p.reqLeft, p.reqStraight, p.reqRight].any (fun b => (List.range n).any fun i => b.toNat / 4 ^ i % 4 = 3),
      (p.present.getLsbD 0 && (List.range n).all fun i => p.reqLeft.toNat / 4 ^ i % 4 = 0) ||
        (p.present.getLsbD 1 && (List.range n).all fun i => p.reqStraight.toNat / 4 ^ i % 4 = 0) ||
        (p.present.getLsbD 2 && (List.range n).all fun i => p.reqRight.toNat / 4 ^ i % 4 = 0),
      !((p.dflt.toNat = 0 && p.present.getLsbD 0) || (p.dflt.toNat = 1 && p.present.getLsbD 1) ||
        (p.dflt.toNat = 2 && p.present.getLsbD 2)),
      decide (p.loopToPoint.toNat < 5000 ∨ 80000 < p.loopToPoint.toNat),
      decide (p.clearing.toNat < 3000 ∨ 60000 < p.clearing.toNat),
      decide (p.stopMargin.toNat < 2000 ∨ 10000 < p.stopMargin.toNat ∨ p.loopToPoint.toNat ≤ p.stopMargin.toNat),
      decide (p.approachCeil.toNat < 100 ∨ 800 < p.approachCeil.toNat),
      decide (p.passingCeil.toNat < 100 ∨ 800 < p.passingCeil.toNat) ] →
    at_ = (fun b i => if b.toNat / 4 ^ i % 4 = 1 then .normal else if b.toNat / 4 ^ i % 4 = 2 then .reverse else .any) →
    dflt = (if p.dflt.toNat = 0 then .left else if p.dflt.toNat = 1 then .straight else .right) →
    j = { id := p.id, setCount := n
          left := if p.present.getLsbD 0 then some ((List.range n).map (at_ p.reqLeft)) else none
          straight := if p.present.getLsbD 1 then some ((List.range n).map (at_ p.reqStraight)) else none
          right := if p.present.getLsbD 2 then some ((List.range n).map (at_ p.reqRight)) else none
          dflt := dflt, loopToPoint := p.loopToPoint.toNat, clearing := p.clearing.toNat
          stopMargin := p.stopMargin.toNat, approachCeil := p.approachCeil.toNat, passingCeil := p.passingCeil.toNat } →
    misfits = (fun e => e.id = p.id && (j.route e.selection).isNone) →
    (∀ k, checks.findIdx? id = some k →
      exec (.junctionLoad t tag p) s = .next (s.answered t 0x04 tag (.range (BitVec.ofNat 8 (k + 1))))) ∧
    (checks.findIdx? id = none →
      ((∃ h ∈ s.rtm.plan.head?, h.id = p.id ∧ h.state ≠ .waiting) →
        exec (.junctionLoad t tag p) s = .next (s.answered t 0x04 tag (.plain .inUse))) ∧
      ((∀ h ∈ s.rtm.plan.head?, h.id = p.id → h.state = .waiting) →
        (s.rtm.record p.id = none → 64 ≤ s.rtm.junctions.length →
          exec (.junctionLoad t tag p) s = .next (s.answered t 0x04 tag (.plain .full))) ∧
        (s.rtm.record p.id ≠ none ∨ s.rtm.junctions.length < 64 →
          ∃ s', exec (.junctionLoad t tag p) s = .next s' ∧
            s' = { s.answered t 0x04 tag (.ok (.junctionLoaded (s.rtm.record p.id).isSome s'.rtm.junctions.length
                    (s.rtm.plan.countP misfits))) with
                   rtm := { s.rtm with
                     junctions := s'.rtm.junctions
                     plan := s.rtm.plan.map fun e => if misfits e then { e with selection := dflt } else e } } ∧
            s'.rtm.record p.id = some j ∧ (∀ x, x ≠ p.id → s'.rtm.record x = s.rtm.record x) ∧
            s'.rtm.junctions.length = s.rtm.junctions.length + if s.rtm.record p.id = none then 1 else 0)))

/-- R72, R76, R77: JUNCTION_DROP, ROUTE_APPEND and ROUTE_CLEAR refuse as their checks give. A drop empties the slot of
its id alone; an append adds an entry in WAITING with origin PLAN at the tail; a clear removes every entry but a head
beyond WAITING. Nothing else changes but the reply at the tail of the outbound queue; a drop that finds no record is
answered without the number of LOADED slots (the choice of assumption 38). -/
def Obligations.RouteCommands : Prop :=
  ∀ (t : Nat) (tag selection : Byte) (id : Half) (s : State) (sel : Selection) (inUse : Bool), LinkReady s →
    (inUse = true ↔ ∃ h ∈ s.rtm.plan.head?, h.id = id ∧ h.state ≠ .waiting) →
    (selection.toNat = 0 ∧ sel = .left ∨ selection.toNat = 1 ∧ sel = .straight ∨ selection.toNat = 2 ∧ sel = .right ∨
      2 < selection.toNat) →
    (id.toNat < 1 ∨ 4095 < id.toNat →
      (∃ n, exec (.junctionDrop t tag id) s = .next (s.answered t 0x05 tag (.range n))) ∧
      exec (.routeAppend t tag id selection) s = .next (s.answered t 0x07 tag (.range 1))) ∧
    (1 ≤ id.toNat → id.toNat ≤ 4095 →
      (inUse = true → exec (.junctionDrop t tag id) s = .next (s.answered t 0x05 tag (.plain .inUse))) ∧
      (inUse = false → s.rtm.record id = none →
        exec (.junctionDrop t tag id) s = .next (s.answered t 0x05 tag (.plain .notFound))) ∧
      (inUse = false → s.rtm.record id ≠ none →
        ∃ s', exec (.junctionDrop t tag id) s = .next s' ∧
          s' = { s.answered t 0x05 tag (.ok (.junctionCount s'.rtm.junctions.length)) with
                 rtm := { s.rtm with junctions := s'.rtm.junctions } } ∧
          s'.rtm.record id = none ∧ (∀ x, x ≠ id → s'.rtm.record x = s.rtm.record x)) ∧
      (2 < selection.toNat →
        exec (.routeAppend t tag id selection) s = .next (s.answered t 0x07 tag (.range 2))) ∧
      (selection.toNat ≤ 2 → (∃ j, s.rtm.record id = some j ∧ j.route sel = none) →
        exec (.routeAppend t tag id selection) s = .next (s.answered t 0x07 tag (.range 3))) ∧
      (selection.toNat ≤ 2 → (∀ j, s.rtm.record id = some j → j.route sel ≠ none) →
        (16 ≤ s.rtm.plan.length →
          exec (.routeAppend t tag id selection) s = .next (s.answered t 0x07 tag (.plain .full))) ∧
        (s.rtm.plan.length < 16 →
          exec (.routeAppend t tag id selection) s = .next
            { s.answered t 0x07 tag (.ok (.appended s.rtm.plan.length (s.rtm.plan.length + 1))) with
              rtm := { s.rtm with
                plan := s.rtm.plan ++ [{ id := id, selection := sel, origin := .plan, state := .waiting }] } }))) ∧
    exec (.routeClear t tag) s = .next
      { s.answered t 0x08 tag (.ok (.planCleared
          (s.rtm.plan.length - (s.rtm.plan.head?.toList.filter fun h => h.state ≠ .waiting).length)
          (s.rtm.plan.head?.toList.filter fun h => h.state ≠ .waiting).length)) with
        rtm := { s.rtm with plan := s.rtm.plan.head?.toList.filter fun h => h.state ≠ .waiting } }

/-- R85, R86, R117: a press that has stood for 40 ms, of a button released before, sets the pending selection and acts
on the head by Table 4-5: it replaces the selection of a head in WAITING, makes a re-request of a failed head at
standstill, or is refused with the refusal tone. The button's release makes its next press one to be taken. -/
def Obligations.SelectorButtons : Prop :=
  ∀ (t stood : Nat) (sel : Selection) (s s1 : State),
    s1 = { s with now := max s.now t, rtm := { s.rtm.arm sel false with pendingSel := some sel } } →
    (stood < 40 ∨ s.rtm.armed sel = false →
      exec (.selectorPress t stood sel) s = .next { s with now := max s.now t }) ∧
    exec (.selectorButtonRelease t stood sel) s =
      .next { s with now := max s.now t, rtm := if 40 ≤ stood then s.rtm.arm sel true else s.rtm } ∧
    (40 ≤ stood → s.rtm.armed sel = true →
      (s.rtm.plan = [] → exec (.selectorPress t stood sel) s = .next s1) ∧
      (∀ h ∈ s.rtm.plan.head?, h.state = .waiting → (∀ j, s.rtm.record h.id = some j → j.route sel ≠ none) →
        exec (.selectorPress t stood sel) s = .next
          (if h.selection = sel then s1
           else State.raise (.junction (.selection h.id h.selection sel))
             { s1 with rtm := { s1.rtm with plan := { h with selection := sel } :: s.rtm.plan.tail } })) ∧
      (∀ h ∈ s.rtm.plan.head?,
        (h.state = .waiting ∧ (∃ j, s.rtm.record h.id = some j ∧ j.route sel = none)) ∨
        (h.state ∈ [ExState.sending, .awaiting, .queued, .setting, .locked, .contactLost, .unknown]) ∨
        (h.state ∈ [ExState.refused, .wrongLeg, .timedOut] ∧ (s.amu.standstill ≠ .standstill ∨
          ∃ j, s.rtm.record h.id = some j ∧ j.route sel = none)) →
        exec (.selectorPress t stood sel) s = .next (s1.sound .cab 7 3 .route (.count 0))) ∧
      (∀ h ∈ s.rtm.plan.head?, ∀ j, s.rtm.record h.id = some j → ∀ c, s.rtm.context = some c →
        ∀ pc, c.paging = some pc → h.state ∈ [ExState.refused, .wrongLeg, .timedOut] →
        s.amu.standstill = .standstill → j.route sel ≠ none →
        ∃ s', exec (.selectorPress t stood sel) s = .next s' ∧
          s' = { s1 with rtm := s'.rtm, clp := s'.clp } ∧
          s'.rtm = { s1.rtm with
            plan := { h with selection := sel, state := if s.lpt.contact = some h.id then .sending else .contactLost } ::
              s.rtm.plan.tail
            context := some { c with
              paging := some { pc with pages := j.pageList sel, index := 0, sends := 1, answer := .none, counter := 0 }
              resume := if s.lpt.contact = some h.id then none else some .sending }
            freshDue := true, green := false, amber := decide (s.lpt.contact = some h.id)
            red := !decide (s.lpt.contact = some h.id), flashStart := none } ∧
          s'.clp = s.clp.raise (.junction (.state h.id sel h.origin h.state
            (if s.lpt.contact = some h.id then .sending else .contactLost) (some (.none, 0, 1, 0)) c.bad
            (distance c.loopMark s.amu.trackMm) none))))

/-- R81, R82, R83: a valid beacon for junction J changes nothing of the plan in UNCONFIGURED. Otherwise a head of
another id beyond WAITING is abandoned; then the first entry with id J is brought to the head with the entries before
it skipped, or, with none, an ad-hoc entry for J is inserted with the pending selection where J has it, its default,
or STRAIGHT, a full plan losing its tail with ROUTE_TRUNCATED latched. The entries behind the head keep their order,
and the pending selection and the junction table stay. R80, R84, R105, R106, R118, R126: a head in WAITING so found
takes its first contact, and the event hands on its latches, the ABANDONED and the SKIPPED report, the STATE report of
the new head, the lift of the abandoned head's ROUTE entry and the post of the new one (the order of assumption 17). -/
def Obligations.BeaconFindsHead : Prop :=
  ∀ (t : Nat) (page : List Byte) (b : Beacon) (s : State) (kept after : List PlanEntry) (sel : Selection),
    classify page = .beacon b →
    kept = (if ∃ h ∈ s.rtm.plan.head?, h.id ≠ b.junction ∧ h.state ≠ .waiting then s.rtm.plan.tail else s.rtm.plan) →
    (∀ j, s.rtm.record b.junction = some j → sel = (s.rtm.pendingSel.elim j.dflt fun p =>
      if j.route p = none then j.dflt else p)) →
    (s.rtm.record b.junction = none → sel = s.rtm.pendingSel.getD .straight) →
    after = (if ∃ e ∈ kept, e.id = b.junction then kept.dropWhile fun e => decide (e.id ≠ b.junction)
      else PlanEntry.mk b.junction sel .adhoc .waiting :: (if 16 ≤ kept.length then kept.dropLast else kept)) →
    s.lpt.transmitting (max s.now t) = false →
    ∃ s', exec (.loopPage t page) s = .next s' ∧
      s'.rtm.junctions = s.rtm.junctions ∧ s'.rtm.pendingSel = s.rtm.pendingSel ∧
      (s.drc.driveState = .unconfigured → s' = { s with now := max s.now t, lpt := s'.lpt } ∧ s'.lpt.slotPage = none) ∧
      (s.drc.driveState ≠ .unconfigured → s'.rtm.plan.tail = after.tail ∧
        (∀ a ∈ after.head?, ∃ h ∈ s'.rtm.plan.head?,
          h.id = a.id ∧ h.selection = a.selection ∧ h.origin = a.origin ∧ a.id = b.junction) ∧
        ((∀ e ∈ kept, e.id ≠ b.junction) → 16 ≤ kept.length → s.clp.faults.length < 30 →
          Latched .routeTruncated 0 s') ∧
        (∀ a ∈ after.head?, a.state = .waiting → ∀ (first : ExState) (gone : List PlanEntry) (x : State),
          first = (if s.rtm.record b.junction = none then .unknown else .sending) →
          gone = (if ∃ e ∈ kept, e.id = b.junction then kept.takeWhile fun e => decide (e.id ≠ b.junction) else []) →
          x = s.handedOn t
            ((if (∀ e ∈ kept, e.id ≠ b.junction) ∧ 16 ≤ kept.length then [.routeTruncated] else []) ++
              (if first = .unknown then [.junctionUnknown] else []))
            (((s.rtm.plan.head?.toList.filter fun h => decide (h.id ≠ b.junction ∧ h.state ≠ .waiting)).map fun h =>
                JunctionReport.abandoned h.id h.selection h.origin h.state b.junction) ++
              (if gone = [] then [] else [.skipped (gone.map (·.id)) b.junction]) ++
              [.state a.id a.selection a.origin .waiting first
                (if first = .unknown then none else some (.none, 0, 1, 0)) 0 0 (some b.controller)])
            (decide (kept ≠ s.rtm.plan)) (State.postFor a first 0) false →
          s'.drc = x.drc ∧ s'.clp = x.clp ∧ s'.tnu = s.tnu))

/-- R119 to R124: an approach interval that is due does nothing without an exchange context. With one, a head that has
reached its passing distance leaves the plan: JUNCTION_OVERRUN is latched unless it was LOCKED or UNKNOWN, then a PASSED
report is sent, then its ROUTE entry is lifted with the report of that, and the pending selection, the zone and the
lamps are cleared. Any other has the zone flag set and the ROUTE entry posted by Table R121. The amber lamp of UNKNOWN turns
over once its half period of 500 ms has run, and the next half period counts from the AMBER_FLASH that turned it, which
may come late (the choice of assumption 28). -/
def Obligations.ApproachInterval : Prop :=
  ∀ (t : Nat) (s s1 : State) (h : PlanEntry) (c : Context) (d limit : Int) (overrun : Bool),
    s1 = { s with now := max s.now t, rtm := { s.rtm with intervalDue := s.rtm.intervalDue + 20000 } } →
    (max s.now t < s.rtm.intervalDue → exec (.approachInterval t) s = .next { s with now := max s.now t }) ∧
    (s.rtm.intervalDue ≤ max s.now t →
      (s.rtm.plan = [] ∨ s.rtm.context = none → exec (.approachInterval t) s = .next s1) ∧
      (s.rtm.plan.head? = some h → s.rtm.context = some c → h.state ≠ .waiting →
        d = distance c.loopMark s.amu.trackMm → (overrun = true ↔ h.state ≠ .locked ∧ h.state ≠ .unknown) →
        (h.state = .unknown ∧ limit = s.params.fallback.toNat) ∨
          (h.state ≠ .unknown ∧ ∃ j, s.rtm.record h.id = some j ∧ limit = j.loopToPoint + j.clearing) →
        (limit ≤ d → ∃ s', exec (.approachInterval t) s = .next s' ∧
          s' = { s1 with drc := (s.lift .route).drc, rtm := s'.rtm, clp := s'.clp } ∧
          s'.rtm = { s1.rtm with plan := s.rtm.plan.tail, context := none, freshDue := false, zone := false
                                 pendingSel := none, green := s'.rtm.green, amber := s'.rtm.amber
                                 red := s'.rtm.red, flashStart := s'.rtm.flashStart } ∧
          ((∀ e ∈ s.rtm.plan.tail, e.state = .waiting) → s'.rtm.lampsAre false false false) ∧
          (overrun = true → HasRoom .junctionOverrun 0 s → Latched .junctionOverrun 0 s') ∧
          s'.clp = (s.handedOn t (if overrun then [.junctionOverrun] else [])
            [.passed h.id h.selection h.origin h.state d overrun] true id false).clp) ∧
        (d < limit → ∃ s', exec (.approachInterval t) s = .next s' ∧
          s' = { s1 with drc := s'.drc, rtm := { s1.rtm with zone := s'.rtm.zone }, clp := s'.clp } ∧
          (h.state = .unknown → s'.rtm.zone = true ∧ s'.drc = s.postUnknown.drc ∧ s'.clp = s.postUnknown.clp) ∧
          (h.state ≠ .unknown → ∀ j, s.rtm.record h.id = some j →
            (s'.rtm.zone = true ↔ (j.loopToPoint : Int) - j.stopMargin ≤ d) ∧
            (h.state = .locked → s'.drc = (s.postPassing j).drc ∧ s'.clp = (s.postPassing j).clp) ∧
            (h.state ≠ .locked → s'.drc = (s.postCurve j d).drc ∧ s'.clp = (s.postCurve j d).clp))))) ∧
    (s.rtm.plan.head? = some h → h.state = .unknown → ∀ st, s.rtm.flashStart = some st → st + 500000 ≤ max s.now t →
      exec (.amberFlash t) s = .next { s with
        now := max s.now t, rtm := { s.rtm with amber := !s.rtm.amber, flashStart := some (max s.now t) } }) ∧
    ((∀ st, s.rtm.flashStart = some st → max s.now t < st + 500000) ∨ s.rtm.headState ≠ .unknown →
      exec (.amberFlash t) s = .next { s with now := max s.now t })

/-- R97, R98, R99, R105, R106: the first valid beacon for the head's junction, in WAITING. With a record it opens the
exchange: the context is built, the head is SENDING, page 0 goes in the slot with the next toggle and a check seeded
with the junction id exclusive-or the vehicle number, and the ROUTE entry is posted for s = 0. Without one the head is
UNKNOWN, no page is sent, JUNCTION_UNKNOWN is latched, the amber lamp starts lit and the ROUTE entry is the
unknown-junction ceiling. -/
def Obligations.FirstContact : Prop :=
  ∀ (t : Nat) (page : List Byte) (b : Beacon) (h : PlanEntry) (s : State) (toggle : Bool) (chain : Half)
    (j : JunctionRecord) (p0 : Page) (ps : List Page),
    classify page = .beacon b → s.drc.driveState ≠ .unconfigured → s.rtm.plan.head? = some h → h.id = b.junction →
    h.state = .waiting → toggle = (s.lpt.toggleMemory.elim false fun m => !m) →
    chain = b.junction ^^^ s.params.vehicle → s.lpt.transmitting (max s.now t) = false →
    (s.rtm.record h.id = some j → j.pageList h.selection = p0 :: ps →
      ∃ s', exec (.loopPage t page) s = .next s' ∧ BeaconFrame t s s' ∧ s'.tnu = s.tnu ∧
        s'.rtm.plan.head? = some { h with state := .sending } ∧
        s'.rtm.context = some { loopMark := s.amu.trackMm, resume := none, bad := 0, paging := some (PageContext.mk
          (p0 :: ps) 0 toggle 1 chain .none 0) } ∧
        s'.lpt.toggleMemory = some toggle ∧ s'.lpt.slotPage = s'.lpt.held ∧ s'.lpt.contact = some b.junction ∧
        s'.lpt.held = some { junction := b.junction, vehicle := s.params.vehicle, set := p0.set, pos := p0.pos
                             last := p0.last, toggle := toggle
                             check := crc chain (requestBody b.junction s.params.vehicle p0.set p0.pos p0.last toggle) } ∧
        s'.rtm.lampsAre false true false ∧ s'.drc = (s.postCurve j 0).drc) ∧
    (s.rtm.record h.id = none →
      ∃ s', exec (.loopPage t page) s = .next s' ∧ BeaconFrame t s s' ∧ s'.tnu = s.tnu ∧
        s'.rtm.plan.head? = some { h with state := .unknown } ∧
        s'.rtm.context = some { loopMark := s.amu.trackMm, paging := none, resume := none, bad := 0 } ∧
        s'.lpt.held = s.lpt.held ∧ s'.lpt.toggleMemory = s.lpt.toggleMemory ∧ s'.lpt.slotPage = none ∧
        s'.rtm.amber = true ∧ s'.rtm.flashStart = some (max s.now t) ∧ s'.rtm.green = false ∧ s'.rtm.red = false ∧
        s'.drc = s.postUnknown.drc ∧
        (HasRoom .junctionUnknown 0 s → Latched .junctionUnknown 0 s'))

/-- R95, R96, R98 to R100, R107, R108, R116: a valid beacon in SENDING, or in CONTACT_LOST that resumes it. With the fresh
chain due, page 0 goes out as FIRST; an acknowledged page is followed by NEXT, its check seeded with the check of the
held page; an unacknowledged one goes out again byte for byte, up to six sends; the beacon that would need a seventh
takes the exchange to TIMED_OUT. A resumption sends one STATE report and posts the ROUTE entry. -/
def Obligations.SendingPages : Prop :=
  ∀ (t : Nat) (page : List Byte) (b : Beacon) (h : PlanEntry) (c : Context) (pc pca : PageContext) (s : State)
    (held : RequestPage) (acked toggle : Bool),
    classify page = .beacon b → s.drc.driveState ≠ .unconfigured → s.rtm.plan.head? = some h → h.id = b.junction →
    h.state = .sending ∨ h.state = .contactLost ∧ c.resume = some .sending →
    s.rtm.context = some c → c.paging = some pc → s.lpt.held = some held → s.lpt.transmitting (max s.now t) = false →
    toggle = (s.lpt.toggleMemory.elim false fun m => !m) →
    pca = { pc with answer := if b.addressee ≠ 0 ∧ b.addressee = s.params.vehicle then b.answer else pc.answer } →
    (acked = true ↔ b.junction = held.junction ∧ b.addressee ≠ 0 ∧ b.addressee = s.params.vehicle ∧
      b.ackValid = true ∧ b.ackToggle = held.toggle) →
    ∃ s', exec (.loopPage t page) s = .next s' ∧ BeaconFrame t s s' ∧
      (s.rtm.freshDue = true → ∀ p0, pc.pages[0]? = some p0 →
        BeaconMoves t b h (c.holding { pca with sends := 1, toggle := toggle, chain := b.junction ^^^ s.params.vehicle })
          .sending [] false s s' ∧
        s'.rtm.freshDue = false ∧ s'.lpt.slotPage = s'.lpt.held ∧ s'.lpt.toggleMemory = some toggle ∧
        s'.lpt.held = some { junction := b.junction, vehicle := s.params.vehicle, set := p0.set, pos := p0.pos
                             last := p0.last, toggle := toggle
                             check := crc (b.junction ^^^ s.params.vehicle)
                               (requestBody b.junction s.params.vehicle p0.set p0.pos p0.last toggle) }) ∧
      (s.rtm.freshDue = false → acked = true → ∀ p, pc.pages[pc.index + 1]? = some p →
        BeaconMoves t b h (c.holding { pca with index := pc.index + 1, sends := 1, toggle := toggle, chain := held.check })
          .sending [] false s s' ∧
        s'.rtm.freshDue = false ∧ s'.lpt.slotPage = s'.lpt.held ∧ s'.lpt.toggleMemory = some toggle ∧
        s'.lpt.held = some { junction := b.junction, vehicle := s.params.vehicle, set := p.set, pos := p.pos
                             last := p.last, toggle := toggle
                             check := crc held.check
                               (requestBody b.junction s.params.vehicle p.set p.pos p.last toggle) }) ∧
      (s.rtm.freshDue = false → acked = false → pc.sends < 6 →
        BeaconMoves t b h (c.holding { pca with sends := pc.sends + 1 }) .sending [] false s s' ∧
        s'.rtm.freshDue = false ∧ s'.lpt.slotPage = some held ∧ s'.lpt.held = some held ∧
        s'.lpt.toggleMemory = s.lpt.toggleMemory) ∧
      (s.rtm.freshDue = false → acked = false → 6 ≤ pc.sends →
        BeaconMoves t b h (c.holding pca) .timedOut [.junctionTimeout] true s s' ∧
        s'.rtm.freshDue = false ∧ s'.lpt.slotPage = none ∧ s'.lpt.held = some held ∧
        s'.lpt.toggleMemory = s.lpt.toggleMemory ∧ (HasRoom .junctionTimeout 0 s → Latched .junctionTimeout 0 s'))

/-- R107, R110 to R114, R116, R125: a beacon that is not addressed to the vehicle. In AWAITING and in SETTING, or resumed
to them from CONTACT_LOST, it raises the beacon counter, and the beacon that brings that of AWAITING to 20, or that of
SETTING to 160, takes the exchange to TIMED_OUT: JUNCTION_TIMEOUT is latched, a STATE report sent, the curve posted, the
warning requested, the red lamp lit. In QUEUED, LOCKED and the failed states it changes nothing. AWAITING_TIMEOUT and
SETTING_TIMEOUT are that page, and a page that does not time the state out has no effect as such a row (the choice of
assumption 4). -/
def Obligations.ExchangeTimeouts : Prop :=
  ∀ (t : Nat) (page : List Byte) (b : Beacon) (h : PlanEntry) (c : Context) (pc : PageContext) (st : ExState) (s : State),
    classify page = .beacon b → s.drc.driveState ≠ .unconfigured → s.rtm.plan.head? = some h → h.id = b.junction →
    s.rtm.context = some c → c.paging = some pc → s.lpt.transmitting (max s.now t) = false →
    h.state = st ∧ st ≠ .contactLost ∨ h.state = .contactLost ∧ c.resume = some st →
    (b.addressee = 0 ∨ b.addressee ≠ s.params.vehicle) →
    (st = .awaiting → 20 ≤ pc.counter + 1 →
      ∃ s', exec (.awaitingTimeout t page) s = .next s' ∧ exec (.loopPage t page) s = .next s' ∧ BeaconFrame t s s' ∧
        BeaconMoves t b h (c.holding { pc with counter := pc.counter + 1 }) .timedOut [.junctionTimeout] true s s' ∧
        s'.lpt.slotPage = none ∧ (HasRoom .junctionTimeout 0 s → Latched .junctionTimeout 0 s')) ∧
    (st = .setting → 160 ≤ pc.counter + 1 →
      ∃ s', exec (.settingTimeout t page) s = .next s' ∧ exec (.loopPage t page) s = .next s' ∧ BeaconFrame t s s' ∧
        BeaconMoves t b h (c.holding { pc with counter := pc.counter + 1 }) .timedOut [.junctionTimeout] true s s' ∧
        s'.lpt.slotPage = none ∧ (HasRoom .junctionTimeout 0 s → Latched .junctionTimeout 0 s')) ∧
    (st = .awaiting ∧ pc.counter + 1 < 20 ∨ st = .setting ∧ pc.counter + 1 < 160 →
      exec (.awaitingTimeout t page) s = .next { s with now := max s.now t } ∧
      exec (.settingTimeout t page) s = .next { s with now := max s.now t } ∧
      ∃ s', exec (.loopPage t page) s = .next s' ∧ BeaconFrame t s s' ∧
        BeaconMoves t b h (c.holding { pc with counter := pc.counter + 1 }) st [] false s s' ∧ s'.lpt.slotPage = none) ∧
    (st ∈ [.queued, .locked, .refused, .wrongLeg, .timedOut] →
      exec (.awaitingTimeout t page) s = .next { s with now := max s.now t } ∧
      exec (.settingTimeout t page) s = .next { s with now := max s.now t } ∧
      ∃ s', exec (.loopPage t page) s = .next s' ∧ BeaconFrame t s s' ∧
        BeaconMoves t b h (c.holding pc) st [] false s s' ∧ s'.lpt.slotPage = none)

/-- R107, R109 to R114, R116: a beacon that is addressed to the vehicle, in the state of the head or in that resumed from
CONTACT_LOST. Its answer is kept. Where the last page has been acknowledged, and in AWAITING and QUEUED, the answer
decides: ACCEPTED goes to SETTING and is judged by it, QUEUED to QUEUED, a REFUSED answer to REFUSED; NONE leaves the
head in AWAITING, not counted at the acknowledgement and counted after it, or in QUEUED. In SETTING a REFUSED answer
brings REFUSED; every traversed set locked at its requested position brings LOCKED, the green lamp and the passing
ceiling; every set locked but one out of place brings WRONG_LEG; else the beacon counts. In LOCKED a beacon without
every set in place loses the lock: SETTING again, JUNCTION_LOCK_LOST, the warning and the curve. The failed states keep
the answer alone. A changed state latches its fault, sends one STATE report and posts the ROUTE entry. -/
def Obligations.PointsLock : Prop :=
  ∀ (t n : Nat) (page : List Byte) (b : Beacon) (h : PlanEntry) (c : Context) (pc : PageContext) (st : ExState) (s : State)
    (refuses allLocked allPlaced : Bool) (ctx : Nat → Context),
    classify page = .beacon b → s.drc.driveState ≠ .unconfigured → s.rtm.plan.head? = some h → h.id = b.junction →
    s.rtm.context = some c → c.paging = some pc → s.lpt.transmitting (max s.now t) = false →
    h.state = st ∧ st ≠ .contactLost ∨ h.state = .contactLost ∧ c.resume = some st →
    b.addressee ≠ 0 → b.addressee = s.params.vehicle →
    st ∈ [.sending, .awaiting, .queued, .setting, .locked, .refused, .wrongLeg, .timedOut] →
    (st = .sending → s.rtm.freshDue = false ∧ pc.pages.length ≤ pc.index + 1 ∧ ∃ held, s.lpt.held = some held ∧
      b.junction = held.junction ∧ b.ackValid = true ∧ b.ackToggle = held.toggle) →
    (refuses = true ↔ b.answer ∈ [Answer.refusedBlocked, .refusedLocal, .refusedFault]) →
    (allLocked = true ↔ ∀ p ∈ pc.pages, ∃ v, b.sets[p.set]? = some v ∧ v.locked = true) →
    (allPlaced = true ↔ ∀ p ∈ pc.pages, ∃ v, b.sets[p.set]? = some v ∧ v.locked = true ∧ v.pos = some p.pos) →
    ctx = (fun k => c.holding { pc with answer := b.answer, counter := k }) → n = (if st = .setting then pc.counter else 0) →
    ∃ s', exec (.loopPage t page) s = .next s' ∧ BeaconFrame t s s' ∧ s'.rtm.freshDue = s.rtm.freshDue ∧
      s'.lpt.slotPage = none ∧ s'.lpt.held = s.lpt.held ∧ s'.lpt.toggleMemory = s.lpt.toggleMemory ∧
      (st = .sending → b.answer = .none → BeaconMoves t b h (ctx 0) .awaiting [] false s s') ∧
      (st = .awaiting → b.answer = .none → pc.counter + 1 < 20 →
        BeaconMoves t b h (ctx (pc.counter + 1)) .awaiting [] false s s') ∧
      (st = .awaiting → b.answer = .none → 20 ≤ pc.counter + 1 →
        BeaconMoves t b h (ctx (pc.counter + 1)) .timedOut [.junctionTimeout] true s s') ∧
      (st ∈ [.sending, .awaiting] → b.answer = .queued → BeaconMoves t b h (ctx 0) .queued [] false s s') ∧
      (st = .queued → b.answer ∈ [Answer.none, .queued] → BeaconMoves t b h (ctx pc.counter) .queued [] false s s') ∧
      (st ∈ [.sending, .awaiting, .queued, .setting] → refuses = true →
        BeaconMoves t b h (ctx (if st = .sending then 0 else pc.counter)) .refused [] true s s') ∧
      (st ∈ [.sending, .awaiting, .queued] ∧ b.answer = .accepted ∨ st = .setting ∧ refuses = false →
        (allPlaced = true → BeaconMoves t b h (ctx n) .locked [] false s s') ∧
        (allPlaced = false → allLocked = true → BeaconMoves t b h (ctx n) .wrongLeg [.junctionWrongLeg] true s s' ∧
          (HasRoom .junctionWrongLeg 0 s → Latched .junctionWrongLeg 0 s')) ∧
        (allLocked = false → n + 1 < 160 → BeaconMoves t b h (ctx (n + 1)) .setting [] false s s') ∧
        (allLocked = false → 160 ≤ n + 1 → BeaconMoves t b h (ctx (n + 1)) .timedOut [.junctionTimeout] true s s')) ∧
      (st = .locked → allPlaced = true → BeaconMoves t b h (ctx pc.counter) .locked [] false s s') ∧
      (st = .locked → allPlaced = false → BeaconMoves t b h (ctx 0) .setting [.junctionLockLost] true s s' ∧
        (HasRoom .junctionLockLost 0 s → Latched .junctionLockLost 0 s')) ∧
      (st ∈ [.refused, .wrongLeg, .timedOut] → BeaconMoves t b h (ctx pc.counter) st [] false s s')

/-- R88, R89, R92, R93, R115: 300 ms after the last valid beacon the contact is lost, and a head of that junction in
SENDING, AWAITING, QUEUED or SETTING goes to CONTACT_LOST with its state to resume and a STATE report. A bad beacon
raises the bad counts and, at the eighth of a contact, latches LOOP_CHECK once; another vehicle's request, whatever its
bytes, changes nothing, and no page is taken while the LPT is transmitting its own, which it does at most within 8 ms of
the beacon that its page answers (where within them is open, assumption 23). -/
def Obligations.ContactAndBadBeacons : Prop :=
  ∀ (t : Nat) (page : List Byte) (s : State),
    (∀ st, s.lpt.contactTimer = some st → st + 300000 ≤ max s.now t → ∀ jn, s.lpt.contact = some jn →
      ∃ s', exec (.contactLost t) s = .next s' ∧
        s' = { s with now := max s.now t, rtm := s'.rtm, clp := s'.clp
                      lpt := { s.lpt with contact := none, contactTimer := none } } ∧
        (∀ h ∈ s.rtm.plan.head?, ∀ c, s.rtm.context = some c → h.id = jn →
          h.state ∈ [ExState.sending, .awaiting, .queued, .setting] →
          s'.rtm = { s.rtm with plan := { h with state := .contactLost } :: s.rtm.plan.tail
                                context := some { c with resume := some h.state }
                                green := false, amber := false, red := true, flashStart := none } ∧
          s'.clp = s.clp.raise (.junction (stateReport h c .contactLost s.amu.trackMm none))) ∧
        ((∀ h ∈ s.rtm.plan.head?, h.id = jn → h.state ∉ [ExState.sending, .awaiting, .queued, .setting]) →
          s'.rtm = s.rtm ∧ s'.clp = s.clp)) ∧
    ((∀ st, s.lpt.contactTimer = some st → max s.now t < st + 300000) →
      exec (.contactLost t) s = .next { s with now := max s.now t }) ∧
    (classify page = .bad → s.lpt.transmitting (max s.now t) = false → ∃ s', exec (.loopPage t page) s = .next s' ∧
      s' = { s with
        now := max s.now t, clp := s'.clp
        rtm := { s.rtm with context := s.rtm.context.map fun c => { c with bad := min 255 (c.bad + 1) } }
        lpt := { s.lpt with
          badCount := if s.lpt.contact = none then s.lpt.badCount else min 255 (s.lpt.badCount + 1)
          checkFault := s.lpt.checkFault || (s.lpt.contact.isSome && decide (s.lpt.badCount = 7)) } } ∧
      (s.lpt.contact ≠ none → s.lpt.badCount = 7 → s.lpt.checkFault = false → HasRoom .loopCheck 0 s →
        Latched .loopCheck 0 s') ∧
      (s.lpt.contact = none ∨ s.lpt.badCount ≠ 7 ∨ s.lpt.checkFault = true → s'.clp = s.clp)) ∧
    (page.head? = some 0xA5 → exec (.loopPage t page) s = .next { s with now := max s.now t }) ∧
    (s.lpt.transmitting (max s.now t) = true →
      (s.lpt.slotPage.isSome = true ∧ ∃ st, s.lpt.contactTimer = some st ∧ st ≤ max s.now t ∧ max s.now t < st + 8000) ∧
      exec (.loopPage t page) s = .next { s with now := max s.now t } ∧
      exec (.awaitingTimeout t page) s = .next { s with now := max s.now t } ∧
      exec (.settingTimeout t page) s = .next { s with now := max s.now t })

/-- R89, R90, R94, R182: the LPT reads back every beacon that Table 10-9 can lay out, with each field at every value
it may take. A page that begins with 0xA5 is a request, whatever follows. Of any other first byte, a page of fifteen bytes
is bad where its check is wrong or a field lies out of its range: the kind, the junction id, the set count, the controller
state, the answer, or the detected position of a set below the count; else it is the beacon of its fields, its other bits
and sets not examined. A page that breaks off before its fifteenth byte is none, and changes nothing (the choice of
assumption 22). -/
def Obligations.BeaconRoundTrip : Prop :=
  (∀ b : Beacon, 1 ≤ b.junction.toNat → b.junction.toNat ≤ 4095 → 1 ≤ b.sets.length → b.sets.length ≤ 4 →
    b.controller ≤ 4 → classify (beaconBytes b) = .beacon b) ∧
  (∀ rest : List Byte, classify (0xA5 :: rest) = .request) ∧
  (∀ (kind j1 j0 count controller p0 p1 p2 p3 a1 a0 answer ack c1 c0 : Byte) (body : List Byte) (junction : Nat)
    (inRange : Bool) (sets : List Byte), kind ≠ 0xA5 →
    body = [kind, j1, j0, count, controller, p0, p1, p2, p3, a1, a0, answer, ack] →
    junction = j1.toNat * 256 + j0.toNat → sets = [p0, p1, p2, p3].take count.toNat →
    (inRange = true ↔ kind = 0x5A ∧ 1 ≤ junction ∧ junction ≤ 4095 ∧ 1 ≤ count.toNat ∧ count.toNat ≤ 4 ∧
      controller.toNat ≤ 4 ∧ answer.toNat ≤ 5 ∧ ∀ p ∈ sets, p.toNat % 4 ≠ 3) →
    (classify (body ++ [c1, c0]) = .bad ↔ [c1, c0] ≠ halfBytes (crc 0xFFFF body) ∨ inRange = false) ∧
    ([c1, c0] = halfBytes (crc 0xFFFF body) → inRange = true → ∃ b, classify (body ++ [c1, c0]) = .beacon b ∧
      b.junction.toNat = junction ∧ b.controller = controller.toNat ∧ b.addressee.toNat = a1.toNat * 256 + a0.toNat ∧
      answerByte b.answer = answer ∧ b.ackValid = ack.getLsbD 0 ∧ b.ackToggle = ack.getLsbD 1 ∧
      b.sets = sets.map fun p => SetView.mk
        (if p.toNat % 4 = 0 then none else if p.toNat % 4 = 1 then some PointPos.normal else some PointPos.reverse)
        (p.getLsbD 2))) ∧
  (∀ (t : Nat) (page : List Byte) (s : State), page.head? ≠ some 0xA5 → page.length < 15 →
    classify page = .incomplete ∧ exec (.loopPage t page) s = .next { s with now := max s.now t })

/-! ## Stop requests and doors (Chapters 7 and 8) -/

/-- R128, R130, R131: a raw change that differs from the level starts the settle timer, one that returns stops it. At
40 ms the level takes the raw value: a release starts the recovery timer of a stuck button and stops its hold timer; a
press of a button that is not mapped, or isolated, or stuck leaves no timer running and nothing else changed (TakenPress
states that of a button in service). At 20 000 ms of hold the button is
stuck and BUTTON_STUCK is latched; at 2000 ms of recovery it is in service again and the fault set is told. Before its
limit an expiry has no effect. -/
def Obligations.ButtonTimers : Prop :=
  ∀ (t now : Nat) (i : Fin 16) (raw mapped : Bool) (s : State) (c : Conditioner), max s.now t = now →
    s.sdu.buttons[i] = c → (mapped = true ↔ 64 ≤ (s.params.buttonMap[i]).toNat) →
    (raw = c.raw → exec (.buttonInputChange t i raw) s = .next { s with now := now }) ∧
    (raw ≠ c.raw → exec (.buttonInputChange t i raw) s = .next { s with
      now := now
      sdu := { s.sdu with buttons := s.sdu.buttons.set i { c with
        raw := raw, settle := if raw = c.level then none else some now } } }) ∧
    (∀ st, c.settle = some st →
      (now < st + 40000 → exec (.settleTimerExpiry t i) s = .next { s with now := now }) ∧
      (st + 40000 ≤ now → c.raw = false → c.level = true → c.recovery = none →
        exec (.settleTimerExpiry t i) s = .next { s with
          now := now
          sdu := { s.sdu with buttons := s.sdu.buttons.set i { c with
            level := false, settle := none, hold := none, recovery := if c.stuck then some now else none } } }) ∧
      (st + 40000 ≤ now → c.raw = true → c.level = false → mapped = false ∨ c.isolated = true ∨ c.stuck = true →
        exec (.settleTimerExpiry t i) s = .next { s with
          now := now
          sdu := { s.sdu with buttons := s.sdu.buttons.set i { c with
            level := true, settle := none, hold := none, recovery := none } } })) ∧
    (c.settle = none → exec (.settleTimerExpiry t i) s = .next { s with now := now }) ∧
    (∀ st, c.hold = some st →
      (now < st + 20000000 → exec (.holdTimerExpiry t i) s = .next { s with now := now }) ∧
      (st + 20000000 ≤ now → c.level = true →
        ∃ s', exec (.holdTimerExpiry t i) s = .next s' ∧
          s' = { s with
            now := now, clp := s'.clp
            sdu := { s.sdu with buttons := s.sdu.buttons.set i { c with stuck := true, hold := none, recovery := none } } } ∧
          (HasRoom .buttonStuck i.val s → Latched .buttonStuck i.val s'))) ∧
    (c.hold = none → exec (.holdTimerExpiry t i) s = .next { s with now := now }) ∧
    (∀ st, c.recovery = some st →
      (now < st + 2000000 → exec (.recoveryTimerExpiry t i) s = .next { s with now := now }) ∧
      (st + 2000000 ≤ now → c.level = false →
        ∃ s', exec (.recoveryTimerExpiry t i) s = .next s' ∧
          s' = { s with
            now := now, clp := { s.clp with faults := s'.clp.faults }
            sdu := { s.sdu with buttons := s.sdu.buttons.set i { c with stuck := false, hold := none, recovery := none } } } ∧
          (∀ e ∈ s'.clp.faults, e.code = .buttonStuck → e.index = i.val → e.active = false))) ∧
    (c.recovery = none → exec (.recoveryTimerExpiry t i) s = .next { s with now := now })

/-- R129, R130, R134, R135, R138, R139, R140, R146, R148: a taken press of a button in service starts its hold timer
and is a stop request. A door on the side of a release session is not listed: in RELEASED its ENABLED output opens,
with a DOORS report, and in CLOSING the press is reported as late. Any other door joins the stop list at the tail or
merges into its entry; a change sets the lamps, sends a STOPS report and, from an empty list, requests the chime; a
request that changes nothing does none of it. -/
def Obligations.TakenPress : Prop :=
  ∀ (t now : Nat) (i : Fin 16) (door : Fin 8) (kind : StopKind) (s s1 : State) (c : Conditioner) (inSession : Bool)
    (after : List StopEntry),
    max s.now t = now → s.sdu.buttons[i] = c → (∃ st, c.settle = some st ∧ st + 40000 ≤ now) →
    c.raw = true → c.level = false → c.isolated = false → c.stuck = false → c.hold = none →
    mapping s.params i = some (door, kind) →
    (inSession = true ↔ s.sdu.door = .released (doorSide s.params door) ∨ s.sdu.door = .closing (doorSide s.params door)) →
    after = (if ∃ e ∈ s.sdu.stops, e.door = door then
        s.sdu.stops.map (fun e => if e.door = door then { e with
          alight := e.alight || decide (kind = .alight), board := e.board || decide (kind = .board)
          access := e.access || decide (kind = .access), count := min 255 (e.count + 1) } else e)
      else s.sdu.stops ++ [{ door := door, alight := decide (kind = .alight), board := decide (kind = .board)
                             access := decide (kind = .access), count := 1 }]) →
    s1 = { s with now := now, sdu := { s.sdu with buttons := s.sdu.buttons.set i { c with
      level := true, settle := none, hold := some now, recovery := none } } } →
    (inSession = true → s.sdu.door = .released (doorSide s.params door) → s.sdu.outputs[door] = .enabled →
      exec (.settleTimerExpiry t i) s = .next { s1 with
        sdu := { s1.sdu with outputs := s.sdu.outputs.set door .opened }
        clp := s.clp.raise (.doors (.output door i) s.sdu.door
          { s.sdu.view with outputs := s.sdu.outputs.set door .opened }) }) ∧
    (inSession = true → s.sdu.door = .released (doorSide s.params door) → s.sdu.outputs[door] ≠ .enabled →
      exec (.settleTimerExpiry t i) s = .next s1) ∧
    (inSession = true → s.sdu.door = .closing (doorSide s.params door) →
      exec (.settleTimerExpiry t i) s = .next { s1 with
        clp := s.clp.raise (.doors (.latePress door i) s.sdu.door s.sdu.view) }) ∧
    (inSession = false → after = s.sdu.stops → exec (.settleTimerExpiry t i) s = .next s1) ∧
    (inSession = false → after ≠ s.sdu.stops → ∀ s2 : State,
      s2 = { s1 with
        sdu := { s1.sdu with stops := after, stopLamp := true, rampLamp := after.any fun e => e.access }
        clp := s.clp.raise (.stops (if ∃ e ∈ s.sdu.stops, e.door = door then .merged door i kind else .added door i kind)
          after true (after.any fun e => e.access)) } →
      (s.sdu.stops ≠ [] → exec (.settleTimerExpiry t i) s = .next s2) ∧
      (s.sdu.stops = [] → exec (.settleTimerExpiry t i) s = .next (s2.sound .cab 4 2 .stops (.count 1))))

/-- R132, R136, R138: BUTTON_ISOLATE with an index or an action that is neither is refused OUT_OF_RANGE; ISOLATE takes
the button out of service with its timers stopped, no longer stuck; RESTORE returns it, with the hold timer from 0
where it is mapped and its level ACTIVE; either of them on a button that is so already changes no state. STOP_CLEAR of
a door that is not listed is refused NOT_FOUND; it removes a listed entry, or all of them, with the lamps and one
STOPS report, and the reply stands behind that report (the choice of assumption 9). -/
def Obligations.StopCommands : Prop :=
  ∀ (t : Nat) (tag index action target : Byte) (s s1 : State), LinkReady s → s1 = { s with now := max s.now t } →
    (15 < index.toNat ∨ 1 < action.toNat →
      ∃ n, exec (.buttonIsolate t tag index action) s = .next (s.answered t 0x13 tag (.range n))) ∧
    (∀ i : Fin 16, index.toNat = i.val → ∀ c, s.sdu.buttons[i] = c →
      (c.isolated = true → c.stuck = false → c.hold = none → c.recovery = none → action.toNat = 0 →
        exec (.buttonIsolate t tag index action) s = .next (s.answered t 0x13 tag
          (.ok (.button i.val (mapping s.params i) c.level .isolated)))) ∧
      (c.isolated = false → action.toNat = 0 →
        ∃ s', exec (.buttonIsolate t tag index action) s = .next s' ∧
          s' = { s1 with
            clp := { s.clp with faults := s'.clp.faults, outbound := s'.clp.outbound }
            sdu := { s.sdu with buttons := s.sdu.buttons.set i { c with
              isolated := true, stuck := false, hold := none, recovery := none } } } ∧
          s'.clp.outbound = s.clp.outbound ++
            [replyFrame 0x13 tag (.ok (.button i.val (mapping s.params i) c.level .isolated))] ∧
          (c.stuck = true → ∀ e ∈ s'.clp.faults, e.code = .buttonStuck → e.index = i.val → e.active = false) ∧
          (c.stuck = false → s'.clp.faults = s.clp.faults)) ∧
      (c.isolated = true → c.stuck = false → c.hold = none → c.recovery = none → action.toNat = 1 →
        exec (.buttonIsolate t tag index action) s = .next { s1 with
          sdu := { s.sdu with buttons := s.sdu.buttons.set i { c with
            isolated := false, hold := if c.level ∧ (mapping s.params i).isSome then some (max s.now t) else none } }
          clp := { s.clp with outbound := s.clp.outbound ++ [replyFrame 0x13 tag (.ok (.button i.val (mapping s.params i)
            c.level (if (mapping s.params i).isSome then .inService else .unused)))] } }) ∧
      (c.isolated = false → c.hold.isSome = holdRuns s.params i c → c.recovery.isSome = (c.stuck && !c.level) →
        action.toNat = 1 → exec (.buttonIsolate t tag index action) s = .next (s.answered t 0x13 tag
          (.ok (.button i.val (mapping s.params i) c.level (service s.params i c)))))) ∧
    (7 < target.toNat → target.toNat ≠ 255 →
      ∃ n, exec (.stopClear t tag target) s = .next (s.answered t 0x12 tag (.range n))) ∧
    (∀ d : Fin 8, target.toNat = d.val → (∀ e ∈ s.sdu.stops, e.door ≠ d) →
      exec (.stopClear t tag target) s = .next (s.answered t 0x12 tag (.plain .notFound))) ∧
    (∀ d : Fin 8, target.toNat = d.val → (∃ e ∈ s.sdu.stops, e.door = d) →
      ∀ after, after = s.sdu.stops.filter (fun e => decide (e.door ≠ d)) →
      exec (.stopClear t tag target) s = .next { s1 with
        sdu := { s.sdu with stops := after, stopLamp := !after.isEmpty, rampLamp := after.any fun e => e.access }
        clp := { s.clp.raise (.stops (.cleared d) after (!after.isEmpty) (after.any fun e => e.access)) with
          outbound := (s.clp.raise (.stops (.cleared d) after (!after.isEmpty) (after.any fun e => e.access))).outbound ++
            [replyFrame 0x12 tag (.ok (.stopsCleared (s.sdu.stops.length - after.length) after.length))] } }) ∧
    (target.toNat = 255 → s.sdu.stops = [] →
      exec (.stopClear t tag target) s = .next (s.answered t 0x12 tag (.ok (.stopsCleared 0 0)))) ∧
    (target.toNat = 255 → s.sdu.stops ≠ [] →
      exec (.stopClear t tag target) s = .next { s1 with
        sdu := { s.sdu with stops := [], stopLamp := false, rampLamp := false }
        clp := { s.clp.raise (.stops .clearedAll [] false false) with
          outbound := (s.clp.raise (.stops .clearedAll [] false false)).outbound ++
            [replyFrame 0x12 tag (.ok (.stopsCleared s.sdu.stops.length 0))] } })

/-- R142, R144, R145, R148, R152: a taken press of a release button, and what each door state does with it. In NONE an
allowed release posts the DOORS entry as HOLD, opens the listed doors of its side and enables the others, takes their
entries from the list with a STOPS report, and is RELEASED with a DOORS report; one that is not allowed changes no
state and requests CAB_REFUSE. In CLOSING of the same side it is a re-release. A press that has not stood, or comes
before the button was inactive again, does nothing, and before the first CONFIGURE it is discarded. R142, R147, R148,
R149: a taken press of the close button in RELEASED closes every output, starts the close timer and is CLOSING; with
every door locked the closing completes at once. In any other state it is ignored. The return of a door button to
inactive arms its next press. At the close timeout the timer stops and DOOR_CLOSE_TIMEOUT is latched; the door state
stays. -/
def Obligations.ReleaseAndClose : Prop :=
  (∀ (t stood : Nat) (side : Side) (s s1 : State) (b : DoorButton) (allowed : Bool) (outs : Vector DoorOutput 8)
    (gone kept : List StopEntry),
    (side = .left ∧ b = .releaseLeft ∨ side = .right ∧ b = .releaseRight) →
    s1 = { s with now := max s.now t, sdu := s.sdu.arm b false } →
    (allowed = true ↔ s.drc.driveState ≠ .unconfigured ∧
      (s.amu.atStandstill = true ∨ s.drc.refClass = .lost ∧ 5000 ≤ s.drc.brakeHeld) ∧ s.rtm.zone = false ∧
      (∃ d : Fin 8, doorSide s.params d = side) ∧ s.sdu.bypass = false) →
    outs = (Vector.ofFn fun d => if doorSide s.params d ≠ side then .closed
      else if ∃ e ∈ s.sdu.stops, e.door = d then .opened else .enabled) →
    gone = s.sdu.stops.filter (fun e => decide (doorSide s.params e.door = side)) →
    kept = s.sdu.stops.filter (fun e => decide (doorSide s.params e.door ≠ side)) →
    (stood < 40 ∨ s.sdu.armed b = false →
      exec (.releasePress t stood side) s = .next { s with now := max s.now t }) ∧
    (40 ≤ stood → s.sdu.armed b = true → s.configured = false → exec (.releasePress t stood side) s = .next s1) ∧
    (40 ≤ stood → s.sdu.armed b = true → s.configured = true →
      (s.sdu.door = .none → allowed = true → ∃ s', exec (.releasePress t stood side) s = .next s' ∧
        s' = { s1 with drc := (s.post .doors .hold 0 0xE4).drc, sdu := s'.sdu, clp := s'.clp } ∧
        s'.sdu = { s1.sdu with
          door := .released side, outputs := outs, stops := s'.sdu.stops, stopLamp := s'.sdu.stopLamp
          rampLamp := s'.sdu.rampLamp } ∧
        (gone = [] → s'.sdu.stops = s.sdu.stops ∧ s'.sdu.stopLamp = s.sdu.stopLamp ∧
          s'.sdu.rampLamp = s.sdu.rampLamp ∧
          s'.clp = (s.post .doors .hold 0 0xE4).clp.raise (.doors .state .none s'.sdu.view)) ∧
        (gone ≠ [] → s'.sdu.stops = kept ∧ s'.sdu.stopLamp = !kept.isEmpty ∧
          s'.sdu.rampLamp = kept.any (fun e => e.access) ∧
          s'.clp = ((s.post .doors .hold 0 0xE4).clp.raise (.stops (.released side (gone.map fun e => e.door)) kept
            (!kept.isEmpty) (kept.any fun e => e.access))).raise (.doors .state .none s'.sdu.view))) ∧
      (s.sdu.door = .none ∧ allowed = false ∨ s.sdu.door = .unsafe_ ∨ s.sdu.door = .bypassed ∨
          (∃ x, x ≠ side ∧ (s.sdu.door = .released x ∨ s.sdu.door = .closing x)) →
        exec (.releasePress t stood side) s = .next (s1.sound .cab 7 3 .doors (.count 0))) ∧
      (s.sdu.door = .released side → exec (.releasePress t stood side) s = .next s1) ∧
      (s.sdu.door = .closing side →
        ∀ d : Sdu, d = { s1.sdu with
          door := .released side, closeTimer := none
          outputs := Vector.ofFn fun d => if doorSide s.params d = side then .enabled else .closed } →
        exec (.releasePress t stood side) s = .next { s1 with
          sdu := d, clp := s.clp.raise (.doors .state (.closing side) d.view) }))) ∧
  (∀ (t stood : Nat) (b : DoorButton) (side : Side) (s s1 : State) (d : Sdu),
    s1 = { s with now := max s.now t, sdu := s.sdu.arm .close false } →
    d = { s1.sdu with door := .closing side, outputs := Vector.replicate 8 .closed, closeTimer := some (max s.now t) } →
    (stood < 40 ∨ s.sdu.armedClose = false → exec (.closePress t stood) s = .next { s with now := max s.now t }) ∧
    (40 ≤ stood → s.sdu.armedClose = true → s.configured = false ∨ s.sdu.door = .none ∨ s.sdu.door = .unsafe_ ∨
      s.sdu.door = .bypassed ∨ (∃ x, s.sdu.door = .closing x) → exec (.closePress t stood) s = .next s1) ∧
    (40 ≤ stood → s.sdu.armedClose = true → s.configured = true → s.sdu.door = .released side →
      (∃ i : Fin 8, s.sdu.locked[i] = false) →
      exec (.closePress t stood) s = .next { s1 with
        sdu := d, clp := s.clp.raise (.doors .state (.released side) d.view) }) ∧
    (40 ≤ stood → s.sdu.armedClose = true → s.configured = true → s.sdu.door = .released side →
      (∀ i : Fin 8, s.sdu.locked[i] = true) →
      ∃ s', exec (.closePress t stood) s = .next s' ∧
        s' = { s1 with sdu := { d with door := .none, closeTimer := none }
                       drc := (s.lift .doors).drc, tnu := s'.tnu, clp := s'.clp } ∧
        (s.params.departureBell = 0 → s'.tnu = s.tnu) ∧
        (s.params.departureBell ≠ 0 → s'.tnu = (s1.sound .bell 1 4 .doors (.count 0)).tnu)) ∧
    exec (.cabDoorButtonInactive t stood b) s = .next { s with
      now := max s.now t, sdu := if 40 ≤ stood then s.sdu.arm b true else s.sdu } ∧
    ((∃ st, s.sdu.closeTimer = some st ∧ st + s.params.closeTimeout.toNat * 1000000 ≤ max s.now t) →
      ∃ s', exec (.closeTimerExpiry t) s = .next s' ∧
        s' = { s with now := max s.now t, sdu := { s.sdu with closeTimer := none }, clp := s'.clp } ∧
        (HasRoom .doorCloseTimeout 0 s → Latched .doorCloseTimeout 0 s')) ∧
    ((∀ st, s.sdu.closeTimer = some st → max s.now t < st + s.params.closeTimeout.toNat * 1000000) →
      exec (.closeTimerExpiry t) s = .next { s with now := max s.now t }))

/-- R142, R143, R146, R149, R150, R152: a taken change of a door input. Before the first CONFIGURE its level alone is
kept. A door taken as not locked takes NONE to UNSAFE under HOLD, or on to BYPASSED with the switch ON, and latches
DOOR_UNLOCKED there, in UNSAFE, in BYPASSED and on the side away from a session, but not on its own. A door taken as
locked tells the fault set, and the last of them completes CLOSING, with the departure bell, or returns UNSAFE to
NONE; the DOORS entry is lifted. R142, R143, R151: the bypass switch turned ON in RELEASED, CLOSING or UNSAFE closes
every output, stops the close timer, posts the DOORS entry as the bypass CEILING and enters BYPASSED, with DOOR_BYPASS
latched and DOOR_UNLOCKED for the doors of a session's side that are not locked; elsewhere only its level changes.
Turned OFF in BYPASSED it returns to NONE with every door locked, or to UNSAFE under HOLD with DOOR_UNLOCKED for each
door that is not; elsewhere only its level changes. -/
def Obligations.DoorsAndBypass : Prop :=
  (∀ (t stood : Nat) (door : Fin 8) (locked last : Bool) (s s1 : State),
    s1 = { s with now := max s.now t, sdu := { s.sdu with locked := s.sdu.locked.set door locked } } →
    (last = true ↔ locked = true ∧ ∀ i : Fin 8, i = door ∨ s.sdu.locked[i] = true) →
    (stood < 40 ∨ s.sdu.locked[door] = locked →
      exec (.doorInputChange t stood door locked) s = .next { s with now := max s.now t }) ∧
    (40 ≤ stood → s.sdu.locked[door] ≠ locked → s.configured = false →
      exec (.doorInputChange t stood door locked) s = .next s1) ∧
    (40 ≤ stood → s.sdu.locked[door] ≠ locked → s.configured = true →
      ∃ s', exec (.doorInputChange t stood door locked) s = .next s' ∧
        s' = { s1 with drc := s'.drc, sdu := s'.sdu, tnu := s'.tnu, clp := s'.clp } ∧
        (locked = true → ∀ e ∈ s'.clp.faults, e.code = .doorUnlocked → e.index = door.val → e.active = false) ∧
        (last = true → (∃ x, s.sdu.door = .closing x) →
          s'.sdu = { s1.sdu with door := .none, closeTimer := none } ∧ s'.drc = (s.lift .doors).drc ∧
          s'.tnu = (if s.params.departureBell = 0 then s.tnu else (s1.sound .bell 1 4 .doors (.count 0)).tnu)) ∧
        (last = true → s.sdu.door = .unsafe_ →
          s'.sdu = { s1.sdu with door := .none } ∧ s'.drc = (s.lift .doors).drc ∧ s'.tnu = s.tnu) ∧
        (locked = true → last = false ∨ s.sdu.door = .none ∨ s.sdu.door = .bypassed ∨
            (∃ x, s.sdu.door = .released x) →
          s'.sdu = s1.sdu ∧ s'.drc = s.drc ∧ s'.tnu = s.tnu ∧ s'.clp = { s.clp with faults := s'.clp.faults }) ∧
        (locked = false → s.sdu.door = .none → s.sdu.bypass = false →
          s'.sdu = { s1.sdu with door := .unsafe_ } ∧ s'.drc = (s.post .doors .hold 0 0xE4).drc ∧ s'.tnu = s.tnu ∧
          (s.clp.faults.length < 31 → Latched .doorUnlocked door.val s')) ∧
        (locked = false → s.sdu.door = .none → s.sdu.bypass = true →
          s'.sdu = { s1.sdu with door := .bypassed, closeTimer := none, outputs := Vector.replicate 8 .closed } ∧
          s'.drc = ((s.post .doors .hold 0 0xE4).post .doors .ceiling s.params.bypassCeil.toNat 0xE5).drc ∧
          s'.tnu = s.tnu ∧
          (s.clp.faults.length < 31 → Latched .doorUnlocked door.val s' ∧ Latched .doorBypass 0 s')) ∧
        (locked = false → s.sdu.door ≠ .none → s'.sdu = s1.sdu ∧ s'.drc = s.drc ∧ s'.tnu = s.tnu ∧
          (s.sdu.door.session = some (doorSide s.params door) → s'.clp = s.clp) ∧
          (s.sdu.door.session ≠ some (doorSide s.params door) → HasRoom .doorUnlocked door.val s →
            Latched .doorUnlocked door.val s')))) ∧
  (∀ (t stood : Nat) (s : State),
    (stood < 40 ∨ s.sdu.bypass = true → exec (.bypassOn t stood) s = .next { s with now := max s.now t }) ∧
    (stood < 40 ∨ s.sdu.bypass = false → exec (.bypassOff t stood) s = .next { s with now := max s.now t }) ∧
    (40 ≤ stood → s.sdu.bypass = false → s.configured = false ∨ s.sdu.door = .none ∨ s.sdu.door = .bypassed →
      exec (.bypassOn t stood) s = .next { s with now := max s.now t, sdu := { s.sdu with bypass := true } }) ∧
    (40 ≤ stood → s.sdu.bypass = true → s.configured = false ∨ s.sdu.door ≠ .bypassed →
      exec (.bypassOff t stood) s = .next { s with now := max s.now t, sdu := { s.sdu with bypass := false } }) ∧
    (40 ≤ stood → s.sdu.bypass = false → s.configured = true → s.sdu.door ≠ .none → s.sdu.door ≠ .bypassed →
      ∃ s', exec (.bypassOn t stood) s = .next s' ∧
        s' = { s with
          now := max s.now t, clp := s'.clp
          drc := (s.post .doors .ceiling s.params.bypassCeil.toNat 0xE5).drc
          sdu := { s.sdu with
            bypass := true, door := .bypassed, closeTimer := none, outputs := Vector.replicate 8 .closed } } ∧
        (s.clp.faults.length < 24 → Latched .doorBypass 0 s' ∧
          ∀ d : Fin 8, s.sdu.door.session = some (doorSide s.params d) → s.sdu.locked[d] = false →
            Latched .doorUnlocked d.val s')) ∧
    (40 ≤ stood → s.sdu.bypass = true → s.configured = true → s.sdu.door = .bypassed →
      ∃ s', exec (.bypassOff t stood) s = .next s' ∧
        s' = { s with
          now := max s.now t, clp := s'.clp, drc := s'.drc
          sdu := { s.sdu with bypass := false, door := s'.sdu.door } } ∧
        (∀ e ∈ s'.clp.faults, e.code = .doorBypass → e.index = 0 → e.active = false) ∧
        ((∀ d : Fin 8, s.sdu.locked[d] = true) → s'.sdu.door = .none ∧ s'.drc = (s.lift .doors).drc) ∧
        ((∃ d : Fin 8, s.sdu.locked[d] = false) → s'.sdu.door = .unsafe_ ∧ s'.drc = (s.post .doors .hold 0 0xE4).drc ∧
          (s.clp.faults.length < 24 → ∀ d : Fin 8, s.sdu.locked[d] = false → Latched .doorUnlocked d.val s'))))

/-! ## Bell, horn and cab tones (Chapter 9) -/

/-- R154, R155, R163, R164, R165, R169: a request that arrives at a sound channel. A request of its key that plays or is
saved takes its mode. With no such key it takes the next arrival rank, at 256 after the waiting requests have been
renumbered from 0, also where it is then discarded (assumption 30). It plays at once on an idle channel or above the
playing priority, the interrupted context going on top of the stack with its time frozen and the oldest of a full stack
discarded: SOUND_DROPPED is latched, and one of source LINK gets the SOUND report DROPPED. Otherwise it waits behind every
request of its priority or above, a full queue giving up its last for it, one of source LINK with the report DISPLACED,
unless none is lower, when the request is discarded. A waiting request of its key is replaced and keeps its arrival rank.
The other channels, the patterns and the load buffer stay as they are. A SILENT output starts a tone period at once where
the step then in force has one, and a period in progress is not cut short. The frozen time is the remaining time less the
whole ms that have passed (the choice of assumption 14). -/
def Obligations.RequestArrives : Prop :=
  ∀ (ch : ChannelId) (r : Request) (s s' : State) (out : SoundOutcome) (c c' : Channel) (fresh : Playing)
    (rest ranked : List Request) (rank : Nat),
    s.requestSound ch r = (s', out) → s.tnu.channel ch = c → s'.tnu.channel ch = c' → ChannelSound c →
    rank = (if c.nextRank ≤ 255 then c.nextRank else c.queue.length) →
    ranked = (if c.nextRank ≤ 255 then c.queue else c.queue.mapIdx fun i q => { q with rank := i }) →
    fresh = { since := s.now, saved := Saved.mk { r with rank := rank } 0 0 (stepOf (s.tnu.pattern r.pattern) 0).duration } →
    rest = c.queue.filter (fun q => decide (¬(q.source = r.source ∧ q.pattern = r.pattern))) →
    s' = { s with tnu := s.tnu.setChannel ch c', clp := s'.clp } ∧ OutputFollows s.tnu.pattern s.now c c' ∧
    (∀ o : ChannelId, o ≠ ch → s'.tnu.channel o = s.tnu.channel o) ∧ s'.tnu.patterns = s.tnu.patterns ∧
    (∀ p, c.playing = some p → p.saved.req.source = r.source ∧ p.saved.req.pattern = r.pattern →
      out = .updated ∧ c'.queue = c.queue ∧ c'.stack = c.stack ∧ c'.nextRank = c.nextRank ∧ s'.clp = s.clp ∧
      c'.playing = some { p with saved := { p.saved with req := { p.saved.req with mode := r.mode } } }) ∧
    ((∃ sv ∈ c.stack, sv.req.source = r.source ∧ sv.req.pattern = r.pattern) →
      out = .updated ∧ c'.playing = c.playing ∧ c'.queue = c.queue ∧ c'.nextRank = c.nextRank ∧ s'.clp = s.clp ∧
      c'.stack = c.stack.map fun sv =>
        if sv.req.source = r.source ∧ sv.req.pattern = r.pattern then { sv with req := { sv.req with mode := r.mode } }
        else sv) ∧
    ((r.source, r.pattern) ∉ c.keys → c'.nextRank = rank + 1 ∧
      (c.playing = none → out = .started ∧ c'.playing = some fresh ∧ c'.stack = [] ∧ c'.queue = [] ∧ s'.clp = s.clp) ∧
      (∀ p, c.playing = some p →
        (p.saved.req.priority < r.priority → out = .started ∧ c'.playing = some fresh ∧ c'.queue = ranked ∧
          c'.stack = { p.saved with remaining := p.saved.remaining - (s.now - p.since) / 1000 } ::
            (if c.stack.length = 3 then c.stack.dropLast else c.stack) ∧
          (c.stack.length < 3 → s'.clp = s.clp) ∧
          (c.stack.length = 3 → HasRoom .soundDropped 0 s → Latched .soundDropped 0 s') ∧
          (∀ old, c.stack.length = 3 → c.stack.getLast? = some old → s'.clp = s.dropped ch old)) ∧
        (r.priority ≤ p.saved.req.priority → c'.playing = c.playing ∧ c'.stack = c.stack ∧
          ∀ n, n = c.queue.countP (fun q => decide (r.priority ≤ q.priority)) →
            (c.queue.length < 6 → out = .waiting n ∧ s'.clp = s.clp ∧
              c'.queue = ranked.take n ++ { r with rank := rank } :: ranked.drop n) ∧
            (c.queue.length = 6 → n < 6 → out = .waiting n ∧
              c'.queue = ranked.take n ++ { r with rank := rank } :: (ranked.drop n).dropLast ∧
              ∀ low, c.queue.getLast? = some low → s'.clp = s.clp.soundLeft ch .displaced low 0) ∧
            (c.queue.length = 6 → n = 6 → out = .full ∧ c'.queue = ranked ∧ s'.clp = s.clp)))) ∧
    (∀ old ∈ c.queue, old.source = r.source ∧ old.pattern = r.pattern → c'.nextRank = c.nextRank ∧
      ∀ p, c.playing = some p →
      (p.saved.req.priority < r.priority → out = .started ∧ c'.queue = rest ∧
        c'.playing = some { fresh with saved := { fresh.saved with req := { r with rank := old.rank } } } ∧
        c'.stack = { p.saved with remaining := p.saved.remaining - (s.now - p.since) / 1000 } ::
          (if c.stack.length = 3 then c.stack.dropLast else c.stack) ∧
        (c.stack.length < 3 → s'.clp = s.clp) ∧
        (∀ low, c.stack.length = 3 → c.stack.getLast? = some low → s'.clp = s.dropped ch low)) ∧
      (r.priority ≤ p.saved.req.priority → c'.playing = c.playing ∧ c'.stack = c.stack ∧ s'.clp = s.clp ∧
        ∀ n, n = rest.countP (fun q =>
          decide (r.priority < q.priority ∨ r.priority = q.priority ∧ q.rank < old.rank)) →
        out = .waiting n ∧ c'.queue = rest.take n ++ { r with rank := old.rank } :: rest.drop n))

/-- R154, R162, R166, R167: an end request removes the request of its key, playing, saved or waiting, and one that is not
there changes nothing. After a playing context has ended, the queue head of strictly greater priority than the top of the
stack plays from step 0, or else the top of the stack resumes with the time it was saved with; with both empty the
channel is idle. A context that was saved with no time left moves on at once: to its next step or repeat, or, completed,
it leaves with its SOUND report and the channel chooses again (within the one event by assumption 32). A SILENT output
starts a tone period at once where the step then in force has one, never of a step with no time left (the choice of
assumption 40), and a period in progress is not cut short. R160, R167: a taken press of the horn button requests HORN_STEADY on HORN and of the bell pedal
BELL_RING on BELL, HELD, at the priorities of Table 9-2; a taken release ends that request; a change that has not
stood for 20 ms, or is none, does nothing. -/
def Obligations.SoundsEnd : Prop :=
  (∀ (ch : ChannelId) (source : Source) (pattern : Nat) (s s' : State) (c c' : Channel),
    s' = s.endSound ch source pattern → s.tnu.channel ch = c → s'.tnu.channel ch = c' → ChannelSound c →
    s' = { s with tnu := s.tnu.setChannel ch c', clp := s'.clp } ∧ OutputFollows s.tnu.pattern s.now c c' ∧
    c'.nextRank = c.nextRank ∧ (∀ o : ChannelId, o ≠ ch → s'.tnu.channel o = s.tnu.channel o) ∧
    ((source, pattern) ∉ c.keys → c'.playing = c.playing ∧ c'.stack = c.stack ∧ c'.queue = c.queue ∧ s'.clp = s.clp) ∧
    (∀ p, c.playing = some p → p.saved.req.source = source ∧ p.saved.req.pattern = pattern →
      (c.stack = [] → c.queue = [] → c'.playing = none ∧ c'.stack = [] ∧ c'.queue = [] ∧ s'.clp = s.clp) ∧
      (∀ r, c.queue.head? = some r → (∀ top ∈ c.stack.head?, top.req.priority < r.priority) →
        c'.playing = some { saved := Saved.mk r 0 0 (stepOf (s.tnu.pattern r.pattern) 0).duration, since := s.now } ∧
        c'.queue = c.queue.tail ∧ c'.stack = c.stack ∧ s'.clp = s.clp) ∧
      (∀ top, c.stack.head? = some top → (∀ r ∈ c.queue.head?, r.priority ≤ top.req.priority) →
        (top.remaining ≠ 0 → c'.playing = some { saved := top, since := s.now } ∧ c'.stack = c.stack.tail ∧
          c'.queue = c.queue ∧ s'.clp = s.clp) ∧
        (top.remaining = 0 → ∀ pat, s.tnu.pattern top.req.pattern = some pat → ∀ target, RepeatTarget pat top.req.mode target →
          (pat.steps.length ≤ top.step + 1 → (∃ m, target = some m ∧ m ≤ top.repeats + 1) →
            s' = State.endSound ch source pattern { s with
              tnu := s.tnu.setChannel ch { c with stack := c.stack.tail }
              clp := s.clp.soundLeft ch .completed top.req (min 15 (top.repeats + 1)) }) ∧
          (top.step + 1 < pat.steps.length ∨ (∀ n, target = some n → top.repeats + 1 < n) →
            c'.stack = c.stack.tail ∧ c'.queue = c.queue ∧ s'.clp = s.clp ∧
            c'.playing = some { since := s.now, saved := if top.step + 1 < pat.steps.length then { top with
              step := top.step + 1, remaining := (stepOf (some pat) (top.step + 1)).duration }
            else { top with
              step := 0, repeats := min 15 (top.repeats + 1), remaining := (stepOf (some pat) 0).duration } })))) ∧
    ((∃ sv ∈ c.stack, sv.req.source = source ∧ sv.req.pattern = pattern) →
      c'.playing = c.playing ∧ c'.queue = c.queue ∧ s'.clp = s.clp ∧
      c'.stack = c.stack.filter fun sv => decide (¬(sv.req.source = source ∧ sv.req.pattern = pattern))) ∧
    ((∃ r ∈ c.queue, r.source = source ∧ r.pattern = pattern) →
      c'.playing = c.playing ∧ c'.stack = c.stack ∧ s'.clp = s.clp ∧
      c'.queue = c.queue.filter fun r => decide (¬(r.source = source ∧ r.pattern = pattern)))) ∧
  (∀ (t stood : Nat) (pressed : Bool) (s horn bell : State),
    horn = { s with now := max s.now t, tnu := { s.tnu with hornDown := pressed } } →
    bell = { s with now := max s.now t, tnu := { s.tnu with pedalDown := pressed } } →
    (stood < 20 ∨ s.tnu.hornDown = pressed →
      exec (.hornButtonChange t stood pressed) s = .next { s with now := max s.now t }) ∧
    (20 ≤ stood → s.tnu.hornDown ≠ pressed → exec (.hornButtonChange t stood pressed) s =
      .next (if pressed then horn.sound .horn 3 6 .driverHorn .held else horn.endSound .horn .driverHorn 3)) ∧
    (stood < 20 ∨ s.tnu.pedalDown = pressed →
      exec (.bellPedalChange t stood pressed) s = .next { s with now := max s.now t }) ∧
    (20 ≤ stood → s.tnu.pedalDown ≠ pressed → exec (.bellPedalChange t stood pressed) s =
      .next (if pressed then bell.sound .bell 2 5 .driverBell .held else bell.endSound .bell .driverBell 2)))

/-- R159, R161, R168, R169: SOUND_START is judged by its five checks in order, becomes a request of source LINK with a
priority above 5 clamped to 5, and is answered FULL, leaving no trace, or OK with the priority in force, which an
update keeps (R163), the CLAMPED flag and the outcome. SOUND_STOP removes every request of source LINK from its channel
and answers how many; a playing one ends as an end request ends it. The replies stand behind the reports of the event
(the choice of assumption 9). -/
def Obligations.LinkSounds : Prop :=
  ∀ (t : Nat) (tag channel pattern priority mode : Byte) (s s' : State) (out : SoundOutcome) (ch : ChannelId) (m : Mode)
    (badMode : Bool), LinkReady s →
    (channel.toNat = 0 ∧ ch = .bell ∨ channel.toNat = 1 ∧ ch = .horn ∨ channel.toNat = 2 ∧ ch = .cab ∨ 2 < channel.toNat) →
    (badMode = true ↔ 16 ≤ mode.toNat ∧ mode.toNat < 128 ∨ 192 ≤ mode.toNat) →
    m = (if mode.toNat < 16 then .count mode.toNat else .untilStopped) →
    ({ s with now := max s.now t } : State).requestSound ch
      { pattern := pattern.toNat, priority := min 5 priority.toNat, source := .link, mode := m, rank := 0 } = (s', out) →
    (2 < channel.toNat → exec (.soundStart t tag channel pattern priority mode) s =
        .next (s.answered t 0x0D tag (.range 1)) ∧
      ∃ n, exec (.soundStop t tag channel) s = .next (s.answered t 0x0E tag (.range n))) ∧
    (channel.toNat ≤ 2 →
      (23 < pattern.toNat → exec (.soundStart t tag channel pattern priority mode) s =
        .next (s.answered t 0x0D tag (.range 2))) ∧
      (pattern.toNat ≤ 23 → 7 < priority.toNat → exec (.soundStart t tag channel pattern priority mode) s =
        .next (s.answered t 0x0D tag (.range 3))) ∧
      (pattern.toNat ≤ 23 → priority.toNat ≤ 7 → badMode = true →
        exec (.soundStart t tag channel pattern priority mode) s = .next (s.answered t 0x0D tag (.range 4))) ∧
      (pattern.toNat ≤ 23 → priority.toNat ≤ 7 → badMode = false → s.tnu.pattern pattern.toNat = none →
        exec (.soundStart t tag channel pattern priority mode) s = .next (s.answered t 0x0D tag (.plain .notFound))) ∧
      (pattern.toNat ≤ 23 → priority.toNat ≤ 7 → badMode = false → s.tnu.pattern pattern.toNat ≠ none →
        (out = .full →
          exec (.soundStart t tag channel pattern priority mode) s = .next (s.answered t 0x0D tag (.plain .full))) ∧
        (∀ inForce : Nat, out ≠ .full → (out ≠ .updated → inForce = min 5 priority.toNat) →
          (out = .updated → (∃ p ∈ (s'.tnu.channel ch).playing, p.saved.req.source = .link ∧
              p.saved.req.pattern = pattern.toNat ∧ inForce = p.saved.req.priority) ∨
            (∀ p ∈ (s'.tnu.channel ch).playing, ¬(p.saved.req.source = .link ∧ p.saved.req.pattern = pattern.toNat)) ∧
            ∃ sv ∈ (s'.tnu.channel ch).stack, sv.req.source = .link ∧ sv.req.pattern = pattern.toNat ∧
              inForce = sv.req.priority ∧ (s'.tnu.channel ch).keys.Nodup) →
          exec (.soundStart t tag channel pattern priority mode) s = .next { s' with
            clp := { s'.clp with outbound := s'.clp.outbound ++
              [replyFrame 0x0D tag (.ok (.soundStarted inForce (decide (5 < priority.toNat)) out))] } })) ∧
      (∀ c, s.tnu.channel ch = c → ∀ rs, rs =
          (c.queue.filter (fun r => decide (r.source = .link))).map
            (fun r => Report.sound ch r.pattern r.priority r.mode 0 .stopped) ++
          (c.stack.filter (fun sv => decide (sv.req.source = .link))).map
            (fun sv => Report.sound ch sv.req.pattern sv.req.priority sv.req.mode sv.repeats .stopped) ++
          (c.playing.toList.filter (fun p => decide (p.saved.req.source = .link))).map (fun p =>
            Report.sound ch p.saved.req.pattern p.saved.req.priority p.saved.req.mode p.saved.repeats .stopped) →
        (∀ p ∈ c.playing, p.saved.req.source = .link →
          (∀ r ∈ c.queue, r.source = .link) ∧ ∀ sv ∈ c.stack, sv.req.source = .link) →
        ∃ s', exec (.soundStop t tag channel) s = .next s' ∧
          s' = { s with now := max s.now t, tnu := s'.tnu, clp := s'.clp } ∧
          (s'.tnu.channel ch).playing = c.playing.filter (fun p => decide (p.saved.req.source ≠ .link)) ∧
          (s'.tnu.channel ch).queue = c.queue.filter (fun r => decide (r.source ≠ .link)) ∧
          (s'.tnu.channel ch).stack = c.stack.filter (fun sv => decide (sv.req.source ≠ .link)) ∧
          s'.clp = { rs.foldl (fun l r => l.raise r) s.clp with
            outbound := (rs.foldl (fun l r => l.raise r) s.clp).outbound ++
              [replyFrame 0x0E tag (.ok (.soundStopped rs.length
                ((c.playing.filter (fun p => decide (p.saved.req.source ≠ .link))).map fun p =>
                  (p.saved.req.pattern, p.saved.req.source))))] }) ∧
      (∀ c, s.tnu.channel ch = c → ∀ p ∈ c.playing, p.saved.req.source = .link →
        ∃ s', exec (.soundStop t tag channel) s = .next s' ∧
          s' = { s with now := max s.now t, tnu := s'.tnu, clp := s'.clp } ∧
          s'.tnu = (({ s with now := max s.now t, tnu := s.tnu.setChannel ch { c with
            queue := c.queue.filter (fun r => decide (r.source ≠ .link))
            stack := c.stack.filter (fun sv => decide (sv.req.source ≠ .link)) } } : State).endSound ch .link
              p.saved.req.pattern).tnu ∧
          Replied 0x0E tag (.ok (.soundStopped (c.queue.countP (fun r => decide (r.source = .link)) +
            c.stack.countP (fun sv => decide (sv.req.source = .link)) + 1)
            ((s'.tnu.channel ch).playing.map fun p => (p.saved.req.pattern, p.saved.req.source)))) s'))

/-- R154, R159, R162, R169: a step that has run its time gives way to the next, or after the last to step 0 while the repeat
target is not reached, the repeats done rising to 15 at most; otherwise the pattern has completed and leaves as an
ended one does, a request of source LINK with the SOUND report COMPLETED (R169) before those of what its end completes
besides. A tone period is high for its first period × level / 1000 µs, truncated, and low for the rest; one that
has run its length is followed by one of the step in force, or by silence. Where the pattern goes on nothing else of the
Tone Unit changes, but that a SILENT output starts a period at once where the step now in force has one; a period in
progress is not cut short, and a step that is resumed with no time left starts none (the choice of assumption 40). Before
its time neither event does anything. -/
def Obligations.ToneTimers : Prop :=
  ∀ (t now : Nat) (ch : ChannelId) (s : State) (c : Channel) (target : Option Nat), max s.now t = now →
    s.tnu.channel ch = c →
    (∀ p, c.playing = some p → ∀ pat, s.tnu.pattern p.saved.req.pattern = some pat →
      RepeatTarget pat p.saved.req.mode target → p.saved.remaining ≤ (now - p.since) / 1000 →
      ∃ s', exec (.stepEnd t ch) s = .next s' ∧
        s' = { s with now := now, tnu := s'.tnu, clp := s'.clp } ∧
        OutputFollows s.tnu.pattern now c (s'.tnu.channel ch) ∧
        (p.saved.step + 1 < pat.steps.length → s'.clp = s.clp ∧ s'.tnu = s.tnu.setChannel ch { c with
          output := (s'.tnu.channel ch).output, playing := some (Playing.mk { p.saved with
            step := p.saved.step + 1, remaining := (stepOf (some pat) (p.saved.step + 1)).duration } now) }) ∧
        (pat.steps.length ≤ p.saved.step + 1 → (∀ n, target = some n → p.saved.repeats + 1 < n) →
          s'.clp = s.clp ∧ s'.tnu = s.tnu.setChannel ch { c with
            output := (s'.tnu.channel ch).output, playing := some (Playing.mk { p.saved with
              step := 0, repeats := min 15 (p.saved.repeats + 1), remaining := (stepOf (some pat) 0).duration } now) }) ∧
        (pat.steps.length ≤ p.saved.step + 1 → (∃ m, target = some m ∧ m ≤ p.saved.repeats + 1) →
          s'.tnu = (({ s with now := now } : State).endSound ch p.saved.req.source p.saved.req.pattern).tnu ∧
          ∀ x : State, x = { s with
            now := now
            clp := s.clp.soundLeft ch .completed p.saved.req (min 15 (p.saved.repeats + 1)) } →
          s'.clp = (x.endSound ch p.saved.req.source p.saved.req.pattern).clp ∧
          ((∀ sv ∈ c.stack, sv.remaining ≠ 0) → s'.clp = x.clp))) ∧
    ((∀ p, c.playing = some p → (now - p.since) / 1000 < p.saved.remaining) →
      exec (.stepEnd t ch) s = .next { s with now := now }) ∧
    (∀ period level st, c.output = .sounding period level st →
      (st ≤ now → (c.output.high now = true ↔ (now - st + 1) * 1000 ≤ period * level)) ∧
      (now < st + period → exec (.tonePeriodEnd t ch) s = .next { s with now := now }) ∧
      (st + period ≤ now → c.playing = none → exec (.tonePeriodEnd t ch) s = .next { s with
        now := now, tnu := s.tnu.setChannel ch { c with output := .silent } }) ∧
      (st + period ≤ now → ∀ p, c.playing = some p → ∀ pat, s.tnu.pattern p.saved.req.pattern = some pat →
        ∀ step, pat.steps[p.saved.step]? = some step →
        exec (.tonePeriodEnd t ch) s = .next { s with
          now := now
          tnu := s.tnu.setChannel ch { c with
            output := if step.period = 0 then .silent else .sounding step.period step.level now } })) ∧
    (c.output = .silent → exec (.tonePeriodEnd t ch) s = .next { s with now := now } ∧ c.output.high now = false)

/-- R156, R157: PATTERN_LOAD is refused with the number of the first of its checks 1 to 5 that fails, REFUSED_STATE
where a second part does not continue the load buffer, and IN_USE where it would write a pattern that is in use.
Otherwise it writes the pattern whole, or fills the load buffer, or writes the buffer's steps with its own; nothing
else changes but the reply. -/
def Obligations.PatternLoaded : Prop :=
  ∀ (t n : Nat) (tag : Byte) (p : PatternLoad) (s : State) (checks : List Bool) (continues inUse writes : Bool)
    (steps : List Step), LinkReady s → p.steps.length ≤ 8 → n = p.number.toNat →
    checks = [ decide (n < 8 ∨ 23 < n),
      decide (15 < p.repeats.toNat ∨ p.stepCount.toNat < 1 ∨ 16 < p.stepCount.toNat),
      decide (p.first.toNat ≠ 0 ∧ p.first.toNat ≠ 8 ∨ p.first.toNat = 8 ∧ p.stepCount.toNat ≤ 8),
      decide (p.steps.length ≠ min 8 (p.stepCount.toNat - p.first.toNat)),
      p.steps.any fun st => decide (st.period.toNat ≠ 0 ∧ (st.period.toNat < 250 ∨ 20000 < st.period.toNat) ∨
        500 < st.level.toNat ∨ st.duration.toNat < 10 ∨ 5000 < st.duration.toNat ∨ st.duration.toNat % 10 ≠ 0) ] →
    (continues = true ↔ ∃ b, s.tnu.loadBuffer = some b ∧
      (b.number = n ∧ b.stepCount = p.stepCount.toNat ∧ b.repeats = p.repeats.toNat)) →
    (inUse = true ↔ ∃ ch : ChannelId, ∃ k ∈ (s.tnu.channel ch).keys, k.2 = n) →
    (writes = true ↔ p.first.toNat = 8 ∨ p.stepCount.toNat ≤ 8) →
    steps = p.steps.map (fun st =>
      { period := st.period.toNat, level := if st.period.toNat = 0 then 0 else st.level.toNat
        duration := st.duration.toNat }) →
    (∀ k, checks.findIdx? id = some k →
      exec (.patternLoad t tag p) s = .next (s.answered t 0x0F tag (.range (BitVec.ofNat 8 (k + 1))))) ∧
    (checks.findIdx? id = none →
      (p.first.toNat = 8 → continues = false →
        exec (.patternLoad t tag p) s = .next (s.answered t 0x0F tag (.plain .refusedState))) ∧
      (p.first.toNat = 8 → continues = true → inUse = true →
        exec (.patternLoad t tag p) s = .next (s.answered t 0x0F tag (.plain .inUse))) ∧
      (p.first.toNat = 0 → writes = true → inUse = true →
        exec (.patternLoad t tag p) s = .next (s.answered t 0x0F tag (.plain .inUse))) ∧
      (p.first.toNat = 0 → writes = true → inUse = false →
        ∃ s', exec (.patternLoad t tag p) s = .next s' ∧
          s' = { s.answered t 0x0F tag (.ok (.patternLoaded n true)) with
            tnu := { s.tnu with
              patterns := s'.tnu.patterns
              loadBuffer := if ∃ b, s.tnu.loadBuffer = some b ∧ b.number = n then none else s.tnu.loadBuffer } } ∧
          s'.tnu.pattern n = some { steps := steps, repeats := p.repeats.toNat } ∧
          ∀ x : Fin 24, x.val ≠ n → s'.tnu.pattern x.val = s.tnu.pattern x.val) ∧
      (p.first.toNat = 0 → writes = false →
        exec (.patternLoad t tag p) s = .next { s.answered t 0x0F tag (.ok (.patternLoaded n false)) with
          tnu := { s.tnu with loadBuffer := some (LoadBuffer.mk n p.repeats.toNat p.stepCount.toNat steps) } }) ∧
      (∀ b, s.tnu.loadBuffer = some b → p.first.toNat = 8 → continues = true → inUse = false →
        ∃ s', exec (.patternLoad t tag p) s = .next s' ∧
          s' = { s.answered t 0x0F tag (.ok (.patternLoaded n true)) with
            tnu := { s.tnu with patterns := s'.tnu.patterns, loadBuffer := none } } ∧
          s'.tnu.pattern n = some { steps := b.steps ++ steps, repeats := p.repeats.toNat } ∧
          ∀ x : Fin 24, x.val ≠ n → s'.tnu.pattern x.val = s.tnu.pattern x.val))

/-! ## The cab link (Chapter 10) -/

/-- R26, R73, R78, R137, R158, R176, R177, R187: the reading commands change no state of any block but their reply at
the tail of the outbound queue, which carries what their rules lay down, or OUT_OF_RANGE or NOT_FOUND where they say
so. -/
def Obligations.ReadCommands : Prop :=
  ∀ (t : Nat) (tag code number first : Byte) (id : Half) (s s1 : State), LinkReady s → s1 = { s with now := max s.now t } →
    exec (.identify t tag) s = .next (s.answered t 0x01 tag (.ok (.identity 0x4E18 1 2 0xFD))) ∧
    exec (.readConfig t tag) s = .next (s.answered t 0x03 tag (.ok (.config s.configured (paramsBytes s.params)))) ∧
    exec (.stopRead t tag) s = .next (s.answered t 0x11 tag (.ok (.stopList s.sdu.stops.length
      (s.sdu.stops.map fun e => (e, doorSide s.params e.door)) s.sdu.stopLamp s.sdu.rampLamp
      ((List.finRange 16).map fun i => service s.params i s.sdu.buttons[i])))) ∧
    (code.toNat = 0 → exec (.statusRead t tag code) s = .next (s.answered t 0x14 tag (.ok (.drive s1.driveView)))) ∧
    (code.toNat = 1 → exec (.statusRead t tag code) s = .next (s.answered t 0x14 tag (.ok (.loop (LoopView.mk
      s.lpt.contact s.lpt.badCount s.lpt.toggleMemory
      (s.lpt.held.map fun p => (p.set, p.pos, p.last, p.toggle, p.check))))))) ∧
    (code.toNat = 2 → exec (.statusRead t tag code) s = .next (s.answered t 0x14 tag (.ok (.doors (DoorView.mk
      s.sdu.door s.sdu.outputs s.sdu.locked s.sdu.bypass s.sdu.closeTimer.isSome) s.sdu.stopLamp s.sdu.rampLamp)))) ∧
    (∀ ch : ChannelId, (code.toNat = 3 ∧ ch = .bell ∨ code.toNat = 4 ∧ ch = .horn ∨ code.toNat = 5 ∧ ch = .cab) →
      exec (.statusRead t tag code) s = .next (s.answered t 0x14 tag (.ok (.channel
        (Channel.view s.tnu s1.now (s.tnu.channel ch)))))) ∧
    (5 < code.toNat → ∃ n, exec (.statusRead t tag code) s = .next (s.answered t 0x14 tag (.range n))) ∧
    (code.toNat = 0 → exec (.routeRead t tag code) s = .next (s.answered t 0x09 tag (.ok (.plan s.rtm.plan.length
      s.rtm.pendingSel s.rtm.plan)))) ∧
    (code.toNat = 1 → s.rtm.plan = [] →
      exec (.routeRead t tag code) s = .next (s.answered t 0x09 tag (.plain .notFound))) ∧
    (code.toNat = 1 → ∀ h, s.rtm.plan.head? = some h → exec (.routeRead t tag code) s = .next (s.answered t 0x09 tag
      (.ok (.head h (s.rtm.record h.id).isSome s.rtm.context)))) ∧
    (1 < code.toNat → ∃ n, exec (.routeRead t tag code) s = .next (s.answered t 0x09 tag (.range n))) ∧
    (id.toNat < 1 ∨ 4095 < id.toNat → ∃ n, exec (.junctionRead t tag id) s = .next (s.answered t 0x06 tag (.range n))) ∧
    (1 ≤ id.toNat → id.toNat ≤ 4095 → s.rtm.record id = none → exec (.junctionRead t tag id) s =
      .next (s.answered t 0x06 tag (Verdict.mk .notFound none (.junctionCount s.rtm.junctions.length)))) ∧
    (∀ j, s.rtm.record id = some j → 1 ≤ id.toNat → id.toNat ≤ 4095 → exec (.junctionRead t tag id) s =
      .next (s.answered t 0x06 tag (.ok (.junctionRecord j.id j.setCount
        (j.left.map fun l => l ++ List.replicate (4 - l.length) .any)
        (j.straight.map fun l => l ++ List.replicate (4 - l.length) .any)
        (j.right.map fun l => l ++ List.replicate (4 - l.length) .any) j.dflt j.loopToPoint j.clearing j.stopMargin
        j.approachCeil j.passingCeil (decide (∃ h ∈ s.rtm.plan.head?, h.id = id ∧ h.state ≠ .waiting))
        s.rtm.junctions.length)))) ∧
    (3 < code.toNat ∨ code.toNat = 3 ∧ (number.toNat < 1 ∨ 6 < number.toNat) →
      ∃ n, exec (.restrictRead t tag code number) s = .next (s.answered t 0x0C tag (.range n))) ∧
    (∀ slot : Slot, (code.toNat = 0 ∧ slot = .route ∨ code.toNat = 1 ∧ slot = .doors ∨ code.toNat = 2 ∧ slot = .reverse ∨
        code.toNat = 3 ∧ ∃ i : Fin 6, number.toNat = i.val + 1 ∧ slot = .link i) →
      (s.drc.table.get slot = none → exec (.restrictRead t tag code number) s =
        .next (s.answered t 0x0C tag (Verdict.mk .notFound none (.restriction none s.drc.tableView)))) ∧
      (∀ e, s.drc.table.get slot = some e → exec (.restrictRead t tag code number) s =
        .next (s.answered t 0x0C tag (.ok (.restriction (some (slot, e)) s.drc.tableView))))) ∧
    (23 < number.toNat ∨ first.toNat ≠ 0 ∧ first.toNat ≠ 8 →
      ∃ n, exec (.patternRead t tag number first) s = .next (s.answered t 0x10 tag (.range n))) ∧
    (number.toNat ≤ 23 → first.toNat = 0 ∨ first.toNat = 8 →
      (s.tnu.pattern number.toNat = none →
        exec (.patternRead t tag number first) s = .next (s.answered t 0x10 tag (.plain .notFound))) ∧
      (∀ p, s.tnu.pattern number.toNat = some p →
        exec (.patternRead t tag number first) s = .next (s.answered t 0x10 tag (.ok (.pattern p.repeats p.steps.length
          ((p.steps.drop first.toNat).take 8) (decide (number.toNat < 8)) ([ChannelId.bell, .horn, .cab].map fun ch =>
            (decide (∃ q ∈ (s.tnu.channel ch).playing, q.saved.req.pattern = number.toNat),
             decide (∃ q ∈ (s.tnu.channel ch).stack, q.req.pattern = number.toNat),
             decide (∃ q ∈ (s.tnu.channel ch).queue, q.pattern = number.toNat))))))))

/-- R172, R173: the bytes of a whole frame with a payload of 0..56 bytes, none without its stop bit and none more than
5 ms after the one before, reach a hunting receiver as one checked frame of that KIND, TAG and payload, and it is
hunting again; with the check bytes wrong they raise one LINK_ERROR of reason CHECK with the number of bytes after the
sync byte, the KIND and the TAG, and nothing else changes. R172: a byte at the receiver. Without its stop bit it is as
if it had not arrived. In HUNTING all but 0xC3 are discarded, and 0xC3 begins a frame. A LENGTH outside 2..58, and a
gap of more than 5 ms, abort the frame with a LINK_ERROR and the byte is examined as a sync byte. GAP_ABORT is the
same gap before another byte has come (the choice of assumption 26). -/
def Obligations.FramesReceived : Prop :=
  (∀ (bytes : List RxByte) (kind tag c1 c0 : Byte) (payload : List Byte) (s : State) (now : Nat),
    payload.length ≤ 56 → s.clp.receiver = .hunting → (∀ b ∈ bytes, b.stopBit = true) →
    (∀ (i : Nat) (a b : RxByte), bytes[i]? = some a → bytes[i + 1]? = some b → b.endedAt ≤ a.endedAt + 5000) →
    now = bytes.foldl (fun m b => max m b.endedAt) s.now →
    (bytes.map (fun b => b.value) = frameBytes kind tag payload →
      exec (.linkFrame bytes) s = .next (({ s with now := now } : State).checkedFrame kind tag payload)) ∧
    (bytes.map (fun b => b.value) = (frameBytes kind tag payload).dropLast.dropLast ++ [c1, c0] →
      [c1, c0] ≠ halfBytes (crc 0xFFFF (BitVec.ofNat 8 (payload.length + 2) :: kind :: tag :: payload)) →
      exec (.linkFrame bytes) s = .next { s with
        now := now, clp := s.clp.raise (.linkError .check (payload.length + 5) (some kind) (some tag)) })) ∧
  (∀ (t last now : Nat) (b : RxByte) (bytes : List Byte) (s : State) (hunt : Receiver), now = max s.now b.endedAt →
    hunt = (if b.value = 0xC3 then .collecting [] b.endedAt else .hunting) →
    (b.stopBit = false → exec (.linkFrame [b]) s = .next { s with now := now }) ∧
    (b.stopBit = true → s.clp.receiver = .hunting →
      exec (.linkFrame [b]) s = .next { s with now := now, clp := { s.clp with receiver := hunt } }) ∧
    (b.stopBit = true → s.clp.receiver = .collecting bytes last → last + 5000 < b.endedAt →
      exec (.linkFrame [b]) s = .next { s with
        now := now
        clp := { s.clp.raise (.linkError .gap bytes.length bytes[1]? bytes[2]?) with receiver := hunt } }) ∧
    (b.stopBit = true → s.clp.receiver = .collecting [] last → b.endedAt ≤ last + 5000 →
      (b.value.toNat < 2 ∨ 58 < b.value.toNat → exec (.linkFrame [b]) s = .next { s with
        now := now, clp := { s.clp.raise (.linkError .length 1 none none) with receiver := hunt } }) ∧
      (2 ≤ b.value.toNat → b.value.toNat ≤ 58 → exec (.linkFrame [b]) s = .next { s with
        now := now, clp := { s.clp with receiver := .collecting [b.value] b.endedAt } })) ∧
    (∀ length, bytes.head? = some length → b.stopBit = true → s.clp.receiver = .collecting bytes last →
      b.endedAt ≤ last + 5000 → bytes.length + 1 < length.toNat + 3 →
      exec (.linkFrame [b]) s = .next { s with
        now := now, clp := { s.clp with receiver := .collecting (bytes ++ [b.value]) b.endedAt } }) ∧
    (s.clp.receiver = .collecting bytes last → last + 5000 < max s.now t →
      exec (.gapAbort t) s = .next { s with
        now := max s.now t
        clp := { s.clp.raise (.linkError .gap bytes.length bytes[1]? bytes[2]?) with receiver := .hunting } }) ∧
    (s.clp.receiver = .hunting ∨ s.clp.receiver = .collecting bytes last ∧ max s.now t ≤ last + 5000 →
      exec (.gapAbort t) s = .next { s with now := max s.now t }))

/-- R173, R174, R175, R178: a checked frame that finds four frames waiting draws BUSY, or nothing at eight replies;
behind a reply that waits it joins the inbound queue. TAKE_COMMAND takes the head where no reply waits to begin,
whatever waits behind it: its reply joins behind every report that the command raised (the choice of assumption 9) and
a frame on the line, or begins at once where the line is idle and no report was raised, and the condition is then
judged anew for the next. The end of a frame begins the next: a report takes the reports-lost flag into its flags byte
and clears it. REPORT_RATE sets N and restarts the interval, and each expiry raises a STATUS report of the values that
stand. -/
def Obligations.LinkQueues : Prop :=
  ∀ (t : Nat) (kind tag rate : Byte) (payload : List Byte) (s s1 : State) (waits : Bool) (rest : List OutFrame),
    s1 = { s with now := max s.now t } →
    (waits = true ↔ ∃ f ∈ s.clp.outbound.tail, f.isReply = true) → s.clp.outbound.tail = rest →
    (kind ≠ 0x17 → 4 ≤ s.clp.inbound.length → replyCount s.clp.outbound < 8 →
      s.checkedFrame kind tag payload = { s with clp := s.clp.join (replyFrame kind tag (.plain .busy)) }) ∧
    (kind ≠ 0x17 → 4 ≤ s.clp.inbound.length → 8 ≤ replyCount s.clp.outbound → s.checkedFrame kind tag payload = s) ∧
    (kind ≠ 0x17 → s.clp.inbound.length < 4 → waits = true → s.checkedFrame kind tag payload = { s with
      clp := { s.clp with inbound := s.clp.inbound ++ [Inbound.mk kind tag (parseCommand kind payload)] } }) ∧
    (kind = 0x17 → payload ≠ [] → replyCount s.clp.outbound < 8 →
      s.checkedFrame kind tag payload = { s with clp := s.clp.join (replyFrame kind tag (.plain .badLength)) }) ∧
    (waits = true ∨ s.clp.inbound = [] → exec (.takeCommand t) s = .next s1) ∧
    (∀ c more, s.clp.inbound = c :: more → waits = false →
      ∀ r : State × Verdict, r = ({ s1 with clp := { s.clp with inbound := more } } : State).runCommand c.command →
      ∀ s', s' = r.1.pushReply (replyFrame c.kind c.tag r.2) →
      exec (.takeCommand t) s = exec (.takeCommand t) s' ∧
      (s'.clp.inbound = more ∨ s'.clp.inbound = []) ∧
      (more = [] ∨ s.clp.outbound ≠ [] → exec (.takeCommand t) s = .next s')) ∧
    (s.clp.outbound = [] → exec (.frameSent t) s = .next s1) ∧
    (s.clp.outbound ≠ [] → (∀ f ∈ rest.head?, f.isReply = true) →
      exec (.frameSent t) s = exec (.takeCommand t) { s with clp := { s.clp with outbound := rest } }) ∧
    (∀ tg old body more, rest = .report tg old body :: more →
      exec (.frameSent t) s = exec (.takeCommand t) { s with
        clp := { s.clp with outbound := .report tg (some s.clp.lost) body :: more, lost := false } }) ∧
    (LinkReady s → 50 < rate.toNat →
      ∃ n, exec (.reportRate t tag rate) s = .next (s.answered t 0x15 tag (.range n))) ∧
    (LinkReady s → rate.toNat ≤ 50 → exec (.reportRate t tag rate) s = .next { s1 with
      clp := { s.clp with
        rate := rate.toNat, statusDue := max s.now t + rate.toNat * 100000
        outbound := s.clp.outbound ++ [replyFrame 0x15 tag (.ok (.rate rate.toNat))] } }) ∧
    (0 < s.clp.rate → s.clp.statusDue ≤ max s.now t → exec (.statusTimerExpiry t) s = .next { s1 with
      clp := { s.clp.raise (.status s1.statusView) with statusDue := s.clp.statusDue + s.clp.rate * 100000 } }) ∧
    (s.clp.rate = 0 ∨ max s.now t < s.clp.statusDue → exec (.statusTimerExpiry t) s = .next s1)

/-- R179, R180, R181: a latch of a pair that has an entry raises its count; a new pair joins with a FAULT report, or
sets the overflow flag at 32. FAULTS_READ from 0 moves the set to the snapshot and re-creates the faults that stand,
with no report; from a later index it reads the snapshot. RESTART is refused unless the tram stands; it removes the
LINK entries, the plan, the table, the held page, the sounds and the loaded patterns, takes each selector button as
inactive (assumption 37), empties the queues and renews the fault set, and is answered OK. -/
def Obligations.FaultsAndRestart : Prop :=
  ∀ (t n : Nat) (tag start : Byte) (code : FaultCode) (index : Nat) (s s1 : State) (stands : Bool),
    s1 = { s with now := max s.now t } → n = start.toNat →
    (stands = true ↔ (code = .axleFault ∧ ∃ ax, index = axleIndex ax ∧ (s.amu.channel ax).cls = .fault) ∨
      (code = .handleFault ∧ index = 0 ∧ s.drc.handleFault = true) ∨
      (code = .buttonStuck ∧ ∃ i : Fin 16, index = i.val ∧ s.sdu.buttons[i].stuck = true) ∨
      (code = .doorUnlocked ∧ ∃ d : Fin 8, index = d.val ∧ s.sdu.locked[d] = false ∧ s.sdu.door ≠ .none ∧
        s.sdu.door.session ≠ some (doorSide s.params d)) ∨
      (code = .doorBypass ∧ index = 0 ∧ s.sdu.door = .bypassed)) →
    ((∃ e ∈ s.clp.faults, e.code = code ∧ e.index = index) → s.latch code index = { s with
      clp := { s.clp with
        faults := s.clp.faults.map fun e => if e.code = code ∧ e.index = index then { e with
          count := min 255 (e.count + 1), active := true } else e } }) ∧
    ((∀ e ∈ s.clp.faults, ¬(e.code = code ∧ e.index = index)) →
      (32 ≤ s.clp.faults.length → s.latch code index = { s with clp := { s.clp with overflow := true } }) ∧
      (s.clp.faults.length < 32 → ∀ e, e = FaultEntry.mk code index 1 (s.amu.odometer / 64) true →
        s.latch code index = { s with
          clp := Clp.raise (.fault e (s.clp.faults.length + 1) s.clp.overflow) { s.clp with
            faults := s.clp.faults ++ [e] } })) ∧
    (LinkReady s → n = 0 → ∃ s', exec (.faultsRead t tag start) s = .next s' ∧
      s' = { s.answered t 0x16 tag (.ok (.faults s.clp.overflow s.clp.faults.length 0 (s.clp.faults.take 5))) with
        clp := { s.clp with
          outbound := s'.clp.outbound, faults := s'.clp.faults, overflow := false
          snapshot := some (Snapshot.mk s.clp.faults s.clp.overflow) } } ∧
      s'.clp.outbound = s.clp.outbound ++
        [replyFrame 0x16 tag (.ok (.faults s.clp.overflow s.clp.faults.length 0 (s.clp.faults.take 5)))] ∧
      (stands = true ↔ FaultEntry.mk code index 1 (s.amu.odometer / 64) true ∈ s'.clp.faults) ∧
      (s'.clp.faults.map FaultEntry.pair).Nodup ∧ s'.clp.faults.length ≤ 28) ∧
    (LinkReady s → 31 < n ∨ (0 < n ∧ ∃ sn, s.clp.snapshot = some sn ∧ sn.entries.length ≤ n) →
      ∃ k, exec (.faultsRead t tag start) s = .next (s.answered t 0x16 tag (.range k))) ∧
    (LinkReady s → 0 < n → n ≤ 31 → s.clp.snapshot = none →
      exec (.faultsRead t tag start) s = .next (s.answered t 0x16 tag (.plain .notFound))) ∧
    (∀ sn, s.clp.snapshot = some sn → LinkReady s → 0 < n → n ≤ 31 → n < sn.entries.length →
      exec (.faultsRead t tag start) s = .next (s.answered t 0x16 tag (.ok (.faults sn.overflow sn.entries.length n
        ((sn.entries.drop n).take 5))))) ∧
    (LinkReady s → s.amu.atStandstill = false →
      exec (.restart t tag) s = .next (s.answered t 0x18 tag (.plain .notStandstill))) ∧
    (LinkReady s → s.amu.atStandstill = true → ∃ s', exec (.restart t tag) s = .next s' ∧
      s' = { s1 with drc := s'.drc, rtm := s'.rtm, tnu := s'.tnu, clp := s'.clp, lpt := { s.lpt with held := none } } ∧
      s'.drc = { s.drc with table := s'.drc.table, vCeil := s'.drc.vCeil, vSup := s'.drc.vSup } ∧
      s'.drc.table = { s.drc.table with
        link := Vector.replicate 6 none, route := if s.rtm.headState = .waiting then s.drc.table.route else none } ∧
      s'.drc.vCeil = effectiveCeiling s.params.vehicleMax.toNat s'.drc.table.entries ∧
      s.drc.vSup ≤ s'.drc.vSup ∧ s'.drc.vCeil ≤ s'.drc.vSup ∧
      s'.rtm.plan = [] ∧ s'.rtm.junctions = [] ∧ s'.rtm.context = none ∧ s'.rtm.pendingSel = none ∧
      s'.rtm.zone = false ∧ s'.rtm.lampsAre false false false ∧ s'.rtm.freshDue = false ∧
      (∀ sel, s'.rtm.armed sel = true) ∧ s'.rtm.intervalDue = s.rtm.intervalDue ∧
      (∀ ch, s'.tnu.channel ch = { s.tnu.channel ch with playing := none, queue := [], stack := [], nextRank := 0 }) ∧
      s'.tnu.patterns = Vector.replicate 16 none ∧ s'.tnu.loadBuffer = none ∧
      s'.tnu.hornDown = s.tnu.hornDown ∧ s'.tnu.pedalDown = s.tnu.pedalDown ∧
      s'.clp.receiver = s.clp.receiver ∧ s'.clp.rate = s.clp.rate ∧ s'.clp.statusDue = s.clp.statusDue ∧
      s'.clp.inbound = [] ∧ s'.clp.lost = false ∧ s'.clp.snapshot = none ∧ s'.clp.overflow = false ∧
      s'.clp.outbound = s.clp.outbound.take 1 ++ [replyFrame 0x18 tag (.ok .none)] ∧
      (stands = true ↔ FaultEntry.mk code index 1 (s.amu.odometer / 64) true ∈ s'.clp.faults))

/-- R172, R174 and Tables 10-5 to 10-7 and 10-10, with the choices of assumptions 5 and 13: each command of the cab
link is the checked frame of its KIND with its fields laid out as its payload, each field at every value its bytes can
carry. -/
def Obligations.CommandFrames : Prop :=
  ∀ (t : Nat) (tag a b c d : Byte) (id : Half) (p : Params) (j : JunctionLoad) (r : RestrictPost) (l : PatternLoad)
    (s s1 : State), s1 = { s with now := max s.now t } → l.steps.length ≤ 8 →
    exec (.identify t tag) s = .next (s1.checkedFrame 0x01 tag []) ∧
    exec (.configure t tag p) s = .next (s1.checkedFrame 0x02 tag (paramsBytes p)) ∧
    exec (.readConfig t tag) s = .next (s1.checkedFrame 0x03 tag []) ∧
    exec (.junctionLoad t tag j) s = .next (s1.checkedFrame 0x04 tag (halfBytes j.id ++
      [j.setCount, j.present, j.reqLeft, j.reqStraight, j.reqRight, j.dflt] ++ wordBytes j.loopToPoint ++
      halfBytes j.clearing ++ halfBytes j.stopMargin ++ halfBytes j.approachCeil ++ halfBytes j.passingCeil)) ∧
    exec (.junctionDrop t tag id) s = .next (s1.checkedFrame 0x05 tag (halfBytes id)) ∧
    exec (.junctionRead t tag id) s = .next (s1.checkedFrame 0x06 tag (halfBytes id)) ∧
    exec (.routeAppend t tag id a) s = .next (s1.checkedFrame 0x07 tag (halfBytes id ++ [a])) ∧
    exec (.routeClear t tag) s = .next (s1.checkedFrame 0x08 tag []) ∧
    exec (.routeRead t tag a) s = .next (s1.checkedFrame 0x09 tag [a]) ∧
    exec (.restrictPost t tag r) s = .next (s1.checkedFrame 0x0A tag ([r.linkId, r.kind] ++ halfBytes r.ceiling ++
      [r.reason, (if r.start.isSome then 1 else 0) ||| (if r.stop.isSome then 2 else 0)] ++
      wordBytes (r.start.getD 0) ++ wordBytes (r.stop.getD 0))) ∧
    exec (.restrictLift t tag a b) s = .next (s1.checkedFrame 0x0B tag [a, b]) ∧
    exec (.restrictRead t tag a b) s = .next (s1.checkedFrame 0x0C tag [a, b]) ∧
    exec (.soundStart t tag a b c d) s = .next (s1.checkedFrame 0x0D tag [a, b, c, d]) ∧
    exec (.soundStop t tag a) s = .next (s1.checkedFrame 0x0E tag [a]) ∧
    exec (.patternLoad t tag l) s = .next (s1.checkedFrame 0x0F tag ([l.number, l.repeats, l.stepCount, l.first] ++
      l.steps.flatMap fun st => halfBytes st.period ++ halfBytes st.level ++ halfBytes st.duration)) ∧
    exec (.patternRead t tag a b) s = .next (s1.checkedFrame 0x10 tag [a, b]) ∧
    exec (.stopRead t tag) s = .next (s1.checkedFrame 0x11 tag []) ∧
    exec (.stopClear t tag a) s = .next (s1.checkedFrame 0x12 tag [a]) ∧
    exec (.buttonIsolate t tag a b) s = .next (s1.checkedFrame 0x13 tag [a, b]) ∧
    exec (.statusRead t tag a) s = .next (s1.checkedFrame 0x14 tag [a]) ∧
    exec (.reportRate t tag a) s = .next (s1.checkedFrame 0x15 tag [a]) ∧
    exec (.faultsRead t tag a) s = .next (s1.checkedFrame 0x16 tag [a]) ∧
    exec (.emergencyStop t tag) s = .next (s1.checkedFrame 0x17 tag []) ∧
    exec (.restart t tag) s = .next (s1.checkedFrame 0x18 tag [])

/-! ## Configuration and start-up (Chapter 11) -/

/-- R184: a CONFIGURE with a field out of its range of Table 11-1 is refused OUT_OF_RANGE with the number of the
first; then IN_USE in any door state but NONE; then NOT_STANDSTILL for a configured part that does not stand. R39,
R133, R185, R186, R187: an accepted CONFIGURE puts the record in force, with an UNUSED button's door bits read as 0,
recomputes V_ceil with the new vehicle maximum, re-posts a standing REVERSE entry, and re-maps the buttons, whose
levels, settle timers and isolation stay; the stop list, the route, the loop and the tones stay. The first one takes
the drive from UNCONFIGURED to TRIPPED and examines the doors: with one not locked the door state is UNSAFE, or
BYPASSED with the switch ON, at the new bypass ceiling (the choice of assumption 43). The reply tells the drive state and
whether it was the first. -/
def Obligations.Configure : Prop :=
  (∀ (t : Nat) (tag : Byte) (p : Params) (s : State) (bad : List Bool), LinkReady s →
    bad = [ decide (p.circA.toNat < 1600 ∨ 2400 < p.circA.toNat), decide (p.circB.toNat < 1600 ∨ 2400 < p.circB.toNat),
      decide (p.vehicleMax.toNat < 300 ∨ 2500 < p.vehicleMax.toNat),
      decide (p.tractionRise.toNat < 1 ∨ 10 < p.tractionRise.toNat),
      decide (p.tractionFall.toNat < 1 ∨ 20 < p.tractionFall.toNat),
      decide (p.brakeRise.toNat < 1 ∨ 20 < p.brakeRise.toNat), decide (p.brakeFall.toNat < 1 ∨ 10 < p.brakeFall.toNat),
      decide (p.serviceBrake.toInt < -100 ∨ -30 < p.serviceBrake.toInt),
      decide (p.descentStep.toNat < 1 ∨ 5 < p.descentStep.toNat),
      decide (p.curveDecel.toNat < 50 ∨ 200 < p.curveDecel.toNat),
      decide (p.reverseCeil.toNat < 50 ∨ 300 < p.reverseCeil.toNat),
      decide (p.unknownCeil.toNat < 50 ∨ 500 < p.unknownCeil.toNat),
      decide (p.fallback.toNat < 10000 ∨ 200000 < p.fallback.toNat),
      decide (p.slipMin.toNat < 10 ∨ 100 < p.slipMin.toNat),
      decide (p.slipPermille.toNat < 30 ∨ 200 < p.slipPermille.toNat), decide (p.vehicle.toNat < 1), false,
      p.buttonMap.toList.any fun b => decide (b.toNat / 8 % 8 ≠ 0),
      decide (p.closeTimeout.toNat < 5 ∨ 30 < p.closeTimeout.toNat),
      decide (p.bypassCeil.toNat < 100 ∨ 600 < p.bypassCeil.toNat), decide (1 < p.departureBell.toNat) ] →
    (∀ k, bad.findIdx? id = some k →
      exec (.configure t tag p) s = .next (s.answered t 0x02 tag (.range (BitVec.ofNat 8 (k + 1))))) ∧
    (bad.findIdx? id = none →
      (s.sdu.door ≠ .none → exec (.configure t tag p) s = .next (s.answered t 0x02 tag (.plain .inUse))) ∧
      (s.sdu.door = .none → s.configured = true → s.amu.atStandstill = false →
        exec (.configure t tag p) s = .next (s.answered t 0x02 tag (.plain .notStandstill))))) ∧
  (∀ (t now : Nat) (tag : Byte) (p : Params) (s : State), LinkReady s → max s.now t = now → badField p = none →
    s.sdu.door = .none → (s.configured = true → s.amu.atStandstill = true) → s.drc.table.doors = none →
    (∀ e, s.drc.table.reverse = some e → e.start = none ∧ e.stop = none ∧ e.phase = .active) →
    ∃ s', exec (.configure t tag p) s = .next s' ∧
      s' = { s with
        now := now, amu := s'.amu, drc := s'.drc, sdu := s'.sdu, tnu := s'.tnu, clp := s'.clp, configured := true
        params := { p with buttonMap := p.buttonMap.map fun b => if b.toNat < 64 then 0 else b } } ∧
      s'.amu = { s.amu with
        a := { s.amu.a with plausTimer := s'.amu.a.plausTimer }, b := { s.amu.b with plausTimer := s'.amu.b.plausTimer } } ∧
      s'.drc.vCeil = effectiveCeiling p.vehicleMax.toNat s'.drc.table.entries ∧
      s'.drc.vCeil ≤ s'.drc.vSup ∧ s.drc.vSup ≤ s'.drc.vSup ∧
      s'.drc.table.route = s.drc.table.route ∧ s'.drc.table.link = s.drc.table.link ∧
      s'.drc.table.reverse = s.drc.table.reverse.map (fun _ => Entry.mk .ceiling p.reverseCeil.toNat 0xE6 none none .active) ∧
      (s.configured = true → s'.drc.driveState = s.drc.driveState ∧ s'.drc.u = s.drc.u ∧
        s'.drc.tripReason = s.drc.tripReason ∧ s'.drc.loop = s.drc.loop) ∧
      (s.configured = false → s'.drc.driveState = .tripped ∧ s'.drc.tripReason = some .configured ∧
        s'.drc.u = -100 ∧ s'.drc.buffer = -100 ∧ s'.drc.resetCount = 0 ∧ s'.drc.loop = s.drc.loop) ∧
      s'.sdu.stops = s.sdu.stops ∧ s'.sdu.stopLamp = s.sdu.stopLamp ∧ s'.sdu.rampLamp = s.sdu.rampLamp ∧
      s'.sdu.locked = s.sdu.locked ∧ s'.sdu.bypass = s.sdu.bypass ∧
      (∀ i : Fin 16, ∀ c, s.sdu.buttons[i] = c → ∀ mapped : Bool, (mapped = true ↔ 64 ≤ (p.buttonMap[i]).toNat) →
        s'.sdu.buttons[i] = { c with
          stuck := c.stuck && mapped
          hold := if c.level ∧ mapped ∧ !c.isolated ∧ !c.stuck then some (c.hold.getD now) else none
          recovery := if c.stuck ∧ mapped ∧ !c.level then some (c.recovery.getD now) else none } ∧
        (c.stuck = true → mapped = false →
          ∀ e ∈ s'.clp.faults, e.code = .buttonStuck → e.index = i.val → e.active = false)) ∧
      (s.configured = true ∨ (∀ d : Fin 8, s.sdu.locked[d] = true) →
        s'.sdu.door = .none ∧ s'.drc.table.doors = s.drc.table.doors) ∧
      (s.configured = false → (∃ d : Fin 8, s.sdu.locked[d] = false) →
        s'.sdu.door = (if s.sdu.bypass then .bypassed else .unsafe_) ∧
        s'.drc.table.doors = (if s.sdu.bypass then some (Entry.mk .ceiling p.bypassCeil.toNat 0xE5 none none .active)
          else some (Entry.mk .hold 0 0xE4 none none .active)) ∧
        (s.clp.faults.length < 23 → ∀ d : Fin 8, s.sdu.locked[d] = false → Latched .doorUnlocked d.val s')) ∧
      (s.drc.warnVigilance = false → s'.tnu = s.tnu) ∧
      Replied 0x02 tag (.ok (.configured s'.drc.driveState (!s.configured))) s')

/-- R18, R35, R37, R47, R65, R87, R103, R127, R141, R153, R171, R183: what POWER_ON leaves, with the inputs examined
as they stand. The order of two AXLE_FAULT entries is the choice of assumption 29; that a POWER_ON at any moment has
this effect, and keeps the queue of waiting commands and the time base, is the choice of assumption 25. -/
def Obligations.PowerOnState : Prop :=
  ∀ (t : Nat) (inp : PowerInputs) (s : State),
    ∃ s', exec (.powerOn t inp) s = .next s' ∧ s'.now = max s.now t ∧ s'.pending = s.pending ∧ s'.configured = false ∧
      s'.params = Config.initialParams ∧
      paramsBytes s'.params = [0x07, 0xFA, 0x07, 0xFA, 0x07, 0xD0, 2, 5, 4, 3, 0xC4, 2, 100, 0, 167, 0x01, 0x16, 0, 0, 0xEA,
        0x60, 20, 80, 0, 0, 0, 0, 0, 0, 0, 0, 0, 0, 0, 0, 0, 0, 0, 0, 0, 0, 0, 15, 0x01, 0xA1, 0] ∧
      (∀ ax, (s'.amu.channel ax).speed = 0 ∧ (s'.amu.channel ax).window = none ∧ (s'.amu.channel ax).lastEdge = none ∧
        (s'.amu.channel ax).noEdge = none ∧ (s'.amu.channel ax).plausTimer = none ∧
        (s'.amu.channel ax).cls = (if (ax = .A ∧ inp.openA) ∨ (ax = .B ∧ inp.openB) then .fault else .zero)) ∧
      s'.amu.odometer = 0 ∧ s'.amu.track = 0 ∧
      s'.amu.direction = (if inp.reverse ∧ !inp.forward then .reverse else .forward) ∧
      s'.drc.driveState = .unconfigured ∧ s'.drc.u = 0 ∧ s'.drc.duty = 0 ∧ s'.drc.loop = false ∧
      s'.drc.tripReason = none ∧ s'.drc.vSup = 2000 ∧ s'.drc.lastCycle = none ∧ s'.drc.adhesion = .none ∧
      s'.drc.sand = false ∧ s'.drc.band = .normal ∧ s'.drc.vigilance = none ∧
      s'.drc.deadman = inp.deadman ∧ s'.drc.detent = inp.detent ∧
      s'.drc.reverser = (if inp.forward = inp.reverse then .neutral else if inp.forward then .forward else .reverse) ∧
      s'.drc.table.route = none ∧ s'.drc.table.doors = none ∧ s'.drc.table.link = Vector.replicate 6 none ∧
      s'.drc.table.reverse = (if inp.reverse ∧ !inp.forward then some (Entry.mk .ceiling 167 0xE6 none none .active)
        else none) ∧
      s'.drc.vCeil = (if inp.reverse ∧ !inp.forward then 167 else 2000) ∧
      s'.rtm.junctions = [] ∧ s'.rtm.plan = [] ∧ s'.rtm.context = none ∧ s'.rtm.pendingSel = none ∧ s'.rtm.zone = false ∧
      s'.rtm.lampsAre false false false ∧
      s'.lpt = { contact := none, contactTimer := none, badCount := 0, checkFault := false, toggleMemory := none
                 held := none, slotPage := none } ∧
      s'.sdu.stops = [] ∧ s'.sdu.stopLamp = false ∧ s'.sdu.rampLamp = false ∧ s'.sdu.door = .none ∧
      s'.sdu.outputs = Vector.replicate 8 .closed ∧ s'.sdu.closeTimer = none ∧ s'.sdu.bypass = inp.bypassOn ∧
      s'.sdu.locked = inp.locked ∧
      (∀ i : Fin 16, s'.sdu.buttons[i] = { raw := inp.buttons[i], isolated := false, level := false, stuck := false
                                           hold := none, recovery := none
                                           settle := if inp.buttons[i] then some (max s.now t) else none }) ∧
      (∀ ch, s'.tnu.channel ch = { playing := none, queue := [], stack := [], nextRank := 0, output := .silent }) ∧
      s'.tnu.patterns = Vector.replicate 16 none ∧ s'.tnu.loadBuffer = none ∧ s'.tnu.hornDown = false ∧
      s'.tnu.pedalDown = false ∧
      s'.clp.receiver = .hunting ∧ s'.clp.inbound = [] ∧ s'.clp.rate = 0 ∧ s'.clp.lost = false ∧
      s'.clp.overflow = false ∧ s'.clp.snapshot = none ∧
      s'.clp.faults = (if inp.openA then [FaultEntry.mk .axleFault 0 1 0 true] else []) ++
        (if inp.openB then [FaultEntry.mk .axleFault 1 1 0 true] else [])
end

