-- ==== Sys2Proof/Laws/State.lean ====
section
/-! SUPPORT. One lemma per field per update of the state, each true by `rfl`: an update of one block leaves every other
field as it was. -/

namespace Sys2Proof.Machine

variable (s : State)

@[simp] theorem State.raise_now (r : Report) : (State.raise r s).now = s.now := rfl
@[simp] theorem State.raise_poweredAt (r : Report) : (State.raise r s).poweredAt = s.poweredAt := rfl
@[simp] theorem State.raise_pending (r : Report) : (State.raise r s).pending = s.pending := rfl
@[simp] theorem State.raise_amu (r : Report) : (State.raise r s).amu = s.amu := rfl
@[simp] theorem State.raise_drc (r : Report) : (State.raise r s).drc = s.drc := rfl
@[simp] theorem State.raise_rtm (r : Report) : (State.raise r s).rtm = s.rtm := rfl
@[simp] theorem State.raise_lpt (r : Report) : (State.raise r s).lpt = s.lpt := rfl
@[simp] theorem State.raise_sdu (r : Report) : (State.raise r s).sdu = s.sdu := rfl
@[simp] theorem State.raise_tnu (r : Report) : (State.raise r s).tnu = s.tnu := rfl
@[simp] theorem State.raise_params (r : Report) : (State.raise r s).params = s.params := rfl
@[simp] theorem State.raise_configured (r : Report) : (State.raise r s).configured = s.configured := rfl

@[simp] theorem State.pushReply_now (f : OutFrame) : (State.pushReply f s).now = s.now := rfl
@[simp] theorem State.pushReply_poweredAt (f : OutFrame) : (State.pushReply f s).poweredAt = s.poweredAt := rfl
@[simp] theorem State.pushReply_pending (f : OutFrame) : (State.pushReply f s).pending = s.pending := rfl
@[simp] theorem State.pushReply_amu (f : OutFrame) : (State.pushReply f s).amu = s.amu := rfl
@[simp] theorem State.pushReply_drc (f : OutFrame) : (State.pushReply f s).drc = s.drc := rfl
@[simp] theorem State.pushReply_rtm (f : OutFrame) : (State.pushReply f s).rtm = s.rtm := rfl
@[simp] theorem State.pushReply_lpt (f : OutFrame) : (State.pushReply f s).lpt = s.lpt := rfl
@[simp] theorem State.pushReply_sdu (f : OutFrame) : (State.pushReply f s).sdu = s.sdu := rfl
@[simp] theorem State.pushReply_tnu (f : OutFrame) : (State.pushReply f s).tnu = s.tnu := rfl
@[simp] theorem State.pushReply_params (f : OutFrame) : (State.pushReply f s).params = s.params := rfl
@[simp] theorem State.pushReply_configured (f : OutFrame) : (State.pushReply f s).configured = s.configured := rfl

@[simp] theorem State.latch_now (code : FaultCode) (index : Nat) : (State.latch code index s).now = s.now := rfl
@[simp] theorem State.latch_poweredAt (code : FaultCode) (index : Nat) : (State.latch code index s).poweredAt = s.poweredAt := rfl
@[simp] theorem State.latch_pending (code : FaultCode) (index : Nat) : (State.latch code index s).pending = s.pending := rfl
@[simp] theorem State.latch_amu (code : FaultCode) (index : Nat) : (State.latch code index s).amu = s.amu := rfl
@[simp] theorem State.latch_drc (code : FaultCode) (index : Nat) : (State.latch code index s).drc = s.drc := rfl
@[simp] theorem State.latch_rtm (code : FaultCode) (index : Nat) : (State.latch code index s).rtm = s.rtm := rfl
@[simp] theorem State.latch_lpt (code : FaultCode) (index : Nat) : (State.latch code index s).lpt = s.lpt := rfl
@[simp] theorem State.latch_sdu (code : FaultCode) (index : Nat) : (State.latch code index s).sdu = s.sdu := rfl
@[simp] theorem State.latch_tnu (code : FaultCode) (index : Nat) : (State.latch code index s).tnu = s.tnu := rfl
@[simp] theorem State.latch_params (code : FaultCode) (index : Nat) : (State.latch code index s).params = s.params := rfl
@[simp] theorem State.latch_configured (code : FaultCode) (index : Nat) : (State.latch code index s).configured = s.configured := rfl

@[simp] theorem State.clearFault_now (code : FaultCode) (index : Nat) : (State.clearFault code index s).now = s.now := rfl
@[simp] theorem State.clearFault_poweredAt (code : FaultCode) (index : Nat) : (State.clearFault code index s).poweredAt = s.poweredAt := rfl
@[simp] theorem State.clearFault_pending (code : FaultCode) (index : Nat) : (State.clearFault code index s).pending = s.pending := rfl
@[simp] theorem State.clearFault_amu (code : FaultCode) (index : Nat) : (State.clearFault code index s).amu = s.amu := rfl
@[simp] theorem State.clearFault_drc (code : FaultCode) (index : Nat) : (State.clearFault code index s).drc = s.drc := rfl
@[simp] theorem State.clearFault_rtm (code : FaultCode) (index : Nat) : (State.clearFault code index s).rtm = s.rtm := rfl
@[simp] theorem State.clearFault_lpt (code : FaultCode) (index : Nat) : (State.clearFault code index s).lpt = s.lpt := rfl
@[simp] theorem State.clearFault_sdu (code : FaultCode) (index : Nat) : (State.clearFault code index s).sdu = s.sdu := rfl
@[simp] theorem State.clearFault_tnu (code : FaultCode) (index : Nat) : (State.clearFault code index s).tnu = s.tnu := rfl
@[simp] theorem State.clearFault_params (code : FaultCode) (index : Nat) : (State.clearFault code index s).params = s.params := rfl
@[simp] theorem State.clearFault_configured (code : FaultCode) (index : Nat) : (State.clearFault code index s).configured = s.configured := rfl

@[simp] theorem State.setU_now (u : Int) : (State.setU u s).now = s.now := rfl
@[simp] theorem State.setU_poweredAt (u : Int) : (State.setU u s).poweredAt = s.poweredAt := rfl
@[simp] theorem State.setU_pending (u : Int) : (State.setU u s).pending = s.pending := rfl
@[simp] theorem State.setU_amu (u : Int) : (State.setU u s).amu = s.amu := rfl
@[simp] theorem State.setU_rtm (u : Int) : (State.setU u s).rtm = s.rtm := rfl
@[simp] theorem State.setU_lpt (u : Int) : (State.setU u s).lpt = s.lpt := rfl
@[simp] theorem State.setU_sdu (u : Int) : (State.setU u s).sdu = s.sdu := rfl
@[simp] theorem State.setU_tnu (u : Int) : (State.setU u s).tnu = s.tnu := rfl
@[simp] theorem State.setU_clp (u : Int) : (State.setU u s).clp = s.clp := rfl
@[simp] theorem State.setU_params (u : Int) : (State.setU u s).params = s.params := rfl
@[simp] theorem State.setU_configured (u : Int) : (State.setU u s).configured = s.configured := rfl

@[simp] theorem State.setChannel_now (ch : ChannelId) (c : Channel) : (State.setChannel ch c s).now = s.now := rfl
@[simp] theorem State.setChannel_poweredAt (ch : ChannelId) (c : Channel) : (State.setChannel ch c s).poweredAt = s.poweredAt := rfl
@[simp] theorem State.setChannel_pending (ch : ChannelId) (c : Channel) : (State.setChannel ch c s).pending = s.pending := rfl
@[simp] theorem State.setChannel_amu (ch : ChannelId) (c : Channel) : (State.setChannel ch c s).amu = s.amu := rfl
@[simp] theorem State.setChannel_drc (ch : ChannelId) (c : Channel) : (State.setChannel ch c s).drc = s.drc := rfl
@[simp] theorem State.setChannel_rtm (ch : ChannelId) (c : Channel) : (State.setChannel ch c s).rtm = s.rtm := rfl
@[simp] theorem State.setChannel_lpt (ch : ChannelId) (c : Channel) : (State.setChannel ch c s).lpt = s.lpt := rfl
@[simp] theorem State.setChannel_sdu (ch : ChannelId) (c : Channel) : (State.setChannel ch c s).sdu = s.sdu := rfl
@[simp] theorem State.setChannel_clp (ch : ChannelId) (c : Channel) : (State.setChannel ch c s).clp = s.clp := rfl
@[simp] theorem State.setChannel_params (ch : ChannelId) (c : Channel) : (State.setChannel ch c s).params = s.params := rfl
@[simp] theorem State.setChannel_configured (ch : ChannelId) (c : Channel) : (State.setChannel ch c s).configured = s.configured := rfl

@[simp] theorem State.setAxle_now (ax : Axle) (c : AxleChannel) : (State.setAxle ax c s).now = s.now := rfl
@[simp] theorem State.setAxle_poweredAt (ax : Axle) (c : AxleChannel) : (State.setAxle ax c s).poweredAt = s.poweredAt := rfl
@[simp] theorem State.setAxle_pending (ax : Axle) (c : AxleChannel) : (State.setAxle ax c s).pending = s.pending := rfl
@[simp] theorem State.setAxle_drc (ax : Axle) (c : AxleChannel) : (State.setAxle ax c s).drc = s.drc := rfl
@[simp] theorem State.setAxle_rtm (ax : Axle) (c : AxleChannel) : (State.setAxle ax c s).rtm = s.rtm := rfl
@[simp] theorem State.setAxle_lpt (ax : Axle) (c : AxleChannel) : (State.setAxle ax c s).lpt = s.lpt := rfl
@[simp] theorem State.setAxle_sdu (ax : Axle) (c : AxleChannel) : (State.setAxle ax c s).sdu = s.sdu := rfl
@[simp] theorem State.setAxle_tnu (ax : Axle) (c : AxleChannel) : (State.setAxle ax c s).tnu = s.tnu := rfl
@[simp] theorem State.setAxle_clp (ax : Axle) (c : AxleChannel) : (State.setAxle ax c s).clp = s.clp := rfl
@[simp] theorem State.setAxle_params (ax : Axle) (c : AxleChannel) : (State.setAxle ax c s).params = s.params := rfl
@[simp] theorem State.setAxle_configured (ax : Axle) (c : AxleChannel) : (State.setAxle ax c s).configured = s.configured := rfl

@[simp] theorem State.setButton_now (i : Fin 16) (c : Conditioner) : (State.setButton i c s).now = s.now := rfl
@[simp] theorem State.setButton_poweredAt (i : Fin 16) (c : Conditioner) : (State.setButton i c s).poweredAt = s.poweredAt := rfl
@[simp] theorem State.setButton_pending (i : Fin 16) (c : Conditioner) : (State.setButton i c s).pending = s.pending := rfl
@[simp] theorem State.setButton_amu (i : Fin 16) (c : Conditioner) : (State.setButton i c s).amu = s.amu := rfl
@[simp] theorem State.setButton_drc (i : Fin 16) (c : Conditioner) : (State.setButton i c s).drc = s.drc := rfl
@[simp] theorem State.setButton_rtm (i : Fin 16) (c : Conditioner) : (State.setButton i c s).rtm = s.rtm := rfl
@[simp] theorem State.setButton_lpt (i : Fin 16) (c : Conditioner) : (State.setButton i c s).lpt = s.lpt := rfl
@[simp] theorem State.setButton_tnu (i : Fin 16) (c : Conditioner) : (State.setButton i c s).tnu = s.tnu := rfl
@[simp] theorem State.setButton_clp (i : Fin 16) (c : Conditioner) : (State.setButton i c s).clp = s.clp := rfl
@[simp] theorem State.setButton_params (i : Fin 16) (c : Conditioner) : (State.setButton i c s).params = s.params := rfl
@[simp] theorem State.setButton_configured (i : Fin 16) (c : Conditioner) : (State.setButton i c s).configured = s.configured := rfl

@[simp] theorem State.setStops_now (l : List StopEntry) : (State.setStops l s).now = s.now := rfl
@[simp] theorem State.setStops_poweredAt (l : List StopEntry) : (State.setStops l s).poweredAt = s.poweredAt := rfl
@[simp] theorem State.setStops_pending (l : List StopEntry) : (State.setStops l s).pending = s.pending := rfl
@[simp] theorem State.setStops_amu (l : List StopEntry) : (State.setStops l s).amu = s.amu := rfl
@[simp] theorem State.setStops_drc (l : List StopEntry) : (State.setStops l s).drc = s.drc := rfl
@[simp] theorem State.setStops_rtm (l : List StopEntry) : (State.setStops l s).rtm = s.rtm := rfl
@[simp] theorem State.setStops_lpt (l : List StopEntry) : (State.setStops l s).lpt = s.lpt := rfl
@[simp] theorem State.setStops_tnu (l : List StopEntry) : (State.setStops l s).tnu = s.tnu := rfl
@[simp] theorem State.setStops_clp (l : List StopEntry) : (State.setStops l s).clp = s.clp := rfl
@[simp] theorem State.setStops_params (l : List StopEntry) : (State.setStops l s).params = s.params := rfl
@[simp] theorem State.setStops_configured (l : List StopEntry) : (State.setStops l s).configured = s.configured := rfl

@[simp] theorem State.setReceiver_now (r : Receiver) : (State.setReceiver r s).now = s.now := rfl
@[simp] theorem State.setReceiver_poweredAt (r : Receiver) : (State.setReceiver r s).poweredAt = s.poweredAt := rfl
@[simp] theorem State.setReceiver_pending (r : Receiver) : (State.setReceiver r s).pending = s.pending := rfl
@[simp] theorem State.setReceiver_amu (r : Receiver) : (State.setReceiver r s).amu = s.amu := rfl
@[simp] theorem State.setReceiver_drc (r : Receiver) : (State.setReceiver r s).drc = s.drc := rfl
@[simp] theorem State.setReceiver_rtm (r : Receiver) : (State.setReceiver r s).rtm = s.rtm := rfl
@[simp] theorem State.setReceiver_lpt (r : Receiver) : (State.setReceiver r s).lpt = s.lpt := rfl
@[simp] theorem State.setReceiver_sdu (r : Receiver) : (State.setReceiver r s).sdu = s.sdu := rfl
@[simp] theorem State.setReceiver_tnu (r : Receiver) : (State.setReceiver r s).tnu = s.tnu := rfl
@[simp] theorem State.setReceiver_params (r : Receiver) : (State.setReceiver r s).params = s.params := rfl
@[simp] theorem State.setReceiver_configured (r : Receiver) : (State.setReceiver r s).configured = s.configured := rfl

@[simp] theorem State.recompute_now : (State.recompute s).now = s.now := rfl
@[simp] theorem State.recompute_poweredAt : (State.recompute s).poweredAt = s.poweredAt := rfl
@[simp] theorem State.recompute_pending : (State.recompute s).pending = s.pending := rfl
@[simp] theorem State.recompute_amu : (State.recompute s).amu = s.amu := rfl
@[simp] theorem State.recompute_rtm : (State.recompute s).rtm = s.rtm := rfl
@[simp] theorem State.recompute_lpt : (State.recompute s).lpt = s.lpt := rfl
@[simp] theorem State.recompute_sdu : (State.recompute s).sdu = s.sdu := rfl
@[simp] theorem State.recompute_tnu : (State.recompute s).tnu = s.tnu := rfl
@[simp] theorem State.recompute_clp : (State.recompute s).clp = s.clp := rfl
@[simp] theorem State.recompute_params : (State.recompute s).params = s.params := rfl
@[simp] theorem State.recompute_configured : (State.recompute s).configured = s.configured := rfl

@[simp] theorem State.writeSlot_now (slot : Slot) (e : Option Entry) : (State.writeSlot slot e s).now = s.now := rfl
@[simp] theorem State.writeSlot_poweredAt (slot : Slot) (e : Option Entry) : (State.writeSlot slot e s).poweredAt = s.poweredAt := rfl
@[simp] theorem State.writeSlot_pending (slot : Slot) (e : Option Entry) : (State.writeSlot slot e s).pending = s.pending := rfl
@[simp] theorem State.writeSlot_amu (slot : Slot) (e : Option Entry) : (State.writeSlot slot e s).amu = s.amu := rfl
@[simp] theorem State.writeSlot_rtm (slot : Slot) (e : Option Entry) : (State.writeSlot slot e s).rtm = s.rtm := rfl
@[simp] theorem State.writeSlot_lpt (slot : Slot) (e : Option Entry) : (State.writeSlot slot e s).lpt = s.lpt := rfl
@[simp] theorem State.writeSlot_sdu (slot : Slot) (e : Option Entry) : (State.writeSlot slot e s).sdu = s.sdu := rfl
@[simp] theorem State.writeSlot_tnu (slot : Slot) (e : Option Entry) : (State.writeSlot slot e s).tnu = s.tnu := rfl
@[simp] theorem State.writeSlot_clp (slot : Slot) (e : Option Entry) : (State.writeSlot slot e s).clp = s.clp := rfl
@[simp] theorem State.writeSlot_params (slot : Slot) (e : Option Entry) : (State.writeSlot slot e s).params = s.params := rfl
@[simp] theorem State.writeSlot_configured (slot : Slot) (e : Option Entry) : (State.writeSlot slot e s).configured = s.configured := rfl

@[simp] theorem State.reportEntry_now (event : RestrictEvent) (slot : Slot) (e : Entry) : (State.reportEntry event slot e s).now = s.now := rfl
@[simp] theorem State.reportEntry_poweredAt (event : RestrictEvent) (slot : Slot) (e : Entry) : (State.reportEntry event slot e s).poweredAt = s.poweredAt := rfl
@[simp] theorem State.reportEntry_pending (event : RestrictEvent) (slot : Slot) (e : Entry) : (State.reportEntry event slot e s).pending = s.pending := rfl
@[simp] theorem State.reportEntry_amu (event : RestrictEvent) (slot : Slot) (e : Entry) : (State.reportEntry event slot e s).amu = s.amu := rfl
@[simp] theorem State.reportEntry_drc (event : RestrictEvent) (slot : Slot) (e : Entry) : (State.reportEntry event slot e s).drc = s.drc := rfl
@[simp] theorem State.reportEntry_rtm (event : RestrictEvent) (slot : Slot) (e : Entry) : (State.reportEntry event slot e s).rtm = s.rtm := rfl
@[simp] theorem State.reportEntry_lpt (event : RestrictEvent) (slot : Slot) (e : Entry) : (State.reportEntry event slot e s).lpt = s.lpt := rfl
@[simp] theorem State.reportEntry_sdu (event : RestrictEvent) (slot : Slot) (e : Entry) : (State.reportEntry event slot e s).sdu = s.sdu := rfl
@[simp] theorem State.reportEntry_tnu (event : RestrictEvent) (slot : Slot) (e : Entry) : (State.reportEntry event slot e s).tnu = s.tnu := rfl
@[simp] theorem State.reportEntry_params (event : RestrictEvent) (slot : Slot) (e : Entry) : (State.reportEntry event slot e s).params = s.params := rfl
@[simp] theorem State.reportEntry_configured (event : RestrictEvent) (slot : Slot) (e : Entry) : (State.reportEntry event slot e s).configured = s.configured := rfl

@[simp] theorem State.reportEmergency_now (before : DriveState) : (State.reportEmergency before s).now = s.now := rfl
@[simp] theorem State.reportEmergency_poweredAt (before : DriveState) : (State.reportEmergency before s).poweredAt = s.poweredAt := rfl
@[simp] theorem State.reportEmergency_pending (before : DriveState) : (State.reportEmergency before s).pending = s.pending := rfl
@[simp] theorem State.reportEmergency_amu (before : DriveState) : (State.reportEmergency before s).amu = s.amu := rfl
@[simp] theorem State.reportEmergency_drc (before : DriveState) : (State.reportEmergency before s).drc = s.drc := rfl
@[simp] theorem State.reportEmergency_rtm (before : DriveState) : (State.reportEmergency before s).rtm = s.rtm := rfl
@[simp] theorem State.reportEmergency_lpt (before : DriveState) : (State.reportEmergency before s).lpt = s.lpt := rfl
@[simp] theorem State.reportEmergency_sdu (before : DriveState) : (State.reportEmergency before s).sdu = s.sdu := rfl
@[simp] theorem State.reportEmergency_tnu (before : DriveState) : (State.reportEmergency before s).tnu = s.tnu := rfl
@[simp] theorem State.reportEmergency_params (before : DriveState) : (State.reportEmergency before s).params = s.params := rfl
@[simp] theorem State.reportEmergency_configured (before : DriveState) : (State.reportEmergency before s).configured = s.configured := rfl

@[simp] theorem State.reportStops_now (cause : StopsCause) : (State.reportStops cause s).now = s.now := rfl
@[simp] theorem State.reportStops_poweredAt (cause : StopsCause) : (State.reportStops cause s).poweredAt = s.poweredAt := rfl
@[simp] theorem State.reportStops_pending (cause : StopsCause) : (State.reportStops cause s).pending = s.pending := rfl
@[simp] theorem State.reportStops_amu (cause : StopsCause) : (State.reportStops cause s).amu = s.amu := rfl
@[simp] theorem State.reportStops_drc (cause : StopsCause) : (State.reportStops cause s).drc = s.drc := rfl
@[simp] theorem State.reportStops_rtm (cause : StopsCause) : (State.reportStops cause s).rtm = s.rtm := rfl
@[simp] theorem State.reportStops_lpt (cause : StopsCause) : (State.reportStops cause s).lpt = s.lpt := rfl
@[simp] theorem State.reportStops_sdu (cause : StopsCause) : (State.reportStops cause s).sdu = s.sdu := rfl
@[simp] theorem State.reportStops_tnu (cause : StopsCause) : (State.reportStops cause s).tnu = s.tnu := rfl
@[simp] theorem State.reportStops_params (cause : StopsCause) : (State.reportStops cause s).params = s.params := rfl
@[simp] theorem State.reportStops_configured (cause : StopsCause) : (State.reportStops cause s).configured = s.configured := rfl

@[simp] theorem State.reportDoors_now (cause : DoorsCause) (before : DoorState) : (State.reportDoors cause before s).now = s.now := rfl
@[simp] theorem State.reportDoors_poweredAt (cause : DoorsCause) (before : DoorState) : (State.reportDoors cause before s).poweredAt = s.poweredAt := rfl
@[simp] theorem State.reportDoors_pending (cause : DoorsCause) (before : DoorState) : (State.reportDoors cause before s).pending = s.pending := rfl
@[simp] theorem State.reportDoors_amu (cause : DoorsCause) (before : DoorState) : (State.reportDoors cause before s).amu = s.amu := rfl
@[simp] theorem State.reportDoors_drc (cause : DoorsCause) (before : DoorState) : (State.reportDoors cause before s).drc = s.drc := rfl
@[simp] theorem State.reportDoors_rtm (cause : DoorsCause) (before : DoorState) : (State.reportDoors cause before s).rtm = s.rtm := rfl
@[simp] theorem State.reportDoors_lpt (cause : DoorsCause) (before : DoorState) : (State.reportDoors cause before s).lpt = s.lpt := rfl
@[simp] theorem State.reportDoors_sdu (cause : DoorsCause) (before : DoorState) : (State.reportDoors cause before s).sdu = s.sdu := rfl
@[simp] theorem State.reportDoors_tnu (cause : DoorsCause) (before : DoorState) : (State.reportDoors cause before s).tnu = s.tnu := rfl
@[simp] theorem State.reportDoors_params (cause : DoorsCause) (before : DoorState) : (State.reportDoors cause before s).params = s.params := rfl
@[simp] theorem State.reportDoors_configured (cause : DoorsCause) (before : DoorState) : (State.reportDoors cause before s).configured = s.configured := rfl

@[simp] theorem State.atTime_poweredAt (t : Nat) : (State.atTime t s).poweredAt = s.poweredAt := rfl
@[simp] theorem State.atTime_pending (t : Nat) : (State.atTime t s).pending = s.pending := rfl
@[simp] theorem State.atTime_amu (t : Nat) : (State.atTime t s).amu = s.amu := rfl
@[simp] theorem State.atTime_drc (t : Nat) : (State.atTime t s).drc = s.drc := rfl
@[simp] theorem State.atTime_rtm (t : Nat) : (State.atTime t s).rtm = s.rtm := rfl
@[simp] theorem State.atTime_lpt (t : Nat) : (State.atTime t s).lpt = s.lpt := rfl
@[simp] theorem State.atTime_sdu (t : Nat) : (State.atTime t s).sdu = s.sdu := rfl
@[simp] theorem State.atTime_tnu (t : Nat) : (State.atTime t s).tnu = s.tnu := rfl
@[simp] theorem State.atTime_clp (t : Nat) : (State.atTime t s).clp = s.clp := rfl
@[simp] theorem State.atTime_params (t : Nat) : (State.atTime t s).params = s.params := rfl
@[simp] theorem State.atTime_configured (t : Nat) : (State.atTime t s).configured = s.configured := rfl

@[simp] theorem State.renewFaults_now : (State.renewFaults s).now = s.now := rfl
@[simp] theorem State.renewFaults_poweredAt : (State.renewFaults s).poweredAt = s.poweredAt := rfl
@[simp] theorem State.renewFaults_pending : (State.renewFaults s).pending = s.pending := rfl
@[simp] theorem State.renewFaults_amu : (State.renewFaults s).amu = s.amu := rfl
@[simp] theorem State.renewFaults_drc : (State.renewFaults s).drc = s.drc := rfl
@[simp] theorem State.renewFaults_rtm : (State.renewFaults s).rtm = s.rtm := rfl
@[simp] theorem State.renewFaults_lpt : (State.renewFaults s).lpt = s.lpt := rfl
@[simp] theorem State.renewFaults_sdu : (State.renewFaults s).sdu = s.sdu := rfl
@[simp] theorem State.renewFaults_tnu : (State.renewFaults s).tnu = s.tnu := rfl
@[simp] theorem State.renewFaults_params : (State.renewFaults s).params = s.params := rfl
@[simp] theorem State.renewFaults_configured : (State.renewFaults s).configured = s.configured := rfl

/-! ## What the updates write -/

@[simp] theorem State.atTime_now (t : Nat) : (State.atTime t s).now = max s.now t := rfl
@[simp] theorem State.setU_u (u : Int) : (State.setU u s).drc.u = u := rfl
@[simp] theorem State.setU_buffer (u : Int) : (State.setU u s).drc.buffer = u := rfl
@[simp] theorem State.raise_clp (r : Report) : (State.raise r s).clp = s.clp.raise r := rfl
@[simp] theorem State.pushReply_clp (f : OutFrame) : (State.pushReply f s).clp = s.clp.pushReply f := rfl
@[simp] theorem State.setStops_stops (l : List StopEntry) : (State.setStops l s).sdu.stops = l := rfl
@[simp] theorem State.setStops_door (l : List StopEntry) : (State.setStops l s).sdu.door = s.sdu.door := rfl
@[simp] theorem State.setButton_stops (i : Fin 16) (c : Conditioner) :
    (State.setButton i c s).sdu.stops = s.sdu.stops := rfl
@[simp] theorem State.setButton_door (i : Fin 16) (c : Conditioner) :
    (State.setButton i c s).sdu.door = s.sdu.door := rfl

@[simp] theorem Rtm.dropHead_plan (r : Rtm) : r.dropHead.plan = r.plan.tail := rfl
@[simp] theorem Rtm.dropHead_context (r : Rtm) : r.dropHead.context = none := rfl
@[simp] theorem Rtm.dropHead_junctions (r : Rtm) : r.dropHead.junctions = r.junctions := rfl
@[simp] theorem Rtm.dropHead_pendingSel (r : Rtm) : r.dropHead.pendingSel = r.pendingSel := rfl
@[simp] theorem Rtm.dropHead_amber (r : Rtm) : r.dropHead.amber = false := rfl
@[simp] theorem Rtm.dropHead_flashStart (r : Rtm) : r.dropHead.flashStart = none := rfl

/-! RESTART at the Route Manager (R87). -/
@[simp] theorem Rtm.restarted_plan (r : Rtm) : r.restarted.plan = [] := rfl
@[simp] theorem Rtm.restarted_context (r : Rtm) : r.restarted.context = none := rfl
@[simp] theorem Rtm.restarted_junctions (r : Rtm) : r.restarted.junctions = [] := rfl
@[simp] theorem Rtm.restarted_pendingSel (r : Rtm) : r.restarted.pendingSel = none := rfl
@[simp] theorem Rtm.restarted_zone (r : Rtm) : r.restarted.zone = false := rfl
@[simp] theorem Rtm.restarted_freshDue (r : Rtm) : r.restarted.freshDue = false := rfl
@[simp] theorem Rtm.restarted_green (r : Rtm) : r.restarted.green = false := rfl
@[simp] theorem Rtm.restarted_amber (r : Rtm) : r.restarted.amber = false := rfl
@[simp] theorem Rtm.restarted_red (r : Rtm) : r.restarted.red = false := rfl
@[simp] theorem Rtm.restarted_flashStart (r : Rtm) : r.restarted.flashStart = none := rfl
@[simp] theorem Rtm.restarted_armedLeft (r : Rtm) : r.restarted.armedLeft = true := rfl
@[simp] theorem Rtm.restarted_armedStraight (r : Rtm) : r.restarted.armedStraight = true := rfl
@[simp] theorem Rtm.restarted_armedRight (r : Rtm) : r.restarted.armedRight = true := rfl
@[simp] theorem Rtm.restarted_intervalDue (r : Rtm) : r.restarted.intervalDue = r.intervalDue := rfl
@[simp] theorem ToneOutput.high_silent (now : Nat) : ToneOutput.silent.high now = false := rfl
@[simp] theorem State.statusView_inhibited : s.statusView.inhibited = s.drc.inhibited := rfl

/-- A LPT that sent nothing in the slot of the latest valid beacon is not transmitting. -/
theorem Lpt.transmitting_quiet (l : Lpt) (now : Nat) (h : l.slotPage = none) : l.transmitting now = false := by
  simp [Lpt.transmitting, h]

/-- R88: while the LPT transmits, a page leaves the state as it is; else it is taken by its class. -/
theorem State.loopPage_transmitting (page : List Byte) (h : s.lpt.transmitting s.now = true) : s.loopPage page = s := by
  simp [State.loopPage, h]
theorem State.loopPage_listening (page : List Byte) (h : s.lpt.transmitting s.now = false) :
    s.loopPage page = s.takePage page := by
  simp [State.loopPage, h]

theorem Amu.channel_setChannel (a : Amu) (ax : Axle) (c : AxleChannel) : (a.setChannel ax c).channel ax = c := by
  cases ax <;> rfl

theorem Amu.channel_setChannel_other (a : Amu) (ax : Axle) (c : AxleChannel) :
    (a.setChannel ax c).channel (otherAxle ax) = a.channel (otherAxle ax) := by
  cases ax <;> rfl

theorem Tnu.channel_setChannel (t : Tnu) (ch : ChannelId) (c : Channel) :
    (t.setChannel ch c).channel ch = c := by
  cases ch <;> rfl

theorem Tnu.channel_setChannel_other (t : Tnu) (ch ch' : ChannelId) (c : Channel) (h : ch' ≠ ch) :
    (t.setChannel ch c).channel ch' = t.channel ch' := by
  cases ch <;> cases ch' <;> first | rfl | exact absurd rfl h

theorem Table.get_set (t : Table) (slot : Slot) (e : Option Entry) : (t.set slot e).get slot = e := by
  cases slot <;> simp [Table.set, Table.get]

theorem Table.get_set_other (t : Table) (a b : Slot) (e : Option Entry) (h : b ≠ a) :
    (t.set a e).get b = t.get b := by
  cases a <;> cases b <;> simp_all [Table.set, Table.get, Vector.getElem_set, Fin.ext_iff]
  intro hv; exact absurd hv.symm (by simpa [eq_comm] using h)

end Sys2Proof.Machine
end

