-- ==== Sys2Proof/Laws/Frames.lean ====
section
/-! SUPPORT. What each shared operation of the state leaves alone: one lemma for each, a conjunction that `simp` takes
apart into one rewriting rule per field that the operation never writes. -/

namespace Sys2Proof.Machine

variable (s : State)


@[simp] theorem State.reportExit_frame (ch : ChannelId) (e : Exit) :
    (State.reportExit ch e s).now = s.now ∧ (State.reportExit ch e s).poweredAt = s.poweredAt ∧ (State.reportExit ch e s).pending = s.pending ∧
    (State.reportExit ch e s).amu = s.amu ∧ (State.reportExit ch e s).drc = s.drc ∧ (State.reportExit ch e s).rtm = s.rtm ∧
    (State.reportExit ch e s).lpt = s.lpt ∧ (State.reportExit ch e s).sdu = s.sdu ∧ (State.reportExit ch e s).tnu = s.tnu ∧
    (State.reportExit ch e s).params = s.params ∧ (State.reportExit ch e s).configured = s.configured := by
  simp only [State.reportExit]; (repeat' split) <;> simp

@[simp] theorem State.reportExits_frame (ch : ChannelId) (es : List Exit) :
    (State.reportExits ch es s).now = s.now ∧ (State.reportExits ch es s).poweredAt = s.poweredAt ∧ (State.reportExits ch es s).pending = s.pending ∧
    (State.reportExits ch es s).amu = s.amu ∧ (State.reportExits ch es s).drc = s.drc ∧ (State.reportExits ch es s).rtm = s.rtm ∧
    (State.reportExits ch es s).lpt = s.lpt ∧ (State.reportExits ch es s).sdu = s.sdu ∧ (State.reportExits ch es s).tnu = s.tnu ∧
    (State.reportExits ch es s).params = s.params ∧ (State.reportExits ch es s).configured = s.configured := by
  induction es generalizing s with
  | nil => exact ⟨rfl, rfl, rfl, rfl, rfl, rfl, rfl, rfl, rfl, rfl, rfl⟩
  | cons e es ih => simpa [State.reportExits] using ih (State.reportExit ch e s)

@[simp] theorem State.sound_frame (ch : ChannelId) (p n : Nat) (src : Source) (m : Mode) :
    (State.sound ch p n src m s).now = s.now ∧ (State.sound ch p n src m s).poweredAt = s.poweredAt ∧ (State.sound ch p n src m s).pending = s.pending ∧
    (State.sound ch p n src m s).amu = s.amu ∧ (State.sound ch p n src m s).drc = s.drc ∧ (State.sound ch p n src m s).rtm = s.rtm ∧
    (State.sound ch p n src m s).lpt = s.lpt ∧ (State.sound ch p n src m s).sdu = s.sdu ∧ (State.sound ch p n src m s).params = s.params ∧
    (State.sound ch p n src m s).configured = s.configured := by
  simp only [State.sound, State.requestSound]; (repeat' split) <;> simp

@[simp] theorem State.endSound_frame (ch : ChannelId) (src : Source) (p : Nat) :
    (State.endSound ch src p s).now = s.now ∧ (State.endSound ch src p s).poweredAt = s.poweredAt ∧ (State.endSound ch src p s).pending = s.pending ∧
    (State.endSound ch src p s).amu = s.amu ∧ (State.endSound ch src p s).drc = s.drc ∧ (State.endSound ch src p s).rtm = s.rtm ∧
    (State.endSound ch src p s).lpt = s.lpt ∧ (State.endSound ch src p s).sdu = s.sdu ∧ (State.endSound ch src p s).params = s.params ∧
    (State.endSound ch src p s).configured = s.configured := by
  simp only [State.endSound]; simp

@[simp] theorem State.stepEnd_frame (ch : ChannelId) :
    (State.stepEnd ch s).now = s.now ∧ (State.stepEnd ch s).poweredAt = s.poweredAt ∧ (State.stepEnd ch s).pending = s.pending ∧
    (State.stepEnd ch s).amu = s.amu ∧ (State.stepEnd ch s).drc = s.drc ∧ (State.stepEnd ch s).rtm = s.rtm ∧
    (State.stepEnd ch s).lpt = s.lpt ∧ (State.stepEnd ch s).sdu = s.sdu ∧ (State.stepEnd ch s).params = s.params ∧
    (State.stepEnd ch s).configured = s.configured := by
  simp only [State.stepEnd]; (repeat' split) <;> simp

@[simp] theorem State.tonePeriodEnd_frame (ch : ChannelId) :
    (State.tonePeriodEnd ch s).now = s.now ∧ (State.tonePeriodEnd ch s).poweredAt = s.poweredAt ∧ (State.tonePeriodEnd ch s).pending = s.pending ∧
    (State.tonePeriodEnd ch s).amu = s.amu ∧ (State.tonePeriodEnd ch s).drc = s.drc ∧ (State.tonePeriodEnd ch s).rtm = s.rtm ∧
    (State.tonePeriodEnd ch s).lpt = s.lpt ∧ (State.tonePeriodEnd ch s).sdu = s.sdu ∧ (State.tonePeriodEnd ch s).params = s.params ∧
    (State.tonePeriodEnd ch s).configured = s.configured := by
  simp only [State.tonePeriodEnd]; (repeat' split) <;> simp

@[simp] theorem State.hornChange_frame (b : Bool) :
    (State.hornChange b s).now = s.now ∧ (State.hornChange b s).poweredAt = s.poweredAt ∧ (State.hornChange b s).pending = s.pending ∧
    (State.hornChange b s).amu = s.amu ∧ (State.hornChange b s).drc = s.drc ∧ (State.hornChange b s).rtm = s.rtm ∧
    (State.hornChange b s).lpt = s.lpt ∧ (State.hornChange b s).sdu = s.sdu ∧ (State.hornChange b s).params = s.params ∧
    (State.hornChange b s).configured = s.configured := by
  simp only [State.hornChange]; (repeat' split) <;> simp

@[simp] theorem State.pedalChange_frame (b : Bool) :
    (State.pedalChange b s).now = s.now ∧ (State.pedalChange b s).poweredAt = s.poweredAt ∧ (State.pedalChange b s).pending = s.pending ∧
    (State.pedalChange b s).amu = s.amu ∧ (State.pedalChange b s).drc = s.drc ∧ (State.pedalChange b s).rtm = s.rtm ∧
    (State.pedalChange b s).lpt = s.lpt ∧ (State.pedalChange b s).sdu = s.sdu ∧ (State.pedalChange b s).params = s.params ∧
    (State.pedalChange b s).configured = s.configured := by
  simp only [State.pedalChange]; (repeat' split) <;> simp

@[simp] theorem State.requestVigilanceWarning_frame :
    (State.requestVigilanceWarning s).now = s.now ∧ (State.requestVigilanceWarning s).poweredAt = s.poweredAt ∧ (State.requestVigilanceWarning s).pending = s.pending ∧
    (State.requestVigilanceWarning s).amu = s.amu ∧ (State.requestVigilanceWarning s).drc = s.drc ∧ (State.requestVigilanceWarning s).rtm = s.rtm ∧
    (State.requestVigilanceWarning s).lpt = s.lpt ∧ (State.requestVigilanceWarning s).sdu = s.sdu ∧ (State.requestVigilanceWarning s).params = s.params ∧
    (State.requestVigilanceWarning s).configured = s.configured := by
  simp only [State.requestVigilanceWarning]; simp

@[simp] theorem State.requestDriveWarning_frame :
    (State.requestDriveWarning s).now = s.now ∧ (State.requestDriveWarning s).poweredAt = s.poweredAt ∧ (State.requestDriveWarning s).pending = s.pending ∧
    (State.requestDriveWarning s).amu = s.amu ∧ (State.requestDriveWarning s).drc = s.drc ∧ (State.requestDriveWarning s).rtm = s.rtm ∧
    (State.requestDriveWarning s).lpt = s.lpt ∧ (State.requestDriveWarning s).sdu = s.sdu ∧ (State.requestDriveWarning s).params = s.params ∧
    (State.requestDriveWarning s).configured = s.configured := by
  simp only [State.requestDriveWarning]; simp

@[simp] theorem State.requestAlarm_frame :
    (State.requestAlarm s).now = s.now ∧ (State.requestAlarm s).poweredAt = s.poweredAt ∧ (State.requestAlarm s).pending = s.pending ∧
    (State.requestAlarm s).amu = s.amu ∧ (State.requestAlarm s).drc = s.drc ∧ (State.requestAlarm s).rtm = s.rtm ∧
    (State.requestAlarm s).lpt = s.lpt ∧ (State.requestAlarm s).sdu = s.sdu ∧ (State.requestAlarm s).params = s.params ∧
    (State.requestAlarm s).configured = s.configured := by
  simp only [State.requestAlarm]; simp

@[simp] theorem State.requestJunctionWarning_frame :
    (State.requestJunctionWarning s).now = s.now ∧ (State.requestJunctionWarning s).poweredAt = s.poweredAt ∧ (State.requestJunctionWarning s).pending = s.pending ∧
    (State.requestJunctionWarning s).amu = s.amu ∧ (State.requestJunctionWarning s).drc = s.drc ∧ (State.requestJunctionWarning s).rtm = s.rtm ∧
    (State.requestJunctionWarning s).lpt = s.lpt ∧ (State.requestJunctionWarning s).sdu = s.sdu ∧ (State.requestJunctionWarning s).params = s.params ∧
    (State.requestJunctionWarning s).configured = s.configured := by
  simp only [State.requestJunctionWarning]; simp

@[simp] theorem State.requestChime_frame :
    (State.requestChime s).now = s.now ∧ (State.requestChime s).poweredAt = s.poweredAt ∧ (State.requestChime s).pending = s.pending ∧
    (State.requestChime s).amu = s.amu ∧ (State.requestChime s).drc = s.drc ∧ (State.requestChime s).rtm = s.rtm ∧
    (State.requestChime s).lpt = s.lpt ∧ (State.requestChime s).sdu = s.sdu ∧ (State.requestChime s).params = s.params ∧
    (State.requestChime s).configured = s.configured := by
  simp only [State.requestChime]; simp

@[simp] theorem State.requestDepartureBell_frame :
    (State.requestDepartureBell s).now = s.now ∧ (State.requestDepartureBell s).poweredAt = s.poweredAt ∧ (State.requestDepartureBell s).pending = s.pending ∧
    (State.requestDepartureBell s).amu = s.amu ∧ (State.requestDepartureBell s).drc = s.drc ∧ (State.requestDepartureBell s).rtm = s.rtm ∧
    (State.requestDepartureBell s).lpt = s.lpt ∧ (State.requestDepartureBell s).sdu = s.sdu ∧ (State.requestDepartureBell s).params = s.params ∧
    (State.requestDepartureBell s).configured = s.configured := by
  simp only [State.requestDepartureBell]; simp

@[simp] theorem State.requestRefuse_frame (src : Source) :
    (State.requestRefuse src s).now = s.now ∧ (State.requestRefuse src s).poweredAt = s.poweredAt ∧ (State.requestRefuse src s).pending = s.pending ∧
    (State.requestRefuse src s).amu = s.amu ∧ (State.requestRefuse src s).drc = s.drc ∧ (State.requestRefuse src s).rtm = s.rtm ∧
    (State.requestRefuse src s).lpt = s.lpt ∧ (State.requestRefuse src s).sdu = s.sdu ∧ (State.requestRefuse src s).params = s.params ∧
    (State.requestRefuse src s).configured = s.configured := by
  simp only [State.requestRefuse]; simp

@[simp] theorem State.clip_frame (e : Entry) :
    (State.clip e s).now = s.now ∧ (State.clip e s).poweredAt = s.poweredAt ∧ (State.clip e s).pending = s.pending ∧
    (State.clip e s).amu = s.amu ∧ (State.clip e s).rtm = s.rtm ∧ (State.clip e s).lpt = s.lpt ∧
    (State.clip e s).sdu = s.sdu ∧ (State.clip e s).tnu = s.tnu ∧ (State.clip e s).clp = s.clp ∧
    (State.clip e s).params = s.params ∧ (State.clip e s).configured = s.configured := by
  simp only [State.clip]; (repeat' split) <;> simp

@[simp] theorem State.post_frame (slot : Slot) (k : Kind) (c : Nat) (r : Byte) :
    (State.post slot k c r s).now = s.now ∧ (State.post slot k c r s).poweredAt = s.poweredAt ∧ (State.post slot k c r s).pending = s.pending ∧
    (State.post slot k c r s).amu = s.amu ∧ (State.post slot k c r s).rtm = s.rtm ∧ (State.post slot k c r s).lpt = s.lpt ∧
    (State.post slot k c r s).sdu = s.sdu ∧ (State.post slot k c r s).tnu = s.tnu ∧ (State.post slot k c r s).params = s.params ∧
    (State.post slot k c r s).configured = s.configured := by
  simp only [State.post]; (repeat' split) <;> simp

@[simp] theorem State.lift_frame (slot : Slot) :
    (State.lift slot s).now = s.now ∧ (State.lift slot s).poweredAt = s.poweredAt ∧ (State.lift slot s).pending = s.pending ∧
    (State.lift slot s).amu = s.amu ∧ (State.lift slot s).rtm = s.rtm ∧ (State.lift slot s).lpt = s.lpt ∧
    (State.lift slot s).sdu = s.sdu ∧ (State.lift slot s).tnu = s.tnu ∧ (State.lift slot s).params = s.params ∧
    (State.lift slot s).configured = s.configured := by
  simp only [State.lift]; (repeat' split) <;> simp

@[simp] theorem State.settlePlausibility_frame (ax : Axle) :
    (State.settlePlausibility ax s).now = s.now ∧ (State.settlePlausibility ax s).poweredAt = s.poweredAt ∧ (State.settlePlausibility ax s).pending = s.pending ∧
    (State.settlePlausibility ax s).drc = s.drc ∧ (State.settlePlausibility ax s).rtm = s.rtm ∧ (State.settlePlausibility ax s).lpt = s.lpt ∧
    (State.settlePlausibility ax s).sdu = s.sdu ∧ (State.settlePlausibility ax s).tnu = s.tnu ∧ (State.settlePlausibility ax s).clp = s.clp ∧
    (State.settlePlausibility ax s).params = s.params ∧ (State.settlePlausibility ax s).configured = s.configured := by
  simp only [State.settlePlausibility]; (repeat' split) <;> simp

@[simp] theorem State.endVigilanceWarning_frame :
    (State.endVigilanceWarning s).now = s.now ∧ (State.endVigilanceWarning s).poweredAt = s.poweredAt ∧ (State.endVigilanceWarning s).pending = s.pending ∧
    (State.endVigilanceWarning s).amu = s.amu ∧ (State.endVigilanceWarning s).rtm = s.rtm ∧ (State.endVigilanceWarning s).lpt = s.lpt ∧
    (State.endVigilanceWarning s).sdu = s.sdu ∧ (State.endVigilanceWarning s).params = s.params ∧ (State.endVigilanceWarning s).configured = s.configured := by
  simp only [State.endVigilanceWarning]; (repeat' split) <;> simp

@[simp] theorem State.endDriveWarning_frame :
    (State.endDriveWarning s).now = s.now ∧ (State.endDriveWarning s).poweredAt = s.poweredAt ∧ (State.endDriveWarning s).pending = s.pending ∧
    (State.endDriveWarning s).amu = s.amu ∧ (State.endDriveWarning s).rtm = s.rtm ∧ (State.endDriveWarning s).lpt = s.lpt ∧
    (State.endDriveWarning s).sdu = s.sdu ∧ (State.endDriveWarning s).params = s.params ∧ (State.endDriveWarning s).configured = s.configured := by
  simp only [State.endDriveWarning]; (repeat' split) <;> simp

@[simp] theorem State.settleVigilance_frame :
    (State.settleVigilance s).now = s.now ∧ (State.settleVigilance s).poweredAt = s.poweredAt ∧ (State.settleVigilance s).pending = s.pending ∧
    (State.settleVigilance s).amu = s.amu ∧ (State.settleVigilance s).rtm = s.rtm ∧ (State.settleVigilance s).lpt = s.lpt ∧
    (State.settleVigilance s).sdu = s.sdu ∧ (State.settleVigilance s).params = s.params ∧ (State.settleVigilance s).configured = s.configured := by
  simp only [State.settleVigilance]; (repeat' split) <;> simp

@[simp] theorem State.settle_frame :
    (State.settle s).now = s.now ∧ (State.settle s).poweredAt = s.poweredAt ∧ (State.settle s).pending = s.pending ∧
    (State.settle s).rtm = s.rtm ∧ (State.settle s).lpt = s.lpt ∧ (State.settle s).sdu = s.sdu ∧
    (State.settle s).params = s.params ∧ (State.settle s).configured = s.configured := by
  simp only [State.settle]; simp

@[simp] theorem State.handOnTrip_frame (b : DriveState) (c : TripReason) :
    (State.handOnTrip b c s).now = s.now ∧ (State.handOnTrip b c s).poweredAt = s.poweredAt ∧ (State.handOnTrip b c s).pending = s.pending ∧
    (State.handOnTrip b c s).amu = s.amu ∧ (State.handOnTrip b c s).rtm = s.rtm ∧ (State.handOnTrip b c s).lpt = s.lpt ∧
    (State.handOnTrip b c s).sdu = s.sdu ∧ (State.handOnTrip b c s).params = s.params ∧ (State.handOnTrip b c s).configured = s.configured := by
  simp only [State.handOnTrip]; (repeat' split) <;> simp

@[simp] theorem State.trip_frame (c : TripReason) :
    (State.trip c s).now = s.now ∧ (State.trip c s).poweredAt = s.poweredAt ∧ (State.trip c s).pending = s.pending ∧
    (State.trip c s).amu = s.amu ∧ (State.trip c s).rtm = s.rtm ∧ (State.trip c s).lpt = s.lpt ∧
    (State.trip c s).sdu = s.sdu ∧ (State.trip c s).params = s.params ∧ (State.trip c s).configured = s.configured := by
  simp only [State.trip]; (repeat' split) <;> simp

@[simp] theorem State.handleStage_frame :
    (State.handleStage s).now = s.now ∧ (State.handleStage s).poweredAt = s.poweredAt ∧ (State.handleStage s).pending = s.pending ∧
    (State.handleStage s).amu = s.amu ∧ (State.handleStage s).rtm = s.rtm ∧ (State.handleStage s).lpt = s.lpt ∧
    (State.handleStage s).sdu = s.sdu ∧ (State.handleStage s).tnu = s.tnu ∧ (State.handleStage s).params = s.params ∧
    (State.handleStage s).configured = s.configured := by
  simp only [State.handleStage]; (repeat' split) <;> simp

@[simp] theorem State.referenceStage_frame :
    (State.referenceStage s).now = s.now ∧ (State.referenceStage s).poweredAt = s.poweredAt ∧ (State.referenceStage s).pending = s.pending ∧
    (State.referenceStage s).amu = s.amu ∧ (State.referenceStage s).rtm = s.rtm ∧ (State.referenceStage s).lpt = s.lpt ∧
    (State.referenceStage s).sdu = s.sdu ∧ (State.referenceStage s).tnu = s.tnu ∧ (State.referenceStage s).clp = s.clp ∧
    (State.referenceStage s).params = s.params ∧ (State.referenceStage s).configured = s.configured := ⟨rfl, rfl, rfl, rfl, rfl, rfl, rfl, rfl, rfl, rfl, rfl⟩

@[simp] theorem State.adhesionStage_frame :
    (State.adhesionStage s).now = s.now ∧ (State.adhesionStage s).poweredAt = s.poweredAt ∧ (State.adhesionStage s).pending = s.pending ∧
    (State.adhesionStage s).amu = s.amu ∧ (State.adhesionStage s).rtm = s.rtm ∧ (State.adhesionStage s).lpt = s.lpt ∧
    (State.adhesionStage s).sdu = s.sdu ∧ (State.adhesionStage s).tnu = s.tnu ∧ (State.adhesionStage s).clp = s.clp ∧
    (State.adhesionStage s).params = s.params ∧ (State.adhesionStage s).configured = s.configured := ⟨rfl, rfl, rfl, rfl, rfl, rfl, rfl, rfl, rfl, rfl, rfl⟩

@[simp] theorem State.entries_frame (l : List (RestrictEvent × Slot × Entry)) :
    (l.foldl (fun s e => s.reportEntry e.1 e.2.1 e.2.2) s).now = s.now ∧ (l.foldl (fun s e => s.reportEntry e.1 e.2.1 e.2.2) s).poweredAt = s.poweredAt ∧ (l.foldl (fun s e => s.reportEntry e.1 e.2.1 e.2.2) s).pending = s.pending ∧
    (l.foldl (fun s e => s.reportEntry e.1 e.2.1 e.2.2) s).amu = s.amu ∧ (l.foldl (fun s e => s.reportEntry e.1 e.2.1 e.2.2) s).drc = s.drc ∧ (l.foldl (fun s e => s.reportEntry e.1 e.2.1 e.2.2) s).rtm = s.rtm ∧
    (l.foldl (fun s e => s.reportEntry e.1 e.2.1 e.2.2) s).lpt = s.lpt ∧ (l.foldl (fun s e => s.reportEntry e.1 e.2.1 e.2.2) s).sdu = s.sdu ∧ (l.foldl (fun s e => s.reportEntry e.1 e.2.1 e.2.2) s).tnu = s.tnu ∧
    (l.foldl (fun s e => s.reportEntry e.1 e.2.1 e.2.2) s).params = s.params ∧ (l.foldl (fun s e => s.reportEntry e.1 e.2.1 e.2.2) s).configured = s.configured := by
  induction l generalizing s with
  | nil => exact ⟨rfl, rfl, rfl, rfl, rfl, rfl, rfl, rfl, rfl, rfl, rfl⟩
  | cons c l ih => simpa using ih (State.reportEntry c.1 c.2.1 c.2.2 s)

@[simp] theorem State.activateSlot_frame (track : Pos) (slot : Slot) :
    ((State.activateSlot track slot s).1).now = s.now ∧ ((State.activateSlot track slot s).1).poweredAt = s.poweredAt ∧ ((State.activateSlot track slot s).1).pending = s.pending ∧
    ((State.activateSlot track slot s).1).amu = s.amu ∧ ((State.activateSlot track slot s).1).rtm = s.rtm ∧ ((State.activateSlot track slot s).1).lpt = s.lpt ∧
    ((State.activateSlot track slot s).1).sdu = s.sdu ∧ ((State.activateSlot track slot s).1).tnu = s.tnu ∧ ((State.activateSlot track slot s).1).clp = s.clp ∧
    ((State.activateSlot track slot s).1).params = s.params ∧ ((State.activateSlot track slot s).1).configured = s.configured := by
  simp only [State.activateSlot]; (repeat' split) <;> simp

@[simp] theorem State.expireSlot_frame (track : Pos) (slot : Slot) :
    ((State.expireSlot track slot s).1).now = s.now ∧ ((State.expireSlot track slot s).1).poweredAt = s.poweredAt ∧ ((State.expireSlot track slot s).1).pending = s.pending ∧
    ((State.expireSlot track slot s).1).amu = s.amu ∧ ((State.expireSlot track slot s).1).rtm = s.rtm ∧ ((State.expireSlot track slot s).1).lpt = s.lpt ∧
    ((State.expireSlot track slot s).1).sdu = s.sdu ∧ ((State.expireSlot track slot s).1).tnu = s.tnu ∧ ((State.expireSlot track slot s).1).clp = s.clp ∧
    ((State.expireSlot track slot s).1).params = s.params ∧ ((State.expireSlot track slot s).1).configured = s.configured := by
  simp only [State.expireSlot]; (repeat' split) <;> simp

theorem State.judgeSlots_frame (judge : Slot → State → State × List (RestrictEvent × Slot × Entry))
    (P : State → State → Prop) (refl : ∀ s, P s s) (trans : ∀ a b c, P a b → P b c → P a c)
    (h : ∀ slot s, P s (judge slot s).1) (slots : List Slot) : P s (s.judgeSlots judge slots).1 := by
  have key : ∀ (l : List Slot) (acc : State × List (RestrictEvent × Slot × Entry)),
      P acc.1 (l.foldl (fun acc slot => ((judge slot acc.1).1, acc.2 ++ (judge slot acc.1).2)) acc).1 := by
    intro l
    induction l with
    | nil => intro acc; exact refl _
    | cons a l ih => intro acc; exact trans _ _ _ (h a acc.1) (ih ((judge a acc.1).1, acc.2 ++ (judge a acc.1).2))
  exact key slots (s, [])

@[simp] theorem State.activated_frame (track : Pos) :
    ((s.judgeSlots (State.activateSlot track) linkSlots).1).now = s.now ∧ ((s.judgeSlots (State.activateSlot track) linkSlots).1).poweredAt = s.poweredAt ∧ ((s.judgeSlots (State.activateSlot track) linkSlots).1).pending = s.pending ∧
    ((s.judgeSlots (State.activateSlot track) linkSlots).1).amu = s.amu ∧ ((s.judgeSlots (State.activateSlot track) linkSlots).1).rtm = s.rtm ∧ ((s.judgeSlots (State.activateSlot track) linkSlots).1).lpt = s.lpt ∧
    ((s.judgeSlots (State.activateSlot track) linkSlots).1).sdu = s.sdu ∧ ((s.judgeSlots (State.activateSlot track) linkSlots).1).tnu = s.tnu ∧ ((s.judgeSlots (State.activateSlot track) linkSlots).1).clp = s.clp ∧
    ((s.judgeSlots (State.activateSlot track) linkSlots).1).params = s.params ∧ ((s.judgeSlots (State.activateSlot track) linkSlots).1).configured = s.configured := by
  refine State.judgeSlots_frame s _ (fun a b => b.now = a.now ∧ b.poweredAt = a.poweredAt ∧ b.pending = a.pending ∧ b.amu = a.amu ∧ b.rtm = a.rtm ∧ b.lpt = a.lpt ∧ b.sdu = a.sdu ∧ b.tnu = a.tnu ∧ b.clp = a.clp ∧ b.params = a.params ∧ b.configured = a.configured)
    (fun _ => ⟨rfl, rfl, rfl, rfl, rfl, rfl, rfl, rfl, rfl, rfl, rfl⟩) ?_ (fun slot s => by simp) _
  intro a b c h1 h2
  simp_all

@[simp] theorem State.expired_frame (track : Pos) :
    ((s.judgeSlots (State.expireSlot track) linkSlots).1).now = s.now ∧ ((s.judgeSlots (State.expireSlot track) linkSlots).1).poweredAt = s.poweredAt ∧ ((s.judgeSlots (State.expireSlot track) linkSlots).1).pending = s.pending ∧
    ((s.judgeSlots (State.expireSlot track) linkSlots).1).amu = s.amu ∧ ((s.judgeSlots (State.expireSlot track) linkSlots).1).rtm = s.rtm ∧ ((s.judgeSlots (State.expireSlot track) linkSlots).1).lpt = s.lpt ∧
    ((s.judgeSlots (State.expireSlot track) linkSlots).1).sdu = s.sdu ∧ ((s.judgeSlots (State.expireSlot track) linkSlots).1).tnu = s.tnu ∧ ((s.judgeSlots (State.expireSlot track) linkSlots).1).clp = s.clp ∧
    ((s.judgeSlots (State.expireSlot track) linkSlots).1).params = s.params ∧ ((s.judgeSlots (State.expireSlot track) linkSlots).1).configured = s.configured := by
  refine State.judgeSlots_frame s _ (fun a b => b.now = a.now ∧ b.poweredAt = a.poweredAt ∧ b.pending = a.pending ∧ b.amu = a.amu ∧ b.rtm = a.rtm ∧ b.lpt = a.lpt ∧ b.sdu = a.sdu ∧ b.tnu = a.tnu ∧ b.clp = a.clp ∧ b.params = a.params ∧ b.configured = a.configured)
    (fun _ => ⟨rfl, rfl, rfl, rfl, rfl, rfl, rfl, rfl, rfl, rfl, rfl⟩) ?_ (fun slot s => by simp) _
  intro a b c h1 h2
  simp_all

@[simp] theorem State.ceilingStage_frame :
    (State.ceilingStage s).now = s.now ∧ (State.ceilingStage s).poweredAt = s.poweredAt ∧ (State.ceilingStage s).pending = s.pending ∧
    (State.ceilingStage s).amu = s.amu ∧ (State.ceilingStage s).rtm = s.rtm ∧ (State.ceilingStage s).lpt = s.lpt ∧
    (State.ceilingStage s).sdu = s.sdu ∧ (State.ceilingStage s).tnu = s.tnu ∧ (State.ceilingStage s).params = s.params ∧
    (State.ceilingStage s).configured = s.configured := by
  simp only [State.ceilingStage]; simp

@[simp] theorem State.setBand_frame (b : Band) :
    (State.setBand b s).now = s.now ∧ (State.setBand b s).poweredAt = s.poweredAt ∧ (State.setBand b s).pending = s.pending ∧
    (State.setBand b s).amu = s.amu ∧ (State.setBand b s).rtm = s.rtm ∧ (State.setBand b s).lpt = s.lpt ∧
    (State.setBand b s).sdu = s.sdu ∧ (State.setBand b s).params = s.params ∧ (State.setBand b s).configured = s.configured := by
  simp only [State.setBand]; (repeat' split) <;> simp

@[simp] theorem State.completeReset_frame :
    (State.completeReset s).now = s.now ∧ (State.completeReset s).poweredAt = s.poweredAt ∧ (State.completeReset s).pending = s.pending ∧
    (State.completeReset s).amu = s.amu ∧ (State.completeReset s).rtm = s.rtm ∧ (State.completeReset s).lpt = s.lpt ∧
    (State.completeReset s).sdu = s.sdu ∧ (State.completeReset s).tnu = s.tnu ∧ (State.completeReset s).params = s.params ∧
    (State.completeReset s).configured = s.configured := by
  simp only [State.completeReset]; simp

@[simp] theorem State.resetStage_frame :
    (State.resetStage s).now = s.now ∧ (State.resetStage s).poweredAt = s.poweredAt ∧ (State.resetStage s).pending = s.pending ∧
    (State.resetStage s).amu = s.amu ∧ (State.resetStage s).rtm = s.rtm ∧ (State.resetStage s).lpt = s.lpt ∧
    (State.resetStage s).sdu = s.sdu ∧ (State.resetStage s).tnu = s.tnu ∧ (State.resetStage s).params = s.params ∧
    (State.resetStage s).configured = s.configured := by
  simp only [State.resetStage]; (repeat' split) <;> simp

@[simp] theorem State.bandStage_frame :
    (State.bandStage s).now = s.now ∧ (State.bandStage s).poweredAt = s.poweredAt ∧ (State.bandStage s).pending = s.pending ∧
    (State.bandStage s).amu = s.amu ∧ (State.bandStage s).rtm = s.rtm ∧ (State.bandStage s).lpt = s.lpt ∧
    (State.bandStage s).sdu = s.sdu ∧ (State.bandStage s).params = s.params ∧ (State.bandStage s).configured = s.configured := by
  simp only [State.bandStage]; (repeat' split) <;> simp

@[simp] theorem State.outputStage_frame :
    (State.outputStage s).now = s.now ∧ (State.outputStage s).poweredAt = s.poweredAt ∧ (State.outputStage s).pending = s.pending ∧
    (State.outputStage s).amu = s.amu ∧ (State.outputStage s).rtm = s.rtm ∧ (State.outputStage s).lpt = s.lpt ∧
    (State.outputStage s).sdu = s.sdu ∧ (State.outputStage s).tnu = s.tnu ∧ (State.outputStage s).clp = s.clp ∧
    (State.outputStage s).params = s.params ∧ (State.outputStage s).configured = s.configured := by
  simp only [State.outputStage]; (repeat' split) <;> simp

@[simp] theorem State.controlStages_frame :
    (State.controlStages s).now = s.now ∧ (State.controlStages s).poweredAt = s.poweredAt ∧ (State.controlStages s).pending = s.pending ∧
    (State.controlStages s).amu = s.amu ∧ (State.controlStages s).rtm = s.rtm ∧ (State.controlStages s).lpt = s.lpt ∧
    (State.controlStages s).sdu = s.sdu ∧ (State.controlStages s).params = s.params ∧ (State.controlStages s).configured = s.configured := by
  simp only [State.controlStages]; simp

@[simp] theorem State.controlInterval_frame :
    (State.controlInterval s).now = s.now ∧ (State.controlInterval s).poweredAt = s.poweredAt ∧ (State.controlInterval s).pending = s.pending ∧
    (State.controlInterval s).rtm = s.rtm ∧ (State.controlInterval s).lpt = s.lpt ∧ (State.controlInterval s).sdu = s.sdu ∧
    (State.controlInterval s).params = s.params ∧ (State.controlInterval s).configured = s.configured := by
  simp only [State.controlInterval]; (repeat' split) <;> simp

@[simp] theorem State.reverseEntry_frame (r : Reverser) :
    (State.reverseEntry r s).now = s.now ∧ (State.reverseEntry r s).poweredAt = s.poweredAt ∧ (State.reverseEntry r s).pending = s.pending ∧
    (State.reverseEntry r s).amu = s.amu ∧ (State.reverseEntry r s).rtm = s.rtm ∧ (State.reverseEntry r s).lpt = s.lpt ∧
    (State.reverseEntry r s).sdu = s.sdu ∧ (State.reverseEntry r s).tnu = s.tnu ∧ (State.reverseEntry r s).params = s.params ∧
    (State.reverseEntry r s).configured = s.configured := by
  simp only [State.reverseEntry]; (repeat' split) <;> simp

@[simp] theorem State.takeReverser_frame (r : Reverser) :
    (State.takeReverser r s).now = s.now ∧ (State.takeReverser r s).poweredAt = s.poweredAt ∧ (State.takeReverser r s).pending = s.pending ∧
    (State.takeReverser r s).rtm = s.rtm ∧ (State.takeReverser r s).lpt = s.lpt ∧ (State.takeReverser r s).sdu = s.sdu ∧
    (State.takeReverser r s).params = s.params ∧ (State.takeReverser r s).configured = s.configured := by
  simp only [State.takeReverser]; (repeat' split) <;> simp

@[simp] theorem State.closeDetent_frame :
    (State.closeDetent s).now = s.now ∧ (State.closeDetent s).poweredAt = s.poweredAt ∧ (State.closeDetent s).pending = s.pending ∧
    (State.closeDetent s).amu = s.amu ∧ (State.closeDetent s).rtm = s.rtm ∧ (State.closeDetent s).lpt = s.lpt ∧
    (State.closeDetent s).sdu = s.sdu ∧ (State.closeDetent s).params = s.params ∧ (State.closeDetent s).configured = s.configured := by
  simp only [State.closeDetent]; (repeat' split) <;> simp

@[simp] theorem State.demandPeriod_frame :
    (State.demandPeriod s).now = s.now ∧ (State.demandPeriod s).poweredAt = s.poweredAt ∧ (State.demandPeriod s).pending = s.pending ∧
    (State.demandPeriod s).amu = s.amu ∧ (State.demandPeriod s).rtm = s.rtm ∧ (State.demandPeriod s).lpt = s.lpt ∧
    (State.demandPeriod s).sdu = s.sdu ∧ (State.demandPeriod s).tnu = s.tnu ∧ (State.demandPeriod s).clp = s.clp ∧
    (State.demandPeriod s).params = s.params ∧ (State.demandPeriod s).configured = s.configured := by
  simp only [State.demandPeriod]; (repeat' split) <;> simp

@[simp] theorem State.tellLeft_frame (ax : Axle) (b : AxleClass) :
    (State.tellLeft ax b s).now = s.now ∧ (State.tellLeft ax b s).poweredAt = s.poweredAt ∧ (State.tellLeft ax b s).pending = s.pending ∧
    (State.tellLeft ax b s).amu = s.amu ∧ (State.tellLeft ax b s).drc = s.drc ∧ (State.tellLeft ax b s).rtm = s.rtm ∧
    (State.tellLeft ax b s).lpt = s.lpt ∧ (State.tellLeft ax b s).sdu = s.sdu ∧ (State.tellLeft ax b s).tnu = s.tnu ∧
    (State.tellLeft ax b s).params = s.params ∧ (State.tellLeft ax b s).configured = s.configured := by
  simp only [State.tellLeft]; (repeat' split) <;> simp

@[simp] theorem State.latchEntered_frame (ax : Axle) (b : AxleClass) :
    (State.latchEntered ax b s).now = s.now ∧ (State.latchEntered ax b s).poweredAt = s.poweredAt ∧ (State.latchEntered ax b s).pending = s.pending ∧
    (State.latchEntered ax b s).amu = s.amu ∧ (State.latchEntered ax b s).drc = s.drc ∧ (State.latchEntered ax b s).rtm = s.rtm ∧
    (State.latchEntered ax b s).lpt = s.lpt ∧ (State.latchEntered ax b s).sdu = s.sdu ∧ (State.latchEntered ax b s).tnu = s.tnu ∧
    (State.latchEntered ax b s).params = s.params ∧ (State.latchEntered ax b s).configured = s.configured := by
  simp only [State.latchEntered]; (repeat' split) <;> simp

@[simp] theorem State.tachoEdge_frame (ax : Axle) :
    (State.tachoEdge ax s).now = s.now ∧ (State.tachoEdge ax s).poweredAt = s.poweredAt ∧ (State.tachoEdge ax s).pending = s.pending ∧
    (State.tachoEdge ax s).rtm = s.rtm ∧ (State.tachoEdge ax s).lpt = s.lpt ∧ (State.tachoEdge ax s).sdu = s.sdu ∧
    (State.tachoEdge ax s).params = s.params ∧ (State.tachoEdge ax s).configured = s.configured := by
  simp only [State.tachoEdge]; (repeat' split) <;> simp

@[simp] theorem State.noEdgeExpiry_frame (ax : Axle) :
    (State.noEdgeExpiry ax s).now = s.now ∧ (State.noEdgeExpiry ax s).poweredAt = s.poweredAt ∧ (State.noEdgeExpiry ax s).pending = s.pending ∧
    (State.noEdgeExpiry ax s).rtm = s.rtm ∧ (State.noEdgeExpiry ax s).lpt = s.lpt ∧ (State.noEdgeExpiry ax s).sdu = s.sdu ∧
    (State.noEdgeExpiry ax s).params = s.params ∧ (State.noEdgeExpiry ax s).configured = s.configured := by
  simp only [State.noEdgeExpiry]; (repeat' split) <;> simp

@[simp] theorem State.sensorOpen_frame (ax : Axle) :
    (State.sensorOpen ax s).now = s.now ∧ (State.sensorOpen ax s).poweredAt = s.poweredAt ∧ (State.sensorOpen ax s).pending = s.pending ∧
    (State.sensorOpen ax s).rtm = s.rtm ∧ (State.sensorOpen ax s).lpt = s.lpt ∧ (State.sensorOpen ax s).sdu = s.sdu ∧
    (State.sensorOpen ax s).params = s.params ∧ (State.sensorOpen ax s).configured = s.configured := by
  simp only [State.sensorOpen]; (repeat' split) <;> simp

@[simp] theorem State.sensorOk_frame (ax : Axle) :
    (State.sensorOk ax s).now = s.now ∧ (State.sensorOk ax s).poweredAt = s.poweredAt ∧ (State.sensorOk ax s).pending = s.pending ∧
    (State.sensorOk ax s).rtm = s.rtm ∧ (State.sensorOk ax s).lpt = s.lpt ∧ (State.sensorOk ax s).sdu = s.sdu ∧
    (State.sensorOk ax s).params = s.params ∧ (State.sensorOk ax s).configured = s.configured := by
  simp only [State.sensorOk]; (repeat' split) <;> simp

@[simp] theorem State.plausibilityExpiry_frame (ax : Axle) :
    (State.plausibilityExpiry ax s).now = s.now ∧ (State.plausibilityExpiry ax s).poweredAt = s.poweredAt ∧ (State.plausibilityExpiry ax s).pending = s.pending ∧
    (State.plausibilityExpiry ax s).rtm = s.rtm ∧ (State.plausibilityExpiry ax s).lpt = s.lpt ∧ (State.plausibilityExpiry ax s).sdu = s.sdu ∧
    (State.plausibilityExpiry ax s).params = s.params ∧ (State.plausibilityExpiry ax s).configured = s.configured := by
  simp only [State.plausibilityExpiry]; (repeat' split) <;> simp

@[simp] theorem State.latches_frame (l : List FaultCode) : (l.foldl (fun s c => s.latch c 0) s).now = s.now ∧ (l.foldl (fun s c => s.latch c 0) s).poweredAt = s.poweredAt ∧ (l.foldl (fun s c => s.latch c 0) s).pending = s.pending ∧
    (l.foldl (fun s c => s.latch c 0) s).amu = s.amu ∧ (l.foldl (fun s c => s.latch c 0) s).drc = s.drc ∧ (l.foldl (fun s c => s.latch c 0) s).rtm = s.rtm ∧
    (l.foldl (fun s c => s.latch c 0) s).lpt = s.lpt ∧ (l.foldl (fun s c => s.latch c 0) s).sdu = s.sdu ∧ (l.foldl (fun s c => s.latch c 0) s).tnu = s.tnu ∧
    (l.foldl (fun s c => s.latch c 0) s).params = s.params ∧ (l.foldl (fun s c => s.latch c 0) s).configured = s.configured := by
  induction l generalizing s with
  | nil => exact ⟨rfl, rfl, rfl, rfl, rfl, rfl, rfl, rfl, rfl, rfl, rfl⟩
  | cons c l ih => simpa using ih (State.latch c 0 s)

@[simp] theorem State.junctions_frame (l : List JunctionReport) : (l.foldl (fun s r => s.raise (.junction r)) s).now = s.now ∧ (l.foldl (fun s r => s.raise (.junction r)) s).poweredAt = s.poweredAt ∧ (l.foldl (fun s r => s.raise (.junction r)) s).pending = s.pending ∧
    (l.foldl (fun s r => s.raise (.junction r)) s).amu = s.amu ∧ (l.foldl (fun s r => s.raise (.junction r)) s).drc = s.drc ∧ (l.foldl (fun s r => s.raise (.junction r)) s).rtm = s.rtm ∧
    (l.foldl (fun s r => s.raise (.junction r)) s).lpt = s.lpt ∧ (l.foldl (fun s r => s.raise (.junction r)) s).sdu = s.sdu ∧ (l.foldl (fun s r => s.raise (.junction r)) s).tnu = s.tnu ∧
    (l.foldl (fun s r => s.raise (.junction r)) s).params = s.params ∧ (l.foldl (fun s r => s.raise (.junction r)) s).configured = s.configured := by
  induction l generalizing s with
  | nil => exact ⟨rfl, rfl, rfl, rfl, rfl, rfl, rfl, rfl, rfl, rfl, rfl⟩
  | cons c l ih => simpa using ih (State.raise (.junction c) s)

@[simp] theorem State.handOn_frame (e : Emit) :
    (State.handOn e s).now = s.now ∧ (State.handOn e s).poweredAt = s.poweredAt ∧ (State.handOn e s).pending = s.pending ∧
    (State.handOn e s).amu = s.amu ∧ (State.handOn e s).rtm = s.rtm ∧ (State.handOn e s).lpt = s.lpt ∧
    (State.handOn e s).sdu = s.sdu ∧ (State.handOn e s).params = s.params ∧ (State.handOn e s).configured = s.configured := by
  simp only [State.handOn]; (repeat' split) <;> simp

@[simp] theorem State.handOnBeacon_frame (b : ExState) (c : Nat) (fs : List FaultCode) (w : Bool) (e : Emit) :
    (State.handOnBeacon b c fs w e s).now = s.now ∧ (State.handOnBeacon b c fs w e s).poweredAt = s.poweredAt ∧ (State.handOnBeacon b c fs w e s).pending = s.pending ∧
    (State.handOnBeacon b c fs w e s).amu = s.amu ∧ (State.handOnBeacon b c fs w e s).lpt = s.lpt ∧ (State.handOnBeacon b c fs w e s).sdu = s.sdu ∧
    (State.handOnBeacon b c fs w e s).params = s.params ∧ (State.handOnBeacon b c fs w e s).configured = s.configured := by
  simp only [State.handOnBeacon]; (repeat' split) <;> simp

@[simp] theorem State.firstContact_frame (h : PlanEntry) (j : JunctionRecord) (b : Beacon) (e : Emit) :
    (State.firstContact h j b e s).now = s.now ∧ (State.firstContact h j b e s).poweredAt = s.poweredAt ∧ (State.firstContact h j b e s).pending = s.pending ∧
    (State.firstContact h j b e s).amu = s.amu ∧ (State.firstContact h j b e s).sdu = s.sdu ∧ (State.firstContact h j b e s).params = s.params ∧
    (State.firstContact h j b e s).configured = s.configured := by
  simp only [State.firstContact]; simp

@[simp] theorem State.enterUnknown_frame (b : Beacon) (e : Emit) :
    (State.enterUnknown b e s).now = s.now ∧ (State.enterUnknown b e s).poweredAt = s.poweredAt ∧ (State.enterUnknown b e s).pending = s.pending ∧
    (State.enterUnknown b e s).amu = s.amu ∧ (State.enterUnknown b e s).sdu = s.sdu ∧ (State.enterUnknown b e s).params = s.params ∧
    (State.enterUnknown b e s).configured = s.configured := by
  simp only [State.enterUnknown]; simp

@[simp] theorem State.beaconMoves_frame (h : PlanEntry) (c : Context) (pc : PageContext) (b : Beacon) (e : Emit) :
    (State.beaconMoves h c pc b e s).now = s.now ∧ (State.beaconMoves h c pc b e s).poweredAt = s.poweredAt ∧ (State.beaconMoves h c pc b e s).pending = s.pending ∧
    (State.beaconMoves h c pc b e s).amu = s.amu ∧ (State.beaconMoves h c pc b e s).sdu = s.sdu ∧ (State.beaconMoves h c pc b e s).params = s.params ∧
    (State.beaconMoves h c pc b e s).configured = s.configured := by
  simp only [State.beaconMoves]; simp

@[simp] theorem State.exchange_frame (b : Beacon) (e : Emit) :
    (State.exchange b e s).now = s.now ∧ (State.exchange b e s).poweredAt = s.poweredAt ∧ (State.exchange b e s).pending = s.pending ∧
    (State.exchange b e s).amu = s.amu ∧ (State.exchange b e s).sdu = s.sdu ∧ (State.exchange b e s).params = s.params ∧
    (State.exchange b e s).configured = s.configured := by
  simp only [State.exchange]; (repeat' split) <;> simp

@[simp] theorem State.validBeacon_frame (b : Beacon) :
    (State.validBeacon b s).now = s.now ∧ (State.validBeacon b s).poweredAt = s.poweredAt ∧ (State.validBeacon b s).pending = s.pending ∧
    (State.validBeacon b s).amu = s.amu ∧ (State.validBeacon b s).sdu = s.sdu ∧ (State.validBeacon b s).params = s.params ∧
    (State.validBeacon b s).configured = s.configured := by
  simp only [State.validBeacon]; (repeat' split) <;> simp

@[simp] theorem State.badBeacon_frame :
    (State.badBeacon s).now = s.now ∧ (State.badBeacon s).poweredAt = s.poweredAt ∧ (State.badBeacon s).pending = s.pending ∧
    (State.badBeacon s).amu = s.amu ∧ (State.badBeacon s).drc = s.drc ∧ (State.badBeacon s).sdu = s.sdu ∧
    (State.badBeacon s).tnu = s.tnu ∧ (State.badBeacon s).params = s.params ∧ (State.badBeacon s).configured = s.configured := by
  simp only [State.badBeacon]; (repeat' split) <;> simp

@[simp] theorem State.loopPage_frame (page : List Byte) :
    (State.loopPage page s).now = s.now ∧ (State.loopPage page s).poweredAt = s.poweredAt ∧ (State.loopPage page s).pending = s.pending ∧
    (State.loopPage page s).amu = s.amu ∧ (State.loopPage page s).sdu = s.sdu ∧ (State.loopPage page s).params = s.params ∧
    (State.loopPage page s).configured = s.configured := by
  simp only [State.loopPage, State.takePage]; (repeat' split) <;> simp

@[simp] theorem State.loseContact_frame (j : Half) :
    (State.loseContact j s).now = s.now ∧ (State.loseContact j s).poweredAt = s.poweredAt ∧ (State.loseContact j s).pending = s.pending ∧
    (State.loseContact j s).amu = s.amu ∧ (State.loseContact j s).lpt = s.lpt ∧ (State.loseContact j s).sdu = s.sdu ∧
    (State.loseContact j s).params = s.params ∧ (State.loseContact j s).configured = s.configured := by
  simp only [State.loseContact]; (repeat' split) <;> simp

@[simp] theorem State.contactLost_frame :
    (State.contactLost s).now = s.now ∧ (State.contactLost s).poweredAt = s.poweredAt ∧ (State.contactLost s).pending = s.pending ∧
    (State.contactLost s).amu = s.amu ∧ (State.contactLost s).sdu = s.sdu ∧ (State.contactLost s).params = s.params ∧
    (State.contactLost s).configured = s.configured := by
  simp only [State.contactLost]; (repeat' split) <;> simp

@[simp] theorem State.passHead_frame (h : PlanEntry) (d : Int) :
    (State.passHead h d s).now = s.now ∧ (State.passHead h d s).poweredAt = s.poweredAt ∧ (State.passHead h d s).pending = s.pending ∧
    (State.passHead h d s).amu = s.amu ∧ (State.passHead h d s).lpt = s.lpt ∧ (State.passHead h d s).sdu = s.sdu ∧
    (State.passHead h d s).params = s.params ∧ (State.passHead h d s).configured = s.configured := by
  simp only [State.passHead]; (repeat' split) <;> simp

@[simp] theorem State.superviseHead_frame (h : PlanEntry) (d : Int) :
    (State.superviseHead h d s).now = s.now ∧ (State.superviseHead h d s).poweredAt = s.poweredAt ∧ (State.superviseHead h d s).pending = s.pending ∧
    (State.superviseHead h d s).amu = s.amu ∧ (State.superviseHead h d s).lpt = s.lpt ∧ (State.superviseHead h d s).sdu = s.sdu ∧
    (State.superviseHead h d s).params = s.params ∧ (State.superviseHead h d s).configured = s.configured := by
  simp only [State.superviseHead]; simp

@[simp] theorem State.approachSteps_frame :
    (State.approachSteps s).now = s.now ∧ (State.approachSteps s).poweredAt = s.poweredAt ∧ (State.approachSteps s).pending = s.pending ∧
    (State.approachSteps s).amu = s.amu ∧ (State.approachSteps s).lpt = s.lpt ∧ (State.approachSteps s).sdu = s.sdu ∧
    (State.approachSteps s).params = s.params ∧ (State.approachSteps s).configured = s.configured := by
  simp only [State.approachSteps]; (repeat' split) <;> simp

@[simp] theorem State.approachInterval_frame :
    (State.approachInterval s).now = s.now ∧ (State.approachInterval s).poweredAt = s.poweredAt ∧ (State.approachInterval s).pending = s.pending ∧
    (State.approachInterval s).amu = s.amu ∧ (State.approachInterval s).lpt = s.lpt ∧ (State.approachInterval s).sdu = s.sdu ∧
    (State.approachInterval s).params = s.params ∧ (State.approachInterval s).configured = s.configured := by
  simp only [State.approachInterval]; (repeat' split) <;> simp

@[simp] theorem State.amberFlash_frame :
    (State.amberFlash s).now = s.now ∧ (State.amberFlash s).poweredAt = s.poweredAt ∧ (State.amberFlash s).pending = s.pending ∧
    (State.amberFlash s).amu = s.amu ∧ (State.amberFlash s).drc = s.drc ∧ (State.amberFlash s).lpt = s.lpt ∧
    (State.amberFlash s).sdu = s.sdu ∧ (State.amberFlash s).tnu = s.tnu ∧ (State.amberFlash s).clp = s.clp ∧
    (State.amberFlash s).params = s.params ∧ (State.amberFlash s).configured = s.configured := by
  simp only [State.amberFlash]; (repeat' split) <;> simp

@[simp] theorem State.replaceSelection_frame (h : PlanEntry) (sel : Selection) :
    (State.replaceSelection h sel s).now = s.now ∧ (State.replaceSelection h sel s).poweredAt = s.poweredAt ∧ (State.replaceSelection h sel s).pending = s.pending ∧
    (State.replaceSelection h sel s).amu = s.amu ∧ (State.replaceSelection h sel s).lpt = s.lpt ∧ (State.replaceSelection h sel s).sdu = s.sdu ∧
    (State.replaceSelection h sel s).params = s.params ∧ (State.replaceSelection h sel s).configured = s.configured := by
  simp only [State.replaceSelection]; (repeat' split) <;> simp

@[simp] theorem State.reRequest_frame (h : PlanEntry) (j : JunctionRecord) (sel : Selection) :
    (State.reRequest h j sel s).now = s.now ∧ (State.reRequest h j sel s).poweredAt = s.poweredAt ∧ (State.reRequest h j sel s).pending = s.pending ∧
    (State.reRequest h j sel s).amu = s.amu ∧ (State.reRequest h j sel s).lpt = s.lpt ∧ (State.reRequest h j sel s).sdu = s.sdu ∧
    (State.reRequest h j sel s).params = s.params ∧ (State.reRequest h j sel s).configured = s.configured := by
  simp only [State.reRequest]; (repeat' split) <;> simp

@[simp] theorem State.selectHead_frame (sel : Selection) :
    (State.selectHead sel s).now = s.now ∧ (State.selectHead sel s).poweredAt = s.poweredAt ∧ (State.selectHead sel s).pending = s.pending ∧
    (State.selectHead sel s).amu = s.amu ∧ (State.selectHead sel s).lpt = s.lpt ∧ (State.selectHead sel s).sdu = s.sdu ∧
    (State.selectHead sel s).params = s.params ∧ (State.selectHead sel s).configured = s.configured := by
  simp only [State.selectHead]; (repeat' split) <;> simp

@[simp] theorem State.selectorPress_frame (sel : Selection) :
    (State.selectorPress sel s).now = s.now ∧ (State.selectorPress sel s).poweredAt = s.poweredAt ∧ (State.selectorPress sel s).pending = s.pending ∧
    (State.selectorPress sel s).amu = s.amu ∧ (State.selectorPress sel s).lpt = s.lpt ∧ (State.selectorPress sel s).sdu = s.sdu ∧
    (State.selectorPress sel s).params = s.params ∧ (State.selectorPress sel s).configured = s.configured := by
  simp only [State.selectorPress]; (repeat' split) <;> simp

@[simp] theorem State.offerStop_frame (d : Fin 8) (b : Fin 16) (k : StopKind) :
    (State.offerStop d b k s).now = s.now ∧ (State.offerStop d b k s).poweredAt = s.poweredAt ∧ (State.offerStop d b k s).pending = s.pending ∧
    (State.offerStop d b k s).amu = s.amu ∧ (State.offerStop d b k s).drc = s.drc ∧ (State.offerStop d b k s).rtm = s.rtm ∧
    (State.offerStop d b k s).lpt = s.lpt ∧ (State.offerStop d b k s).params = s.params ∧ (State.offerStop d b k s).configured = s.configured := by
  simp only [State.offerStop]; (repeat' split) <;> simp

@[simp] theorem State.setDoor_frame (d : DoorState) :
    (State.setDoor d s).now = s.now ∧ (State.setDoor d s).poweredAt = s.poweredAt ∧ (State.setDoor d s).pending = s.pending ∧
    (State.setDoor d s).amu = s.amu ∧ (State.setDoor d s).drc = s.drc ∧ (State.setDoor d s).rtm = s.rtm ∧
    (State.setDoor d s).lpt = s.lpt ∧ (State.setDoor d s).tnu = s.tnu ∧ (State.setDoor d s).params = s.params ∧
    (State.setDoor d s).configured = s.configured := by
  simp only [State.setDoor]; simp

@[simp] theorem State.postHold_frame :
    (State.postHold s).now = s.now ∧ (State.postHold s).poweredAt = s.poweredAt ∧ (State.postHold s).pending = s.pending ∧
    (State.postHold s).amu = s.amu ∧ (State.postHold s).rtm = s.rtm ∧ (State.postHold s).lpt = s.lpt ∧
    (State.postHold s).sdu = s.sdu ∧ (State.postHold s).tnu = s.tnu ∧ (State.postHold s).params = s.params ∧
    (State.postHold s).configured = s.configured := by
  simp only [State.postHold]; simp

@[simp] theorem State.postBypass_frame :
    (State.postBypass s).now = s.now ∧ (State.postBypass s).poweredAt = s.poweredAt ∧ (State.postBypass s).pending = s.pending ∧
    (State.postBypass s).amu = s.amu ∧ (State.postBypass s).rtm = s.rtm ∧ (State.postBypass s).lpt = s.lpt ∧
    (State.postBypass s).sdu = s.sdu ∧ (State.postBypass s).tnu = s.tnu ∧ (State.postBypass s).params = s.params ∧
    (State.postBypass s).configured = s.configured := by
  simp only [State.postBypass]; simp

@[simp] theorem State.latchUnlocked_frame (ds : List (Fin 8)) :
    (State.latchUnlocked ds s).now = s.now ∧ (State.latchUnlocked ds s).poweredAt = s.poweredAt ∧ (State.latchUnlocked ds s).pending = s.pending ∧
    (State.latchUnlocked ds s).amu = s.amu ∧ (State.latchUnlocked ds s).drc = s.drc ∧ (State.latchUnlocked ds s).rtm = s.rtm ∧
    (State.latchUnlocked ds s).lpt = s.lpt ∧ (State.latchUnlocked ds s).sdu = s.sdu ∧ (State.latchUnlocked ds s).tnu = s.tnu ∧
    (State.latchUnlocked ds s).params = s.params ∧ (State.latchUnlocked ds s).configured = s.configured := by
  induction ds generalizing s with
  | nil => exact ⟨rfl, rfl, rfl, rfl, rfl, rfl, rfl, rfl, rfl, rfl, rfl⟩
  | cons d ds ih => simpa [State.latchUnlocked] using ih (State.latch .doorUnlocked d.val s)

@[simp] theorem State.enterBypassed_frame :
    (State.enterBypassed s).now = s.now ∧ (State.enterBypassed s).poweredAt = s.poweredAt ∧ (State.enterBypassed s).pending = s.pending ∧
    (State.enterBypassed s).amu = s.amu ∧ (State.enterBypassed s).rtm = s.rtm ∧ (State.enterBypassed s).lpt = s.lpt ∧
    (State.enterBypassed s).tnu = s.tnu ∧ (State.enterBypassed s).params = s.params ∧ (State.enterBypassed s).configured = s.configured := by
  simp only [State.enterBypassed]; simp

@[simp] theorem State.enterUnsafe_frame (ds : List (Fin 8)) :
    (State.enterUnsafe ds s).now = s.now ∧ (State.enterUnsafe ds s).poweredAt = s.poweredAt ∧ (State.enterUnsafe ds s).pending = s.pending ∧
    (State.enterUnsafe ds s).amu = s.amu ∧ (State.enterUnsafe ds s).rtm = s.rtm ∧ (State.enterUnsafe ds s).lpt = s.lpt ∧
    (State.enterUnsafe ds s).tnu = s.tnu ∧ (State.enterUnsafe ds s).params = s.params ∧ (State.enterUnsafe ds s).configured = s.configured := by
  simp only [State.enterUnsafe]; (repeat' split) <;> simp

@[simp] theorem State.completeClosing_frame :
    (State.completeClosing s).now = s.now ∧ (State.completeClosing s).poweredAt = s.poweredAt ∧ (State.completeClosing s).pending = s.pending ∧
    (State.completeClosing s).amu = s.amu ∧ (State.completeClosing s).rtm = s.rtm ∧ (State.completeClosing s).lpt = s.lpt ∧
    (State.completeClosing s).params = s.params ∧ (State.completeClosing s).configured = s.configured := by
  simp only [State.completeClosing]; (repeat' split) <;> simp

@[simp] theorem State.returnToNone_frame :
    (State.returnToNone s).now = s.now ∧ (State.returnToNone s).poweredAt = s.poweredAt ∧ (State.returnToNone s).pending = s.pending ∧
    (State.returnToNone s).amu = s.amu ∧ (State.returnToNone s).rtm = s.rtm ∧ (State.returnToNone s).lpt = s.lpt ∧
    (State.returnToNone s).tnu = s.tnu ∧ (State.returnToNone s).params = s.params ∧ (State.returnToNone s).configured = s.configured := by
  simp only [State.returnToNone]; simp

@[simp] theorem State.releaseStops_frame (side : Side) :
    (State.releaseStops side s).now = s.now ∧ (State.releaseStops side s).poweredAt = s.poweredAt ∧ (State.releaseStops side s).pending = s.pending ∧
    (State.releaseStops side s).amu = s.amu ∧ (State.releaseStops side s).drc = s.drc ∧ (State.releaseStops side s).rtm = s.rtm ∧
    (State.releaseStops side s).lpt = s.lpt ∧ (State.releaseStops side s).tnu = s.tnu ∧ (State.releaseStops side s).params = s.params ∧
    (State.releaseStops side s).configured = s.configured := by
  simp only [State.releaseStops]; (repeat' split) <;> simp

@[simp] theorem State.release_frame (side : Side) :
    (State.release side s).now = s.now ∧ (State.release side s).poweredAt = s.poweredAt ∧ (State.release side s).pending = s.pending ∧
    (State.release side s).amu = s.amu ∧ (State.release side s).rtm = s.rtm ∧ (State.release side s).lpt = s.lpt ∧
    (State.release side s).tnu = s.tnu ∧ (State.release side s).params = s.params ∧ (State.release side s).configured = s.configured := by
  simp only [State.release]; simp

@[simp] theorem State.reRelease_frame (side : Side) :
    (State.reRelease side s).now = s.now ∧ (State.reRelease side s).poweredAt = s.poweredAt ∧ (State.reRelease side s).pending = s.pending ∧
    (State.reRelease side s).amu = s.amu ∧ (State.reRelease side s).drc = s.drc ∧ (State.reRelease side s).rtm = s.rtm ∧
    (State.reRelease side s).lpt = s.lpt ∧ (State.reRelease side s).tnu = s.tnu ∧ (State.reRelease side s).params = s.params ∧
    (State.reRelease side s).configured = s.configured := by
  simp only [State.reRelease]; simp

@[simp] theorem State.refuseRelease_frame :
    (State.refuseRelease s).now = s.now ∧ (State.refuseRelease s).poweredAt = s.poweredAt ∧ (State.refuseRelease s).pending = s.pending ∧
    (State.refuseRelease s).amu = s.amu ∧ (State.refuseRelease s).drc = s.drc ∧ (State.refuseRelease s).rtm = s.rtm ∧
    (State.refuseRelease s).lpt = s.lpt ∧ (State.refuseRelease s).sdu = s.sdu ∧ (State.refuseRelease s).params = s.params ∧
    (State.refuseRelease s).configured = s.configured := by
  simp only [State.refuseRelease]; simp

@[simp] theorem State.releaseRequest_frame (side : Side) :
    (State.releaseRequest side s).now = s.now ∧ (State.releaseRequest side s).poweredAt = s.poweredAt ∧ (State.releaseRequest side s).pending = s.pending ∧
    (State.releaseRequest side s).amu = s.amu ∧ (State.releaseRequest side s).rtm = s.rtm ∧ (State.releaseRequest side s).lpt = s.lpt ∧
    (State.releaseRequest side s).params = s.params ∧ (State.releaseRequest side s).configured = s.configured := by
  simp only [State.releaseRequest]; (repeat' split) <;> simp

@[simp] theorem State.closeRequest_frame :
    (State.closeRequest s).now = s.now ∧ (State.closeRequest s).poweredAt = s.poweredAt ∧ (State.closeRequest s).pending = s.pending ∧
    (State.closeRequest s).amu = s.amu ∧ (State.closeRequest s).rtm = s.rtm ∧ (State.closeRequest s).lpt = s.lpt ∧
    (State.closeRequest s).params = s.params ∧ (State.closeRequest s).configured = s.configured := by
  simp only [State.closeRequest]; (repeat' split) <;> simp

@[simp] theorem State.closeTimeout_frame :
    (State.closeTimeout s).now = s.now ∧ (State.closeTimeout s).poweredAt = s.poweredAt ∧ (State.closeTimeout s).pending = s.pending ∧
    (State.closeTimeout s).amu = s.amu ∧ (State.closeTimeout s).drc = s.drc ∧ (State.closeTimeout s).rtm = s.rtm ∧
    (State.closeTimeout s).lpt = s.lpt ∧ (State.closeTimeout s).tnu = s.tnu ∧ (State.closeTimeout s).params = s.params ∧
    (State.closeTimeout s).configured = s.configured := by
  simp only [State.closeTimeout]; (repeat' split) <;> simp

@[simp] theorem State.sessionRequest_frame (d : Fin 8) (b : Fin 16) :
    (State.sessionRequest d b s).now = s.now ∧ (State.sessionRequest d b s).poweredAt = s.poweredAt ∧ (State.sessionRequest d b s).pending = s.pending ∧
    (State.sessionRequest d b s).amu = s.amu ∧ (State.sessionRequest d b s).drc = s.drc ∧ (State.sessionRequest d b s).rtm = s.rtm ∧
    (State.sessionRequest d b s).lpt = s.lpt ∧ (State.sessionRequest d b s).tnu = s.tnu ∧ (State.sessionRequest d b s).params = s.params ∧
    (State.sessionRequest d b s).configured = s.configured := by
  simp only [State.sessionRequest]; (repeat' split) <;> simp

@[simp] theorem State.doorUnlocks_frame (d : Fin 8) :
    (State.doorUnlocks d s).now = s.now ∧ (State.doorUnlocks d s).poweredAt = s.poweredAt ∧ (State.doorUnlocks d s).pending = s.pending ∧
    (State.doorUnlocks d s).amu = s.amu ∧ (State.doorUnlocks d s).rtm = s.rtm ∧ (State.doorUnlocks d s).lpt = s.lpt ∧
    (State.doorUnlocks d s).tnu = s.tnu ∧ (State.doorUnlocks d s).params = s.params ∧ (State.doorUnlocks d s).configured = s.configured := by
  simp only [State.doorUnlocks]; (repeat' split) <;> simp

@[simp] theorem State.doorLocks_frame (d : Fin 8) :
    (State.doorLocks d s).now = s.now ∧ (State.doorLocks d s).poweredAt = s.poweredAt ∧ (State.doorLocks d s).pending = s.pending ∧
    (State.doorLocks d s).amu = s.amu ∧ (State.doorLocks d s).rtm = s.rtm ∧ (State.doorLocks d s).lpt = s.lpt ∧
    (State.doorLocks d s).params = s.params ∧ (State.doorLocks d s).configured = s.configured := by
  simp only [State.doorLocks]; (repeat' split) <;> simp

@[simp] theorem State.doorInput_frame (d : Fin 8) (l : Bool) :
    (State.doorInput d l s).now = s.now ∧ (State.doorInput d l s).poweredAt = s.poweredAt ∧ (State.doorInput d l s).pending = s.pending ∧
    (State.doorInput d l s).amu = s.amu ∧ (State.doorInput d l s).rtm = s.rtm ∧ (State.doorInput d l s).lpt = s.lpt ∧
    (State.doorInput d l s).params = s.params ∧ (State.doorInput d l s).configured = s.configured := by
  simp only [State.doorInput]; (repeat' split) <;> simp

@[simp] theorem State.examineDoors_frame :
    (State.examineDoors s).now = s.now ∧ (State.examineDoors s).poweredAt = s.poweredAt ∧ (State.examineDoors s).pending = s.pending ∧
    (State.examineDoors s).amu = s.amu ∧ (State.examineDoors s).rtm = s.rtm ∧ (State.examineDoors s).lpt = s.lpt ∧
    (State.examineDoors s).tnu = s.tnu ∧ (State.examineDoors s).params = s.params ∧ (State.examineDoors s).configured = s.configured := by
  simp only [State.examineDoors]; (repeat' split) <;> simp

@[simp] theorem State.bypassOn_frame :
    (State.bypassOn s).now = s.now ∧ (State.bypassOn s).poweredAt = s.poweredAt ∧ (State.bypassOn s).pending = s.pending ∧
    (State.bypassOn s).amu = s.amu ∧ (State.bypassOn s).rtm = s.rtm ∧ (State.bypassOn s).lpt = s.lpt ∧
    (State.bypassOn s).tnu = s.tnu ∧ (State.bypassOn s).params = s.params ∧ (State.bypassOn s).configured = s.configured := by
  simp only [State.bypassOn]; (repeat' split) <;> simp

@[simp] theorem State.leaveBypassed_frame :
    (State.leaveBypassed s).now = s.now ∧ (State.leaveBypassed s).poweredAt = s.poweredAt ∧ (State.leaveBypassed s).pending = s.pending ∧
    (State.leaveBypassed s).amu = s.amu ∧ (State.leaveBypassed s).rtm = s.rtm ∧ (State.leaveBypassed s).lpt = s.lpt ∧
    (State.leaveBypassed s).tnu = s.tnu ∧ (State.leaveBypassed s).params = s.params ∧ (State.leaveBypassed s).configured = s.configured := by
  simp only [State.leaveBypassed]; (repeat' split) <;> simp

@[simp] theorem State.bypassOff_frame :
    (State.bypassOff s).now = s.now ∧ (State.bypassOff s).poweredAt = s.poweredAt ∧ (State.bypassOff s).pending = s.pending ∧
    (State.bypassOff s).amu = s.amu ∧ (State.bypassOff s).rtm = s.rtm ∧ (State.bypassOff s).lpt = s.lpt ∧
    (State.bypassOff s).tnu = s.tnu ∧ (State.bypassOff s).params = s.params ∧ (State.bypassOff s).configured = s.configured := by
  simp only [State.bypassOff]; (repeat' split) <;> simp

@[simp] theorem State.stopRequest_frame (d : Fin 8) (b : Fin 16) (k : StopKind) :
    (State.stopRequest d b k s).now = s.now ∧ (State.stopRequest d b k s).poweredAt = s.poweredAt ∧ (State.stopRequest d b k s).pending = s.pending ∧
    (State.stopRequest d b k s).amu = s.amu ∧ (State.stopRequest d b k s).drc = s.drc ∧ (State.stopRequest d b k s).rtm = s.rtm ∧
    (State.stopRequest d b k s).lpt = s.lpt ∧ (State.stopRequest d b k s).params = s.params ∧ (State.stopRequest d b k s).configured = s.configured := by
  simp only [State.stopRequest]; (repeat' split) <;> simp

@[simp] theorem State.takePress_frame (i : Fin 16) :
    (State.takePress i s).now = s.now ∧ (State.takePress i s).poweredAt = s.poweredAt ∧ (State.takePress i s).pending = s.pending ∧
    (State.takePress i s).amu = s.amu ∧ (State.takePress i s).drc = s.drc ∧ (State.takePress i s).rtm = s.rtm ∧
    (State.takePress i s).lpt = s.lpt ∧ (State.takePress i s).params = s.params ∧ (State.takePress i s).configured = s.configured := by
  simp only [State.takePress]; (repeat' split) <;> simp

@[simp] theorem State.settleButton_frame (i : Fin 16) :
    (State.settleButton i s).now = s.now ∧ (State.settleButton i s).poweredAt = s.poweredAt ∧ (State.settleButton i s).pending = s.pending ∧
    (State.settleButton i s).amu = s.amu ∧ (State.settleButton i s).drc = s.drc ∧ (State.settleButton i s).rtm = s.rtm ∧
    (State.settleButton i s).lpt = s.lpt ∧ (State.settleButton i s).params = s.params ∧ (State.settleButton i s).configured = s.configured := by
  simp only [State.settleButton]; (repeat' split) <;> simp

@[simp] theorem State.holdButton_frame (i : Fin 16) :
    (State.holdButton i s).now = s.now ∧ (State.holdButton i s).poweredAt = s.poweredAt ∧ (State.holdButton i s).pending = s.pending ∧
    (State.holdButton i s).amu = s.amu ∧ (State.holdButton i s).drc = s.drc ∧ (State.holdButton i s).rtm = s.rtm ∧
    (State.holdButton i s).lpt = s.lpt ∧ (State.holdButton i s).tnu = s.tnu ∧ (State.holdButton i s).params = s.params ∧
    (State.holdButton i s).configured = s.configured := by
  simp only [State.holdButton]; (repeat' split) <;> simp

@[simp] theorem State.recoverButton_frame (i : Fin 16) :
    (State.recoverButton i s).now = s.now ∧ (State.recoverButton i s).poweredAt = s.poweredAt ∧ (State.recoverButton i s).pending = s.pending ∧
    (State.recoverButton i s).amu = s.amu ∧ (State.recoverButton i s).drc = s.drc ∧ (State.recoverButton i s).rtm = s.rtm ∧
    (State.recoverButton i s).lpt = s.lpt ∧ (State.recoverButton i s).tnu = s.tnu ∧ (State.recoverButton i s).params = s.params ∧
    (State.recoverButton i s).configured = s.configured := by
  simp only [State.recoverButton]; (repeat' split) <;> simp

@[simp] theorem State.buttonInput_frame (i : Fin 16) (raw : Bool) :
    (State.buttonInput i raw s).now = s.now ∧ (State.buttonInput i raw s).poweredAt = s.poweredAt ∧ (State.buttonInput i raw s).pending = s.pending ∧
    (State.buttonInput i raw s).amu = s.amu ∧ (State.buttonInput i raw s).drc = s.drc ∧ (State.buttonInput i raw s).rtm = s.rtm ∧
    (State.buttonInput i raw s).lpt = s.lpt ∧ (State.buttonInput i raw s).tnu = s.tnu ∧ (State.buttonInput i raw s).clp = s.clp ∧
    (State.buttonInput i raw s).params = s.params ∧ (State.buttonInput i raw s).configured = s.configured := by
  simp only [State.buttonInput]; simp

end Sys2Proof.Machine
end

