-- ==== Sys2Proof/Laws/Link.lean ====
section
/-! SUPPORT. What the shared operations of the cab link do: the outbound queue (R175), the fault set (R179) and the
taking of a command on a ready link (R174). -/

namespace Sys2Proof.Machine

/-! ## The outbound queue -/

@[simp] theorem OutFrame.isReply_reply (k t : Byte) (st : Status) (c : Option Byte) (d : ReplyData) :
    (OutFrame.reply k t st c d).isReply = true := rfl

@[simp] theorem OutFrame.isReply_report (t : Byte) (l : Option Bool) (b : Report) :
    (OutFrame.report t l b).isReply = false := rfl

theorem replyCount_append (a b : List OutFrame) : replyCount (a ++ b) = replyCount a + replyCount b := by
  simp [replyCount]

theorem reportCount_append (a b : List OutFrame) : reportCount (a ++ b) = reportCount a + reportCount b := by
  simp [reportCount]

/-- R175: the beginning of a transmission changes the head's flags byte and the reports-lost flag, and nothing else. -/
theorem Clp.beginHead_frame (c : Clp) :
    c.beginHead.receiver = c.receiver ∧ c.beginHead.inbound = c.inbound ∧ c.beginHead.faults = c.faults ∧
    c.beginHead.overflow = c.overflow ∧ c.beginHead.snapshot = c.snapshot ∧ c.beginHead.sequence = c.sequence ∧
    c.beginHead.rate = c.rate ∧ c.beginHead.statusDue = c.statusDue ∧
    replyCount c.beginHead.outbound = replyCount c.outbound ∧
    reportCount c.beginHead.outbound = reportCount c.outbound ∧
    c.beginHead.outbound.tail = c.outbound.tail := by
  unfold Clp.beginHead
  split
  · next heq => simp [heq, replyCount, reportCount]
  · simp

/-- A frame that joins changes the outbound queue, by itself at the tail, and at most the reports-lost flag. -/
theorem Clp.join_frame (f : OutFrame) (c : Clp) :
    (c.join f).receiver = c.receiver ∧ (c.join f).inbound = c.inbound ∧ (c.join f).faults = c.faults ∧
    (c.join f).overflow = c.overflow ∧ (c.join f).snapshot = c.snapshot ∧ (c.join f).sequence = c.sequence ∧
    (c.join f).rate = c.rate ∧ (c.join f).statusDue = c.statusDue ∧
    replyCount (c.join f).outbound = replyCount c.outbound + replyCount [f] ∧
    reportCount (c.join f).outbound = reportCount c.outbound + reportCount [f] := by
  unfold Clp.join
  split
  · next h =>
    have := Clp.beginHead_frame { c with outbound := [f] }
    simp_all [replyCount, reportCount]
  · simp [replyCount, reportCount]

/-- A reply joins unchanged at the tail. -/
theorem Clp.join_reply (k t : Byte) (st : Status) (ch : Option Byte) (d : ReplyData) (c : Clp) :
    c.join (.reply k t st ch d) = { c with outbound := c.outbound ++ [.reply k t st ch d] } := by
  unfold Clp.join
  split
  · next h => simp [h, Clp.beginHead]
  · rfl

/-- R175: what raising a report leaves alone, and that the limits of replies and reports stand. -/
theorem Clp.raise_frame (r : Report) (c : Clp) :
    (c.raise r).receiver = c.receiver ∧ (c.raise r).inbound = c.inbound ∧ (c.raise r).faults = c.faults ∧
    (c.raise r).overflow = c.overflow ∧ (c.raise r).snapshot = c.snapshot ∧
    (c.raise r).rate = c.rate ∧ (c.raise r).statusDue = c.statusDue ∧
    replyCount (c.raise r).outbound = replyCount c.outbound ∧
    (reportCount c.outbound ≤ 12 → reportCount (c.raise r).outbound ≤ 12) := by
  have h := Clp.join_frame (.report (c.sequence + 1) none r) { c with sequence := c.sequence + 1 }
  by_cases hc : reportCount c.outbound < 12
  · have e : c.raise r = ({ c with sequence := c.sequence + 1 } : Clp).join (.report (c.sequence + 1) none r) := by
      simp [Clp.raise, Config.reportSlots, hc]
    rw [e]
    refine ⟨h.1, h.2.1, h.2.2.1, h.2.2.2.1, h.2.2.2.2.1, h.2.2.2.2.2.2.1, h.2.2.2.2.2.2.2.1, ?_, fun _ => ?_⟩
    · simpa [replyCount] using h.2.2.2.2.2.2.2.2.1
    · rw [h.2.2.2.2.2.2.2.2.2]
      simp only [reportCount] at *
      simp
      omega
  · have e : c.raise r = { c with sequence := c.sequence + 1, lost := true } := by
      simp [Clp.raise, Config.reportSlots, hc]
    rw [e]
    exact ⟨rfl, rfl, rfl, rfl, rfl, rfl, rfl, rfl, id⟩

/-- R175: what a reply's joining leaves alone, and that the limits stand. -/
theorem Clp.pushReply_frame (f : OutFrame) (hf : f.isReply = true) (c : Clp) :
    (c.pushReply f).receiver = c.receiver ∧ (c.pushReply f).inbound = c.inbound ∧
    (c.pushReply f).faults = c.faults ∧ (c.pushReply f).overflow = c.overflow ∧
    (c.pushReply f).snapshot = c.snapshot ∧ (c.pushReply f).sequence = c.sequence ∧
    (c.pushReply f).rate = c.rate ∧ (c.pushReply f).statusDue = c.statusDue ∧
    reportCount (c.pushReply f).outbound = reportCount c.outbound ∧
    (replyCount c.outbound ≤ 8 → replyCount (c.pushReply f).outbound ≤ 8) := by
  have h := Clp.join_frame f c
  by_cases hc : replyCount c.outbound < 8
  · have e : c.pushReply f = c.join f := by simp [Clp.pushReply, Config.replySlots, hc]
    rw [e]
    refine ⟨h.1, h.2.1, h.2.2.1, h.2.2.2.1, h.2.2.2.2.1, h.2.2.2.2.2.1, h.2.2.2.2.2.2.1, h.2.2.2.2.2.2.2.1, ?_,
      fun _ => ?_⟩
    · simpa [reportCount, hf] using h.2.2.2.2.2.2.2.2.2
    · rw [h.2.2.2.2.2.2.2.2.1]
      simp only [replyCount] at *
      simp [hf]
      omega
  · have e : c.pushReply f = c := by simp [Clp.pushReply, Config.replySlots, hc]
    rw [e]
    exact ⟨rfl, rfl, rfl, rfl, rfl, rfl, rfl, rfl, rfl, id⟩

/-! ## The fault set -/

/-- R179: after a latch that can be recorded, the set holds the pair with its active flag set. -/
theorem Clp.latch_holds (code : FaultCode) (index odometer : Nat) (c : Clp)
    (room : c.faults.length < 32 ∨ ∃ e ∈ c.faults, e.code = code ∧ e.index = index) :
    ∃ e ∈ (c.latch code index odometer).faults, e.code = code ∧ e.index = index ∧ e.active = true := by
  unfold Clp.latch
  split
  · next h =>
    obtain ⟨e, he, hf⟩ := List.any_eq_true.mp h
    simp only [FaultEntry.isFor, Bool.and_eq_true, decide_eq_true_eq] at hf
    refine ⟨{ e with count := min 255 (e.count + 1), active := true }, ?_, hf.1, hf.2, rfl⟩
    simp only [List.mem_map]
    exact ⟨e, he, by simp [FaultEntry.isFor, hf.1, hf.2]⟩
  · next h =>
    split
    · refine ⟨{ code := code, index := index, count := 1, firstSeen := odometer, active := true }, ?_, rfl, rfl, rfl⟩
      rw [(Clp.raise_frame _ _).2.2.1]
      simp
    · next hn =>
      simp only [Config.faultSlots] at hn
      rcases room with hr | ⟨e, he, h1, h2⟩
      · omega
      · exact absurd (List.any_eq_true.mpr ⟨e, he, by simp [FaultEntry.isFor, h1, h2]⟩) h

/-- R179: what a latch leaves alone. -/
theorem Clp.latch_frame (code : FaultCode) (index odometer : Nat) (c : Clp) :
    (c.latch code index odometer).receiver = c.receiver ∧ (c.latch code index odometer).inbound = c.inbound ∧
    (c.latch code index odometer).snapshot = c.snapshot ∧ (c.latch code index odometer).rate = c.rate ∧
    (c.latch code index odometer).statusDue = c.statusDue ∧
    replyCount (c.latch code index odometer).outbound = replyCount c.outbound ∧
    (reportCount c.outbound ≤ 12 → reportCount (c.latch code index odometer).outbound ≤ 12) := by
  unfold Clp.latch
  split
  · simp
  · split
    · have h := fun r => Clp.raise_frame r
        { c with faults := c.faults ++ [{ code := code, index := index, count := 1, firstSeen := odometer, active := true }] }
      simp only
      refine ⟨(h _).1, (h _).2.1, (h _).2.2.2.2.1, (h _).2.2.2.2.2.1, (h _).2.2.2.2.2.2.1, (h _).2.2.2.2.2.2.2.1,
        (h _).2.2.2.2.2.2.2.2⟩
    · simp

/-! ## A command on a ready link -/

/-- No more than one reply stands on a ready link. -/
theorem LinkReady.replies {s : State} (h : LinkReady s) : replyCount s.clp.outbound ≤ 1 := by
  have h2 := h.2
  unfold Clp.replyWaits at h2
  cases hq : s.clp.outbound with
  | nil => simp [replyCount]
  | cons f rest =>
    rw [hq] at h2
    simp only [List.drop_succ_cons, List.drop_zero, List.any_eq_false] at h2
    have : replyCount rest = 0 := by
      simp only [replyCount, List.countP_eq_zero]
      intro a ha; exact h2 a ha
    simp only [replyCount, List.countP_cons] at *
    split <;> omega

/-- R173, R174: a command that arrives at a ready link is taken at once, and its reply joins after the reports that its
owner raised. -/
theorem State.command_ready {s : State} (h : LinkReady s) (t : Nat) (kind tag : Byte) (c : LinkCommand) :
    s.command t kind tag c =
      ((s.atTime t).runCommand c).1.pushReply (replyFrame kind tag ((s.atTime t).runCommand c).2) := by
  have h1 := h.1
  have h2 := h.2
  have e1 : ({ s.clp with inbound := [] } : Clp) = s.clp := by
    cases hc : s.clp; simp_all
  simp only [State.command, State.arrive, State.atTime_clp, h1, List.length_nil, Config.inboundSlots,
    List.nil_append, State.takeWaiting, List.length_cons, State.drain]
  rw [if_pos (by decide)]
  have h3 : ({ s.clp with inbound := [{ kind := kind, tag := tag, command := c }] } : Clp).replyWaits = false := h2
  simp only [h3, State.takeFrame]
  have h4 : ({ s.atTime t with clp := { s.clp with inbound := [] } } : State) = s.atTime t := by
    rw [e1]; rfl
  simp only [Bool.false_eq_true, if_false, h4]

/-- A reply joins at the tail while fewer than eight stand. -/
theorem State.pushReply_room (kind tag : Byte) (v : Verdict) (s : State) (h : replyCount s.clp.outbound < 8) :
    s.pushReply (replyFrame kind tag v) =
      { s with clp := { s.clp with outbound := s.clp.outbound ++ [replyFrame kind tag v] } } := by
  simp only [State.pushReply, Clp.pushReply, Config.replySlots, h, if_true, replyFrame, Clp.join_reply]

end Sys2Proof.Machine
end

