-- ==== Sys2Proof/Laws/Timers.lean ====
section
/-! SUPPORT. What the settling of the conditional timers (R8, R50) and the requests and ends of tones do to the rest of
the part. -/

namespace Sys2Proof.Machine

variable (s : State)

/-! ## Two states agree in everything but the AMU's timers, the vigilance timer and what a warning's end touches -/

@[simp] theorem otherAxle_otherAxle (ax : Axle) : otherAxle (otherAxle ax) = ax := by cases ax <;> rfl

/-- R169: the report of an exit changes the outbound queue alone. -/
theorem State.reportExits_faults (ch : ChannelId) (es : List Exit) :
    (s.reportExits ch es).clp.faults = s.clp.faults ∧ (s.reportExits ch es).clp.overflow = s.clp.overflow := by
  induction es generalizing s with
  | nil => exact ⟨rfl, rfl⟩
  | cons e es ih =>
    have h := ih (s.reportExit ch e)
    have h2 : (s.reportExit ch e).clp.faults = s.clp.faults ∧ (s.reportExit ch e).clp.overflow = s.clp.overflow := by
      unfold State.reportExit
      split
      · have := Clp.raise_frame (.sound ch e.req.pattern e.req.priority e.req.mode e.repeats e.cause) s.clp
        exact ⟨this.2.2.1, this.2.2.2.1⟩
      · exact ⟨rfl, rfl⟩
    exact ⟨h.1.trans h2.1, h.2.trans h2.2⟩

theorem State.endSound_faults (ch : ChannelId) (src : Source) (p : Nat) :
    (s.endSound ch src p).clp.faults = s.clp.faults ∧ (s.endSound ch src p).clp.overflow = s.clp.overflow := by
  simp only [State.endSound]
  exact State.reportExits_faults _ _ _

/-- R50: the end of the vigilance warning. -/
theorem State.endVigilanceWarning_spec :
    s.endVigilanceWarning.drc = { s.drc with warnVigilance := false } ∧
    s.endVigilanceWarning.clp.faults = s.clp.faults ∧ s.endVigilanceWarning.clp.overflow = s.clp.overflow ∧
    (s.drc.warnVigilance = false → s.endVigilanceWarning = s) := by
  unfold State.endVigilanceWarning
  split
  · next h =>
    refine ⟨by simp, (State.endSound_faults _ _ _ _).1, (State.endSound_faults _ _ _ _).2, fun h2 => ?_⟩
    simp [h2] at h
  · next h =>
    refine ⟨?_, rfl, rfl, fun _ => rfl⟩
    rw [Bool.not_eq_true] at h
    exact h ▸ rfl

/-- R50: the vigilance timer follows its conditions. -/
theorem State.settleVigilance_spec :
    s.settleVigilance.drc = { s.drc with
      vigilance := if vigilanceRuns s then some (s.drc.vigilance.getD s.now) else none
      warnVigilance := s.drc.warnVigilance && vigilanceRuns s } ∧
    s.settleVigilance.clp.faults = s.clp.faults ∧ s.settleVigilance.clp.overflow = s.clp.overflow ∧
    (s.drc.warnVigilance = (s.drc.warnVigilance && vigilanceRuns s) →
      s.settleVigilance.tnu = s.tnu ∧ s.settleVigilance.clp = s.clp) := by
  unfold State.settleVigilance
  split
  · next h =>
    split
    · next h2 =>
      obtain ⟨v, hv⟩ := Option.isSome_iff_exists.mp h2
      refine ⟨?_, rfl, rfl, fun _ => ⟨rfl, rfl⟩⟩
      simp only [h, hv, Option.getD_some, Bool.and_true]
      rw [← hv]
    · next h2 =>
      refine ⟨?_, rfl, rfl, fun _ => ⟨rfl, rfl⟩⟩
      simp only [Option.isSome_iff_ne_none, ne_eq, not_not] at h2
      simp [h, h2]
  · next h =>
    have he := State.endVigilanceWarning_spec { s with drc := { s.drc with vigilance := none } }
    rw [Bool.not_eq_true] at h
    refine ⟨?_, he.2.1, he.2.2.1, fun hw => ?_⟩
    · rw [he.1]; simp [h]
    · rw [he.2.2.2 (by simpa [h] using hw)]
      exact ⟨rfl, rfl⟩

/-- R8: the plausibility timer of an axle follows its conditions. -/
theorem State.settlePlausibility_spec (ax : Axle) :
    s.settlePlausibility ax = { s with amu := s.amu.setChannel ax { s.amu.channel ax with
      plausTimer := if plausible s.drc.u (s.amu.channel ax) (s.amu.channel (otherAxle ax)) then
        some ((s.amu.channel ax).plausTimer.getD s.now) else none } } := by
  simp only [State.settlePlausibility]
  split
  · split
    · next h =>
      obtain ⟨v, hv⟩ := Option.isSome_iff_exists.mp h
      simp only [hv, Option.getD_some]
      cases ax <;> (simp only [Amu.setChannel, Amu.channel] at *; rw [← hv])
    · next h =>
      simp only [Option.isSome_iff_ne_none, ne_eq, not_not] at h
      simp [h]
  · rfl

theorem plausible_timer (u : Int) (a b : AxleChannel) (x y : Option Nat) :
    plausible u { a with plausTimer := x } { b with plausTimer := y } = plausible u a b := rfl

/-- R8, R50: the settling of the conditional timers changes them alone, and what the end of a vigilance warning touches. -/
theorem State.settle_spec :
    (∀ ax, s.settle.amu.channel ax = { s.amu.channel ax with
      plausTimer := if plausible s.drc.u (s.amu.channel ax) (s.amu.channel (otherAxle ax)) then
        some ((s.amu.channel ax).plausTimer.getD s.now) else none }) ∧
    s.settle.amu = { s.amu with a := s.settle.amu.a, b := s.settle.amu.b } ∧
    s.settle.drc = { s.drc with
      vigilance := if vigilanceRuns s then some (s.drc.vigilance.getD s.now) else none
      warnVigilance := s.drc.warnVigilance && vigilanceRuns s } ∧
    s.settle.clp.faults = s.clp.faults ∧ s.settle.clp.overflow = s.clp.overflow ∧
    (s.drc.warnVigilance = (s.drc.warnVigilance && vigilanceRuns s) →
      s.settle.tnu = s.tnu ∧ s.settle.clp = s.clp) := by
  have h := State.settleVigilance_spec ((s.settlePlausibility .A).settlePlausibility .B)
  have hv : vigilanceRuns ((s.settlePlausibility .A).settlePlausibility .B) = vigilanceRuns s := by
    simp only [State.settlePlausibility_spec]
    rfl
  simp only [State.settle]
  rw [hv] at h
  refine ⟨?_, ?_, ?_, ?_, ?_, ?_⟩
  · intro ax
    simp only [State.settleVigilance_frame]
    simp only [State.settlePlausibility_spec]
    cases ax <;> rfl
  · simp only [State.settleVigilance_frame, State.settlePlausibility_spec]
    rfl
  · simpa using h.1
  · simpa using h.2.1
  · simpa using h.2.2.1
  · simpa using h.2.2.2

theorem State.settle_runs : vigilanceRuns s.settle = vigilanceRuns s := by
  have h := State.settle_spec s
  have e : s.settle.amu.standstill = s.amu.standstill := by
    have ea := h.1 .A
    have eb := h.1 .B
    simp only [Amu.channel] at ea eb
    simp only [Amu.standstill, ea, eb]
  have e2 : s.settle.drc.driveState = s.drc.driveState ∧ s.settle.drc.deadman = s.drc.deadman := by
    rw [h.2.2.1]; exact ⟨rfl, rfl⟩
  unfold vigilanceRuns Amu.atStandstill
  rw [e, e2.1, e2.2]

/-- R8, R50: after the settling the timers follow their conditions. -/
theorem State.settle_timers {s m : State}
    (timers : ∀ ax, plausible m.drc.u (m.amu.channel ax) (m.amu.channel (otherAxle ax)) = true →
      (m.amu.channel ax).plausTimer = (s.amu.channel ax).plausTimer)
    (vigilance : vigilanceRuns m = true → m.drc.vigilance = s.drc.vigilance)
    (warning : vigilanceRuns m = true → m.drc.warnVigilance = s.drc.warnVigilance) : TimersFollow s m.settle := by
  have h := State.settle_spec m
  refine ⟨fun x => ?_, ?_, ?_⟩
  · have hp : plausible m.settle.drc.u (m.settle.amu.channel x) (m.settle.amu.channel (otherAxle x)) =
        plausible m.drc.u (m.amu.channel x) (m.amu.channel (otherAxle x)) := by
      rw [h.1 x, h.1 (otherAxle x), h.2.2.1]; rfl
    rw [hp, h.1 x, (State.settle_frame m).1]
    simp only
    split
    · next hq => rw [timers x hq]
    · rfl
  · rw [h.2.2.1, State.settle_runs]
    simp only [State.settle_frame]
    split
    · next hp => rw [vigilance hp]
    · rfl
  · rw [h.2.2.1, State.settle_runs]
    cases hr : vigilanceRuns m with
    | true => rw [warning hr]
    | false => simp

/-- An event of one axle, settled, has the axle frame. -/
theorem AxleFrame.of_settle {t : Nat} {ax : Axle} {s m : State} (a : Amu) (c : Clp)
    (blocks : m = { s with now := max s.now t, amu := a, clp := c })
    (memory : a.direction = s.amu.direction)
    (other : a.channel (otherAxle ax) = s.amu.channel (otherAxle ax))
    (own : plausible s.drc.u (a.channel ax) (a.channel (otherAxle ax)) = true →
      (a.channel ax).plausTimer = (s.amu.channel ax).plausTimer) :
    AxleFrame t ax s m.settle := by
  have h := State.settle_spec m
  have f := State.settle_frame m
  have tm : TimersFollow s m.settle := by
    refine State.settle_timers (fun x hx => ?_) (fun _ => by rw [blocks]) (fun _ => by rw [blocks])
    subst blocks
    by_cases e : x = ax
    · subst e; exact own hx
    · have : x = otherAxle ax := by cases x <;> cases ax <;> simp_all [otherAxle]
      subst this
      exact congrArg AxleChannel.plausTimer other
  subst blocks
  refine ⟨?_, by rw [h.2.2.1], ?_, ?_, ?_, tm⟩
  · generalize State.settle _ = z at *
    obtain ⟨f1, f2, f3, f4, f5, f6, f7, f8⟩ := f
    cases z
    simp only at f1 f2 f3 f4 f5 f6 f7 f8
    simp [f1, f2, f3, f4, f5, f6, f7, f8]
  · rw [h.2.1]; exact memory
  · rw [h.1]; simp only [other]
  · intro hw
    refine (h.2.2.2.2.2 ?_).1
    rw [h.2.2.1] at hw
    exact hw.symm

end Sys2Proof.Machine
end

