-- ==== Sys2Proof/Laws/Tones.lean ====
section
/-! SUPPORT. What the shared operations of the Tone Unit do: the output after a change of what plays (R154), the repeat
target (R159), the report of a request that leaves (R169) and the next step of a context (R162). -/

namespace Sys2Proof.Machine

@[simp] theorem Channel.refresh_playing (pat : Nat → Option Pattern) (now : Nat) (c : Channel) :
    (c.refresh pat now).playing = c.playing := by
  simp only [Channel.refresh]; (repeat' split) <;> rfl
@[simp] theorem Channel.refresh_queue (pat : Nat → Option Pattern) (now : Nat) (c : Channel) :
    (c.refresh pat now).queue = c.queue := by
  simp only [Channel.refresh]; (repeat' split) <;> rfl
@[simp] theorem Channel.refresh_stack (pat : Nat → Option Pattern) (now : Nat) (c : Channel) :
    (c.refresh pat now).stack = c.stack := by
  simp only [Channel.refresh]; (repeat' split) <;> rfl
@[simp] theorem Channel.refresh_nextRank (pat : Nat → Option Pattern) (now : Nat) (c : Channel) :
    (c.refresh pat now).nextRank = c.nextRank := by
  simp only [Channel.refresh]; (repeat' split) <;> rfl

/-- R154: refreshed contents with the output of the channel before. -/
theorem Channel.refresh_follows (pat : Nat → Option Pattern) (now : Nat) {c d : Channel} (h : d.output = c.output) :
    OutputFollows pat now c (d.refresh pat now) := by
  constructor
  · intro hr
    rw [← h] at hr ⊢
    unfold Channel.refresh
    split
    · rename_i hs _
      exact absurd hs hr
    · rfl
  · intro hs p hp pt hpt step hstep
    rw [Channel.refresh_playing] at hp
    have hf : d.inForce pat = some step := by simp [Channel.inForce, hp, stepOf, hpt, hstep]
    simp only [Channel.refresh, h, hs, hf]
    split <;> simp_all
  · intro hs hp
    rw [Channel.refresh_playing] at hp
    simp [Channel.refresh, h, hs, Channel.inForce, hp]

@[simp] theorem Tnu.setChannel_patterns (t : Tnu) (ch : ChannelId) (c : Channel) :
    (t.setChannel ch c).patterns = t.patterns := by cases ch <;> rfl
@[simp] theorem Tnu.setChannel_loadBuffer (t : Tnu) (ch : ChannelId) (c : Channel) :
    (t.setChannel ch c).loadBuffer = t.loadBuffer := by cases ch <;> rfl

/-- R159: the repeat target that the model computes is that of the rule. -/
theorem repeatTarget_spec (pat : Pattern) (mode : Mode) : RepeatTarget pat mode (repeatTarget (some pat) mode) := by
  constructor <;> intros <;> simp_all [repeatTarget]
  rename_i h
  rcases h with rfl | rfl <;> rfl
/-- R159: a mode of a pattern has one repeat target. -/
theorem RepeatTarget.eq {pat : Pattern} {mode : Mode} {target : Option Nat} (h : RepeatTarget pat mode target) :
    target = repeatTarget (some pat) mode := by
  rcases mode with (_ | n) | _ | _
  · exact h.own rfl
  · exact h.given n rfl
  · exact h.ending (.inl rfl)
  · exact h.ending (.inr rfl)

/-- R169: what the exit of a request does to the cab link. -/
theorem State.reportExit_clp (ch : ChannelId) (e : Exit) (s : State) :
    (State.reportExit ch e s).clp = s.clp.soundLeft ch e.cause e.req e.repeats := by
  unfold State.reportExit Clp.soundLeft
  split <;> rfl

/-- R162: a step that is not the last gives way to the next. -/
theorem advance_next {pat : Pattern} {c : Saved} (h : c.step + 1 < pat.steps.length) : advance (some pat) c =
    some { c with step := c.step + 1, remaining := (stepOf (some pat) (c.step + 1)).duration } := by
  simp [advance, h]

/-- R162: after the last step the pattern begins again, or has completed, by its repeat target. -/
theorem advance_last {pat : Pattern} {c : Saved} {target : Option Nat} (h : pat.steps.length ≤ c.step + 1)
    (ht : RepeatTarget pat c.req.mode target) :
    ((∀ n, target = some n → c.repeats + 1 < n) → advance (some pat) c = some { c with
      step := 0, repeats := min 15 (c.repeats + 1), remaining := (stepOf (some pat) 0).duration }) ∧
    ((∃ m, target = some m ∧ m ≤ c.repeats + 1) → advance (some pat) c = none) := by
  have hl : ¬ c.step + 1 < pat.steps.length := by omega
  have he := ht.eq
  constructor
  · intro hn
    cases target with
    | none => simp [advance, hl, ← he]
    | some n => simp [advance, hl, ← he, hn n rfl]
  · rintro ⟨m, rfl, hm⟩
    simp [advance, hl, ← he, Nat.not_lt.mpr hm]

end Sys2Proof.Machine
end

