-- ==== Sys2Proof/WellFormed.lean ====
section
/-! DEFINITION. Which commands a sender can form: the operands that the part's lines cannot carry are told
apart here. The machine gives every command a meaning, the ill-formed ones too (assumption 22). -/

namespace Sys2Proof.Instr

/-- R182: a page that begins with 0xA5 has 9 bytes and any other page has 15. -/
def pageWf (page : List Byte) : Bool :=
  match page with
  | [] => false
  | b :: rest => if b = 0xA5 then rest.length = 8 else rest.length = 14

/-- Table 10-5: a PATTERN_LOAD payload has at most eight steps. -/
def patternWf (load : PatternLoad) : Bool := load.steps.length ≤ 8

/-- The bytes handed to the receiver end one after the other. -/
def bytesWf : List RxByte → Bool
  | [] => true
  | [_] => true
  | a :: b :: rest => a.endedAt ≤ b.endedAt && bytesWf (b :: rest)

/-- R47, R85, R142, R160: a change or a press is taken only once the input has stood long enough. -/
def stoodWf (need stood : Nat) : Bool := need ≤ stood

/-- The well-formed commands. -/
def wf : Instr → Bool
  | .loopPage _ page | .awaitingTimeout _ page | .settingTimeout _ page => pageWf page
  | .patternLoad _ _ load => patternWf load
  | .linkFrame bytes => bytesWf bytes
  | .reverserChange _ stood _ _ => stoodWf 10 stood
  | .deadmanChange _ stood _ => stoodWf 10 stood
  | .emergencyDetentOpen _ stood => stoodWf 10 stood
  | .hornButtonChange _ stood _ => stoodWf 20 stood
  | .bellPedalChange _ stood _ => stoodWf 20 stood
  | .selectorPress _ stood _ | .selectorButtonRelease _ stood _ => stoodWf 40 stood
  | .releasePress _ stood _ | .closePress _ stood => stoodWf 40 stood
  | .doorInputChange _ stood _ _ | .bypassOn _ stood | .bypassOff _ stood => stoodWf 40 stood
  | .cabDoorButtonInactive _ stood _ => stoodWf 40 stood
  | .powerOn _ _ | .tachoEdge _ _ | .noEdgeExpiry _ _ | .sensorHealthOpen _ _ | .sensorHealthOk _ _
  | .plausibilityExpiry _ _ | .controlInterval _ | .adhesionConditionEnd _ | .capRemoved _ | .sandRunOnExpiry _
  | .resetComplete _ | .handleCycle _ | .emergencyDetentClose _ | .vigilanceWarning _ | .vigilanceTrip _
  | .demandPeriodStart _ | .emergencyStop _ _ | .restrictPost _ _ _ | .restrictLift _ _ _ _
  | .restrictRead _ _ _ _ | .junctionLoad _ _ _ | .junctionDrop _ _ _ | .junctionRead _ _ _
  | .routeAppend _ _ _ _ | .routeClear _ _ | .routeRead _ _ _ | .approachInterval _ | .amberFlash _
  | .contactLost _ | .buttonInputChange _ _ _ | .settleTimerExpiry _ _ | .holdTimerExpiry _ _
  | .recoveryTimerExpiry _ _ | .buttonIsolate _ _ _ _ | .stopClear _ _ _ | .stopRead _ _ | .closeTimerExpiry _
  | .soundStart _ _ _ _ _ _ | .soundStop _ _ _ | .patternRead _ _ _ _ | .stepEnd _ _ | .tonePeriodEnd _ _
  | .gapAbort _ | .takeCommand _ | .frameSent _ | .statusTimerExpiry _ | .identify _ _ | .statusRead _ _ _
  | .reportRate _ _ _ | .faultsRead _ _ _ | .restart _ _ | .configure _ _ _ | .readConfig _ _
  | .handleFallingEdge _ => true

end Sys2Proof.Instr
end

