-- ==== Sys2Proof/Tests/Slice0.lean ====
section
/-! SUPPORT. Tests of single commands, with figures from the worked examples and tables of the manual, and one
witness for each statement of Certificates/Slice0/Obligations.lean that has hypotheses. -/

namespace Sys2Proof.Tests

open Sys2Proof Sys2Proof.Machine

-- The theorems are elaborated one after another: in parallel each takes a thread of its own, too many for one file.
set_option Elab.async false

/-! ## Well-formedness: each check refuses an ill-formed command -/

theorem test_page_of_a_wrong_length : (Instr.loopPage 0 [0x5A, 0, 1]).wf = false := by decide
theorem test_request_page_of_a_wrong_length : (Instr.awaitingTimeout 0 (0xA5 :: List.replicate 14 0)).wf = false := by decide
theorem test_empty_page : (Instr.settingTimeout 0 []).wf = false := by decide
theorem test_nine_steps :
    (Instr.patternLoad 0 0 ⟨8, 1, 9, 0, List.replicate 9 ⟨500, 100, 10⟩⟩).wf = false := by decide
theorem test_bytes_out_of_order : (Instr.linkFrame [⟨50, 0xC3, true⟩, ⟨10, 2, true⟩]).wf = false := by decide
theorem test_contact_stood_short : (Instr.deadmanChange 0 9 true).wf = false := by decide
theorem test_pedal_stood_short : (Instr.bellPedalChange 0 19 true).wf = false := by decide
theorem test_button_stood_short : (Instr.closePress 0 39).wf = false := by decide

/-! ## Helpers -/

/-- What a command leaves of a state, if it answers a next state. -/
def left {α : Type} (c : Instr) (s : State) (f : State → α) : Option α :=
  match exec c s with
  | .next s' => some (f s')
  | .fault _ => none
  | .refused _ => none

/-- 10 s after power-on: every periodic event of the base states is due then. -/
def at_ : Nat := 10000000

/-- The record of the worked examples: the values before configuration with vehicle 1207 (6.12), doors 0 to 3 RIGHT and
the buttons of Table 7-2, the departure bell on (8.8). -/
def demoParams : Params := { Config.initialParams with
  vehicle := 1207, doorSides := 0x0F, departureBell := 1
  buttonMap := #v[0x40, 0, 0x42, 0x43, 0, 0, 0x42, 0, 0, 0xC1, 0, 0, 0x80, 0, 0, 0] }

/-- READY, reverser at FORWARD, deadman pressed, at standstill. -/
def demo : State := { State.reset with
  now := at_, configured := true, params := demoParams
  drc := { Drc.initial 0 with driveState := .ready, loop := true, reverser := .forward, deadman := true
                              intervalDue := at_, periodDue := at_ }
  rtm := { Rtm.initial 0 with intervalDue := at_ } }

/-- An axle that is GOOD at a speed. -/
def going (v : Nat) : AxleChannel := { AxleChannel.initial with
  cls := .good, speed := v, lastEdge := some (at_ - 1000), noEdge := some (at_ - 1000) }

/-- Both axles GOOD at these speeds. -/
def running (a b : Nat) : State := { demo with amu := { demo.amu with a := going a, b := going b } }

/-- The drive of a state changed. -/
def State.drive (s : State) (f : Drc → Drc) : State := { s with drc := f s.drc }

/-- A completed handle cycle of width w and period p, 5 ms old. -/
def cycle (w p : Nat) : Option HandleCycle := some ⟨w, p, at_ - 5000⟩

/-- A button's conditioner changed. -/
def withButton (i : Fin 16) (c : Conditioner) (s : State) : State :=
  { s with sdu := { s.sdu with buttons := s.sdu.buttons.set i c } }

/-- A button whose raw level has settled by now. -/
def pressed : Conditioner := { Conditioner.initial with raw := true, settle := some (at_ - 40000) }

/-! ## Axle measurement (Tables 1-4 to 1-7) -/

def rest2 : State := { demo with amu := { demo.amu with
  a := { AxleChannel.initial with window := some ⟨0, 2⟩, lastEdge := some 180000, noEdge := some 180000 } }, now := 180000 }

theorem test_window_closes_by_time : left (.tachoEdge 262000 .A) rest2 (fun s =>
    (s.amu.a.speed, s.amu.a.cls, s.amu.a.window)) = some (36, .good, some ⟨262000, 0⟩) := by decide +kernel
theorem test_chatter_is_ignored : left (.tachoEdge 180030 .A) rest2 (fun s => s.amu) = some rest2.amu := by decide +kernel

def backing : State := { demo with
  amu := { demo.amu with odometer := 12252, direction := .reverse, b := going 20 }
  drc := { demo.drc with reverser := .neutral } }

theorem test_edge_counts_backward : left (.tachoEdge at_ .B) backing (fun s =>
    (s.amu.odometerMm, s.amu.track.toInt, s.amu.trackMm.toInt)) = some (223, -2042, -31) := by decide +kernel

theorem test_no_edge_expiry : left (.noEdgeExpiry (at_ + 999000) .A) (running 5 5) (fun s =>
    (s.amu.a.cls, s.amu.a.speed)) = some (.zero, 0) := by decide +kernel
theorem test_no_edge_expiry_early : left (.noEdgeExpiry (at_ + 998999) .A) (running 5 5) (fun s =>
    (s.amu.a.cls, s.amu.a.speed)) = some (.good, 5) := by decide +kernel

theorem test_sensor_open : left (.sensorHealthOpen at_ .A) (running 420 418) (fun s =>
    (s.amu.a.cls, s.amu.a.speed, s.clp.faults.map FaultEntry.pair)) = some (.fault, 0, [(.axleFault, 0)]) := by decide +kernel

def opened : State := { demo with
  amu := { demo.amu with a := { AxleChannel.initial with cls := .fault, sensorCause := true, healthOpen := true } }
  clp := { demo.clp with faults := [⟨.axleFault, 0, 1, 0, true⟩] } }

theorem test_sensor_ok : left (.sensorHealthOk at_ .A) opened (fun s =>
    (s.amu.a.cls, s.clp.faults.map (·.active))) = some (.zero, [false]) := by decide +kernel

def silent : State := { running 420 0 with
  amu := { (running 420 0).amu with b := { AxleChannel.initial with plausTimer := some (at_ - 3000000) } } }

theorem test_plausibility : left (.plausibilityExpiry at_ .B) silent (fun s =>
    (s.amu.b.cls, s.amu.odometerAxle, s.clp.faults.map FaultEntry.pair)) =
    some (.fault, some .A, [(.axleFault, 1)]) := by decide +kernel

/-- The second window of Table 1-7: 262 against 305 is off by more than 24. -/
def recovering : State := { running 305 0 with amu := { (running 305 0).amu with b :=
  { AxleChannel.initial with cls := .fault, plausCause := true, recovery := 1, window := some ⟨at_ - 194000, 15⟩
                             lastEdge := some (at_ - 12000) } } }

theorem test_window_that_does_not_agree : left (.tachoEdge at_ .B) recovering (fun s =>
    (s.amu.b.speed, s.amu.b.recovery, s.amu.b.cls)) = some (263, 0, .fault) := by decide +kernel

/-! ## Speed ceilings (2.11, 2.12) -/

def posted300 : State := State.drive (running 500 500) fun d => { d with
  table := d.table.set (.link 1) (some ⟨.ceiling, 300, 0x22, none, none, .active⟩), vCeil := 300 }

theorem test_post : left (.restrictPost at_ 7 ⟨2, 1, 300, 0x22, none, none⟩) (running 500 500) (fun s =>
    (s.drc.vCeil, s.drc.vSup, s.clp.outbound.getLast?)) =
    some (300, 2000, some (.reply 0x8A 7 .ok none (.posted .active 300 2000))) := by decide +kernel
theorem test_post_ahead : left (.restrictPost at_ 7 ⟨4, 1, 250, 0x31, some 1250000, some 1410000⟩)
    { running 400 400 with amu := { (running 400 400).amu with track := 64 * 1100000 } } (fun s =>
    ((s.drc.table.get (.link 3)).map (·.phase), s.drc.vCeil)) = some (some .armed, 2000) := by decide +kernel
theorem test_lift : left (.restrictLift at_ 7 3 2) posted300 (fun s =>
    (s.drc.vCeil, s.drc.vSup, s.drc.table.entries.length)) = some (2000, 2000, 0) := by decide +kernel
theorem test_read_empty_slot : left (.restrictRead at_ 7 3 6) posted300 (fun s => s.clp.outbound) =
    some [.reply 0x8C 7 .notFound none (.restriction none posted300.drc.tableView)] := by decide +kernel

/-! ## Traction and braking (Tables 3-3, 3-7 to 3-9) -/

theorem test_handle_values :
    [(700, 1000), (413, 1000), (515, 1000), (517, 1000), (85, 1000), (930, 1010), (40, 1000), (700, 1300)].map
      (fun c => handleValue c.1 c.2) = [some 50, some (-21), some 0, some 4, some (-100), some 100, none, none] := by decide

def approach : State := State.drive (running 383 380) fun d => { d with
  table := { d.table with route := some ⟨.ceiling, 346, 0xE1, none, none, .active⟩ }
  lastCycle := cycle 600 1000, vCeil := 346, vSup := 352, u := 12, buffer := 12 }

theorem test_interval_on_an_approach : left (.controlInterval at_) approach (fun s =>
    (s.drc.h, s.drc.ref, s.drc.vSup, s.drc.band, s.drc.u, s.drc.periodDuty)) =
    some (25, 380, 350, .warn, 7, 528) := by decide +kernel

def slipping (a b : Nat) (d : Drc → Drc) : State := State.drive (running a b) fun x => d { x with
  lastCycle := cycle 680 1000, u := 45, buffer := 45 }

theorem test_slip_detected : left (.controlInterval at_) (slipping 640 560 id) (fun s =>
    (s.drc.adhesion, s.drc.tcap, s.drc.u, s.drc.sand)) = some (.slip, some 30, 30, true) := by decide +kernel
theorem test_slip_ends : left (.adhesionConditionEnd at_) (slipping 584 580 fun d =>
    { d with adhesion := .slip, quiet := 9, tcap := some 30, u := 30, buffer := 30, sand := true }) (fun s =>
    (s.drc.adhesion, s.drc.tcap, s.drc.runOn, s.drc.u)) = some (.none, some 30, 100, 30) := by decide +kernel
theorem test_cap_removed : left (.capRemoved at_) (slipping 612 609 fun d =>
    { d with tcap := some 99, runOn := 31, sand := true }) (fun s =>
    (s.drc.tcap, s.drc.runOn, s.drc.sand)) = some (none, 30, true) := by decide +kernel
theorem test_sand_off : left (.sandRunOnExpiry at_) (slipping 612 609 fun d => { d with runOn := 1, sand := true })
    (fun s => (s.drc.runOn, s.drc.sand)) = some (0, false) := by decide +kernel

def tripped : State := State.drive demo fun d => { d with
  driveState := .tripped, loop := false, tripReason := some .emergencyDetent, u := -100, buffer := -100
  lastCycle := cycle 100 1000, resetCount := 49 }

theorem test_reset_completes : left (.resetComplete at_) tripped (fun s =>
    (s.drc.driveState, s.drc.loop, s.drc.resetCount, s.drc.tripReason)) =
    some (.ready, true, 0, some .emergencyDetent) := by decide +kernel
theorem test_reset_starts_again : left (.controlInterval at_)
    (State.drive tripped fun d => { d with lastCycle := cycle 104 1000 }) (fun s =>
    (s.drc.h, s.drc.driveState, s.drc.resetCount)) = some (-99, .tripped, 0) := by decide +kernel

theorem test_handle_cycle : left (.handleCycle at_)
    (State.drive demo fun d => { d with cycleStart := some (at_ - 1000), cycleWidth := some 700 }) (fun s =>
    (s.drc.lastCycle, s.drc.cycleStart)) = some (some ⟨700, 1000, at_⟩, some at_) := by decide +kernel
theorem test_handle_falls_once : left (.handleFallingEdge at_)
    (State.drive demo fun d => { d with cycleStart := some (at_ - 700), cycleWidth := some 300 }) (fun s =>
    s.drc.cycleWidth) = some (some 300) := by decide +kernel

theorem test_detent_trips : left (.emergencyDetentClose at_)
    (State.drive (running 420 420) fun d => { d with u := -60, buffer := -60 }) (fun s =>
    (s.drc.driveState, s.drc.tripReason, s.drc.u, s.drc.loop, s.tnu.cab.playing.map (·.saved.req.pattern))) =
    some (.tripped, some .emergencyDetent, -100, false, some 6) := by decide +kernel
theorem test_detent_opens : left (.emergencyDetentOpen at_ 10) (State.drive tripped fun d => { d with detent := true })
    (fun s => (s.drc.detent, s.drc.driveState)) = some (false, .tripped) := by decide +kernel
theorem test_reverser_moving : left (.reverserChange at_ 10 false true) (running 420 420) (fun s =>
    (s.drc.driveState, s.drc.tripReason, s.drc.vCeil, s.clp.faults.map FaultEntry.pair)) =
    some (.tripped, some .reverser, 167, [(.reverser, 0)]) := by decide +kernel
theorem test_deadman_released : left (.deadmanChange at_ 10 false) (running 420 420) (fun s => s.drc.vigilance) =
    some (some at_) := by decide +kernel
def drowsy (ms : Nat) : State := State.drive (running 420 420) fun d => { d with
  deadman := false, vigilance := some (at_ - 1000 * ms) }
theorem test_vigilance_warning : left (.vigilanceWarning at_) (drowsy 1500) (fun s =>
    s.tnu.cab.playing.map (fun p => (p.saved.req.pattern, p.saved.req.priority))) = some (some (5, 7)) := by decide +kernel
theorem test_vigilance_trip : left (.vigilanceTrip at_) (drowsy 2500) (fun s =>
    (s.drc.driveState, s.drc.tripReason)) = some (.tripped, some .vigilance) := by decide +kernel
theorem test_demand_period : left (.demandPeriodStart at_) (State.drive demo fun d => { d with u := 7, buffer := 7 })
    (fun s => (s.drc.duty, s.drc.highTime)) = some (528, 1056) := by decide +kernel
theorem test_emergency_stop : left (.emergencyStop at_ 9) (running 420 420) (fun s =>
    (s.drc.tripReason, s.clp.outbound.getLast?)) =
    some (some .linkStop, some (.reply 0x97 9 .ok none (.driveState .tripped))) := by decide +kernel

/-! ## Junctions, the loop and exchanges (4.8, 6.12, Table 6-3) -/

/-- The JUNCTION_LOAD and the record of junction 318 (6.12): RIGHT given as NORMAL, REVERSE. -/
def load318 : JunctionLoad :=
  ⟨318, 2, 0b110, 0, 0b0001, 0b1001, 1, 45000, 12000, 6000, 556, 417⟩
def j318 : JunctionRecord :=
  ⟨318, 2, none, some [.normal, .any], some [.normal, .reverse], .straight, 45000, 12000, 6000, 556, 417⟩

/-- The tram before junction 318, its head in WAITING with selection RIGHT, at 2 480 000 mm. -/
def before318 : State := { running 400 400 with
  amu := { (running 400 400).amu with track := 64 * 2480000 }
  rtm := { demo.rtm with junctions := [j318], plan := [⟨318, .right, .plan, .waiting⟩] }
  lpt := { demo.lpt with toggleMemory := some false } }

def page0 : RequestPage := ⟨318, 1207, 0, .normal, false, true, 0x2E31⟩
def page1 : RequestPage := ⟨318, 1207, 1, .reverse, true, false, 0xBED0⟩
def pages318 : List Page := [⟨0, .normal, false⟩, ⟨1, .reverse, true⟩]

/-- The exchange at junction 318 in a state: page 1 held, its chain K0 (Table 6-2). -/
def in318 (st : ExState) (resume : Option ExState) (counter : Nat) (track : Nat) : State := { before318 with
  amu := { before318.amu with track := BitVec.ofNat 38 (64 * track) }
  drc := { before318.drc with
    table := { before318.drc.table with route := some ⟨.ceiling, 556, 0xE1, none, none, .active⟩ }, vCeil := 556, vSup := 556 }
  rtm := { before318.rtm with
    plan := [⟨318, .right, .plan, st⟩]
    context := some ⟨2480000, some ⟨pages318, 1, false, 2, 0x2E31, .none, counter⟩, resume, 0⟩, amber := true }
  lpt := { before318.lpt with
    contact := some 318, contactTimer := some (at_ - 50000), toggleMemory := some false, held := some page1 } }

/-- Beacons of junction 318: not addressed; addressed, ACCEPTED, set 0 NORMAL locked; and with set 1 REVERSE locked. The
checks were computed outside the model. -/
def beaconFree : List Byte := [0x5A, 0x01, 0x3E, 0x02, 0, 0, 0, 0, 0, 0, 0, 0, 0, 0x94, 0x36]
def beaconSet0 : List Byte := [0x5A, 0x01, 0x3E, 0x02, 0, 5, 0, 0, 0, 0x04, 0xB7, 1, 1, 0x4E, 0x06]
def beaconSet1 : List Byte := [0x5A, 0x01, 0x3E, 0x02, 0, 5, 6, 0, 0, 0x04, 0xB7, 1, 1, 0xEF, 0x23]

/-- The published check value of the polynomial of R90 with its seed 0xFFFF, for the bytes of "123456789". -/
theorem test_check_value : crc 0xFFFF [0x31, 0x32, 0x33, 0x34, 0x35, 0x36, 0x37, 0x38, 0x39] = 0x29B1 := by decide +kernel
theorem test_curve : [39000, 15460, 9000, 6000, 3000, 1000, 100, 5, 0].map (curve 100) =
    [883, 556, 424, 346, 244, 141, 44, 0, 0] := by decide +kernel

theorem test_junction_load : left (.junctionLoad at_ 7 load318) demo (fun s =>
    (s.rtm.junctions, s.clp.outbound)) =
    some ([j318], [.reply 0x84 7 .ok none (.junctionLoaded false 1 0)]) := by decide +kernel
theorem test_junction_load_margin : left (.junctionLoad at_ 7 { load318 with stopMargin := 1999 }) demo (fun s =>
    (s.rtm.junctions, s.clp.outbound)) = some ([], [.reply 0x84 7 .outOfRange (some 8) .none]) := by decide +kernel
theorem test_junction_drop : left (.junctionDrop at_ 7 318) before318 (fun s => (s.rtm.junctions, s.rtm.plan.length)) =
    some ([], 1) := by decide +kernel
theorem test_junction_drop_in_use : left (.junctionDrop at_ 7 318) (in318 .sending none 0 2480000) (fun s =>
    s.clp.outbound) = some [.reply 0x85 7 .inUse none .none] := by decide +kernel
theorem test_junction_read : left (.junctionRead at_ 7 319) before318 (fun s => s.clp.outbound) =
    some [.reply 0x86 7 .notFound none (.junctionCount 1)] := by decide +kernel
theorem test_route_append : left (.routeAppend at_ 7 241 1) before318 (fun s =>
    (s.rtm.plan.map (·.id), s.clp.outbound)) =
    some ([318, 241], [.reply 0x87 7 .ok none (.appended 1 2)]) := by decide +kernel
theorem test_route_append_absent : left (.routeAppend at_ 7 318 0) before318 (fun s => s.clp.outbound) =
    some [.reply 0x87 7 .outOfRange (some 3) .none] := by decide +kernel
theorem test_route_clear : left (.routeClear at_ 7) (in318 .locked none 0 2480000) (fun s => s.clp.outbound) =
    some [.reply 0x88 7 .ok none (.planCleared 0 1)] := by decide +kernel
theorem test_route_read : left (.routeRead at_ 7 1) demo (fun s => s.clp.outbound) =
    some [.reply 0x89 7 .notFound none .none] := by decide +kernel

/-- Step 1 of Table 4-6: LEFT pressed with 215 STRAIGHT at the head. -/
def before215 : State := { demo with rtm := { demo.rtm with
  junctions := [{ j318 with id := 215, left := some [.reverse, .normal], right := none }]
  plan := [⟨215, .straight, .plan, .waiting⟩, ⟨230, .left, .plan, .waiting⟩] } }
theorem test_selector_press : left (.selectorPress at_ 40 .left) before215 (fun s =>
    (s.rtm.plan.map (fun e => (e.id, e.selection)), s.rtm.pendingSel, s.clp.outbound)) =
    some ([(215, .left), (230, .left)], some .left,
      [.report 1 (some false) (.junction (.selection 215 .straight .left))]) := by decide +kernel
theorem test_selector_refused : left (.selectorPress at_ 40 .right) before215 (fun s =>
    (s.rtm.plan.map (·.selection), s.tnu.cab.playing.map (·.saved.req.pattern))) =
    some ([.straight, .left], some 7) := by decide +kernel
theorem test_selector_release : left (.selectorButtonRelease at_ 40 .left)
    { demo with rtm := { demo.rtm with armedLeft := false } } (fun s => s.rtm.armedLeft) = some true := by decide +kernel

/-- Row 0 ms of Table 6-2. -/
theorem test_first_contact : left (.loopPage at_ beaconFree) before318 (fun s =>
    (s.rtm.plan.map (·.state), s.lpt.slotPage, s.drc.table.route.map (·.ceiling))) =
    some ([.sending], some page0, some 556) := by decide +kernel
/-- Row 450 ms of Table 6-2: out of CONTACT_LOST through SENDING and AWAITING to SETTING in one event, counter 1. -/
theorem test_contact_regained : left (.loopPage at_ beaconSet0) (in318 .contactLost (some .sending) 0 2482000) (fun s =>
    (s.rtm.plan.map (·.state), s.rtm.context.bind (fun c => c.paging.map (·.counter)), s.lpt.slotPage, s.rtm.amber)) =
    some ([.setting], some 1, none, true) := by decide +kernel
/-- Row 850 ms of Table 6-2. -/
theorem test_points_lock : left (.loopPage at_ beaconSet1) (in318 .setting none 8 2483400) (fun s =>
    (s.rtm.plan.map (·.state), s.rtm.green, s.drc.table.route.map (fun e => (e.ceiling, e.reason)))) =
    some ([.locked], true, some (417, 0xE2)) := by decide +kernel
theorem test_bad_beacon : left (.loopPage at_ (beaconFree.set 14 0)) (in318 .sending none 0 2480600) (fun s =>
    (s.lpt.badCount, s.rtm.context.map (·.bad))) = some (1, some 1) := by decide +kernel
theorem test_awaiting_timeout : left (.awaitingTimeout at_ beaconFree) (in318 .awaiting none 19 2484000) (fun s =>
    (s.rtm.plan.map (·.state), s.rtm.red, s.clp.faults.map FaultEntry.pair)) =
    some ([.timedOut], true, [(.junctionTimeout, 0)]) := by decide +kernel
theorem test_setting_timeout : left (.settingTimeout at_ beaconFree) (in318 .setting none 159 2490000) (fun s =>
    s.rtm.plan.map (·.state)) = some [.timedOut] := by decide +kernel
/-- Row 400 ms of Table 6-2. -/
theorem test_contact_lost : left (.contactLost (at_ + 250000)) (in318 .sending none 0 2481600) (fun s =>
    (s.rtm.plan.map (·.state), s.rtm.context.bind (·.resume), s.rtm.red)) =
    some ([.contactLost], some .sending, true) := by decide +kernel

theorem test_approach_ceiling : left (.approachInterval at_) (in318 .queued none 0 2513000) (fun s =>
    s.drc.table.route.map (fun e => (e.kind, e.ceiling, e.reason))) = some (some (.ceiling, 346, 0xE1)) := by decide +kernel
theorem test_approach_zone : left (.approachInterval at_) (in318 .queued none 0 2519000) (fun s =>
    (s.drc.table.route.map (fun e => e.kind), s.rtm.zone)) = some (some .hold, true) := by decide +kernel
theorem test_amber_flash : left (.amberFlash at_) { in318 .unknown none 0 2480000 with rtm :=
    { (in318 .unknown none 0 2480000).rtm with flashStart := some (at_ - 500000) } } (fun s => s.rtm.amber) =
    some false := by decide +kernel

/-! ## Stop requests and doors (Tables 7-3, 7-4, 8-3) -/

/-- Step 4 and steps 7 of Table 7-3. -/
def stops4 : List StopEntry := [⟨2, true, false, false, 2⟩, ⟨0, true, false, false, 1⟩, ⟨1, false, false, true, 1⟩]
def stops7 : List StopEntry := [⟨2, true, false, false, 2⟩, ⟨1, false, false, true, 1⟩, ⟨0, true, true, false, 2⟩]
def withStops (l : List StopEntry) (s : State) : State :=
  { s with sdu := { s.sdu with stops := l, stopLamp := true, rampLamp := true } }

theorem test_button_input : left (.buttonInputChange at_ 3 true) demo (fun s => s.sdu.buttons[3].settle) =
    some (some at_) := by decide +kernel
theorem test_first_request : left (.settleTimerExpiry at_ 2) (withButton 2 pressed demo) (fun s =>
    (s.sdu.stops, s.sdu.stopLamp, s.tnu.cab.playing.map (·.saved.req.pattern))) =
    some ([⟨2, true, false, false, 1⟩], true, some 4) := by decide +kernel
theorem test_merged_request : left (.settleTimerExpiry at_ 0) (withButton 0 pressed
    (withStops [⟨2, true, false, false, 2⟩, ⟨1, false, false, true, 1⟩, ⟨0, false, true, false, 1⟩] demo)) (fun s =>
    s.sdu.stops) = some stops7 := by decide +kernel
theorem test_stop_clear : left (.stopClear at_ 7 0) (withStops stops4 demo) (fun s =>
    (s.sdu.stops.map (·.door), s.sdu.stopLamp, s.sdu.rampLamp)) = some ([2, 1], true, true) := by decide +kernel
theorem test_hold_expiry_early : left (.holdTimerExpiry at_ 3) (withButton 3
    { Conditioner.initial with raw := true, level := true, hold := some (at_ - 20000000) } { demo with now := 0 })
    (fun s => s.sdu.buttons[3].stuck) = some false := by decide +kernel
theorem test_hold_expiry : left (.holdTimerExpiry 30040000 3) (withButton 3
    { Conditioner.initial with raw := true, level := true, hold := some 10040000 } demo) (fun s =>
    (s.sdu.buttons[3].stuck, s.clp.faults.map FaultEntry.pair)) = some (true, [(.buttonStuck, 3)]) := by decide +kernel
theorem test_recovery_expiry : left (.recoveryTimerExpiry at_ 3) (withButton 3
    { Conditioner.initial with stuck := true, recovery := some (at_ - 2000000) } demo) (fun s =>
    (s.sdu.buttons[3].stuck, s.sdu.buttons[3].recovery)) = some (false, none) := by decide +kernel
theorem test_isolate : left (.buttonIsolate at_ 7 3 0) demo (fun s => s.clp.outbound) =
    some [.reply 0x93 7 .ok none (.button 3 (some (3, .alight)) false .isolated)] := by decide +kernel
theorem test_stop_read : left (.stopRead at_ 7) (withStops stops4 demo) (fun s => s.clp.outbound.length) =
    some 1 := by decide +kernel

/-- The release at 1.5 s of Table 8-3. -/
theorem test_release : left (.releasePress at_ 40 .right) (withStops stops7 demo) (fun s =>
    (s.sdu.door, s.sdu.outputs.toList.take 5, s.sdu.stops, s.drc.vCeil)) =
    some (.released .right, [.opened, .opened, .opened, .enabled, .closed], [], 0) := by decide +kernel
theorem test_release_moving : left (.releasePress at_ 40 .right) (running 20 20) (fun s =>
    (s.sdu.door, s.tnu.cab.playing.map (·.saved.req.source))) = some (.none, some .doors) := by decide +kernel

/-- A session on the right, with doors locked as given. -/
def session (door : DoorState) (locked : Vector Bool 8) : State := { demo with
  drc := { demo.drc with table := { demo.drc.table with doors := some ⟨.hold, 0, 0xE4, none, none, .active⟩ }, vCeil := 0 }
  sdu := { demo.sdu with
    door := door, locked := locked, outputs := #v[.opened, .opened, .opened, .enabled, .closed, .closed, .closed, .closed]
    closeTimer := if door = .closing .right then some (at_ - 3000000) else none } }
def door2Open : Vector Bool 8 := #v[true, true, false, true, true, true, true, true]

theorem test_passenger_opens : left (.settleTimerExpiry at_ 3) (withButton 3 pressed (session (.released .right) door2Open))
    (fun s => (s.sdu.outputs[3], s.sdu.stops)) = some (.opened, []) := by decide +kernel
theorem test_close : left (.closePress at_ 40) (session (.released .right) door2Open) (fun s =>
    (s.sdu.door, s.sdu.closeTimer, s.sdu.outputs.toList.all (· = .closed))) =
    some (.closing .right, some at_, true) := by decide +kernel
theorem test_last_door_locks : left (.doorInputChange at_ 40 2 true) (session (.closing .right) door2Open) (fun s =>
    (s.sdu.door, s.drc.table.doors, s.drc.vSup, s.tnu.bell.playing.map (·.saved.req.pattern))) =
    some (.none, none, 2000, some 1) := by decide +kernel
theorem test_close_timeout : left (.closeTimerExpiry (at_ + 12000000)) (session (.closing .right) door2Open) (fun s =>
    (s.sdu.door, s.clp.faults.map FaultEntry.pair)) = some (.closing .right, [(.doorCloseTimeout, 0)]) := by decide +kernel
theorem test_door_opens_in_service : left (.doorInputChange at_ 40 5 false) demo (fun s =>
    (s.sdu.door, s.drc.vCeil, s.clp.faults.map FaultEntry.pair)) =
    some (.unsafe_, 0, [(.doorUnlocked, 5)]) := by decide +kernel
theorem test_bypass_on : left (.bypassOn at_ 40) (session (.closing .right) door2Open) (fun s =>
    (s.sdu.door, s.drc.vCeil, s.clp.faults.map FaultEntry.pair)) =
    some (.bypassed, 417, [(.doorBypass, 0), (.doorUnlocked, 2)]) := by decide +kernel
theorem test_bypass_off : left (.bypassOff at_ 40) { session .bypassed (Vector.replicate 8 true) with sdu :=
    { (session .bypassed (Vector.replicate 8 true)).sdu with bypass := true } } (fun s => (s.sdu.door, s.sdu.bypass)) =
    some (.none, false) := by decide +kernel
theorem test_door_button_inactive : left (.cabDoorButtonInactive at_ 40 .close)
    { demo with sdu := { demo.sdu with armedClose := false } } (fun s => s.sdu.armedClose) = some true := by decide +kernel

/-! ## Tones (Table 9-3) -/

/-- The CAB channel of Table 9-3: a playing context, the saved ones from the top, and the queue from the head. -/
def cabTone (playing : Option Playing) (stack : List Saved) (queue : List Request) (out : ToneOutput) : State :=
  { demo with tnu := { demo.tnu with cab := ⟨playing, queue, stack, 20, out⟩ } }

def reqWarn : Request := ⟨5, 6, .route, .count 2, 1⟩
def reqVigil : Request := ⟨5, 7, .vigilance, .held, 3⟩
def reqChime : Request := ⟨4, 2, .stops, .count 1, 0⟩
def reqRefuse : Request := ⟨7, 3, .route, .count 0, 2⟩
def reqLink : Request := ⟨4, 5, .link, .count 1, 4⟩
def savedChime : Saved := ⟨reqChime, 0, 0, 50⟩
def savedWarn : Saved := ⟨reqWarn, 1, 0, 160⟩
/-- A context that plays step `step` of a request since a moment `ms` before now, with `rem` ms to run then. -/
def plays (r : Request) (step reps rem ms : Nat) : Option Playing := some ⟨⟨r, step, reps, rem⟩, at_ - 1000 * ms⟩

/-- Row 340: the vigilance warning pre-empts the ROUTE warning with 160 ms of its silence left. -/
theorem test_preemption : left (.vigilanceWarning at_)
    { (cabTone (plays reqWarn 1 0 200 40) [savedChime] [reqRefuse] .silent) with
      drc := (drowsy 1500).drc, amu := (drowsy 1500).amu } (fun s =>
    (s.tnu.cab.playing.map (·.saved.req.source), s.tnu.cab.stack, s.tnu.cab.output)) =
    some (some .vigilance, [savedWarn, savedChime], .sounding 1000 300 at_) := by decide +kernel
/-- Row 560: clamped from 7 to 5, waiting at the head. -/
theorem test_sound_start : left (.soundStart at_ 7 2 4 7 1)
    (cabTone (plays reqVigil 0 1 200 20) [savedWarn, savedChime] [reqRefuse] .silent) (fun s =>
    (s.tnu.cab.queue.map (·.source), s.clp.outbound)) =
    some ([.link, .route], [.reply 0x8D 7 .ok none (.soundStarted 5 true (.waiting 0))]) := by decide +kernel
/-- Row 1460: the second repeat is done, and the LINK chime plays before the saved stop chime. R169: that chime leaves with
COMPLETED when its one repeat is done. -/
theorem test_step_end_completes :
    left (.stepEnd at_ .cab) (cabTone (plays reqWarn 1 1 200 200) [savedChime] [reqLink, reqRefuse] .silent) (fun s =>
      (s.tnu.cab.playing.map (fun p => (p.saved.req.source, p.saved.remaining)), s.tnu.cab.stack, s.tnu.cab.queue)) =
      some (some (.link, 150), [savedChime], [reqRefuse]) ∧
    left (.stepEnd at_ .cab) (cabTone (plays reqLink 1 0 250 250) [savedChime] [] .silent) (fun s =>
      (s.tnu.cab.playing.map (·.saved.req), s.clp.outbound)) =
      some (some reqChime, [.report 1 (some false) (.sound .cab 4 5 (.count 1) 1 .completed)]) := by decide +kernel
/-- At 300: the first repeat's step 0 gives way to its silence. -/
theorem test_step_end : left (.stepEnd at_ .cab) (cabTone (plays reqWarn 0 0 200 200) [] [] .silent) (fun s =>
    s.tnu.cab.playing) = some (some ⟨⟨reqWarn, 1, 0, 200⟩, at_⟩) := by decide +kernel
theorem test_tone_period_end : left (.tonePeriodEnd at_ .cab)
    (cabTone (plays reqLink 0 0 150 10) [] [] (.sounding 1000 300 (at_ - 1000))) (fun s => s.tnu.cab.output) =
    some (.sounding 1500 200 at_) := by decide +kernel
theorem test_sound_stop : left (.soundStop at_ 7 2) (cabTone (plays reqWarn 0 0 200 10) [savedChime] [reqLink] .silent)
    (fun s => (s.tnu.cab.queue, s.tnu.cab.playing.map (·.saved.req), s.clp.outbound.getLast?)) =
    some ([], some reqWarn, some (.reply 0x8E 7 .ok none (.soundStopped 1 (some (5, .route))))) := by decide +kernel
theorem test_horn : left (.hornButtonChange at_ 20 true) demo (fun s =>
    (s.tnu.horn.playing.map (fun p => (p.saved.req.pattern, p.saved.req.priority)), s.tnu.horn.output)) =
    some (some (3, 6), .sounding 2500 450 at_) := by decide +kernel
theorem test_pedal_released : left (.bellPedalChange at_ 20 false) { demo with tnu := { demo.tnu with
    pedalDown := true, bell := ⟨plays ⟨2, 5, .driverBell, .held, 0⟩ 0 0 120 10, [], [], 1, .silent⟩ } } (fun s =>
    (s.tnu.bell.playing, s.tnu.pedalDown)) = some (none, false) := by decide +kernel
theorem test_pattern_load : left (.patternLoad at_ 7 ⟨8, 1, 1, 0, [⟨0, 300, 10⟩]⟩) demo (fun s =>
    (s.tnu.pattern 8, s.clp.outbound)) =
    some (some ⟨[⟨0, 0, 10⟩], 1⟩, [.reply 0x8F 7 .ok none (.patternLoaded 8 true)]) := by decide +kernel
theorem test_pattern_step_short : left (.patternLoad at_ 7 ⟨8, 1, 1, 0, [⟨500, 300, 9⟩]⟩) demo (fun s =>
    (s.tnu.pattern 8, s.clp.outbound)) = some (none, [.reply 0x8F 7 .outOfRange (some 5) .none]) := by decide +kernel
theorem test_pattern_read : left (.patternRead at_ 7 7 0) demo (fun s => s.clp.outbound) =
    some [.reply 0x90 7 .ok none (.pattern 1 3 [⟨500, 250, 60⟩, ⟨0, 0, 60⟩, ⟨500, 250, 60⟩] true
      [(false, false, false), (false, false, false), (false, false, false)])] := by decide +kernel

/-! ## The cab link (Table 10-4) and start-up (11.5) -/

/-- A STOP_READ of tag 21, whose check was computed outside the model, one byte every 43 µs. -/
def stopRead21 : List RxByte :=
  [⟨at_ + 43, 0xC3, true⟩, ⟨at_ + 86, 2, true⟩, ⟨at_ + 130, 0x11, true⟩, ⟨at_ + 173, 21, true⟩, ⟨at_ + 217, 0xD0, true⟩,
    ⟨at_ + 260, 0x2A, true⟩]
def waiting (tag : Byte) : Inbound := ⟨0x11, tag, .stopRead⟩
def busy (tag : Byte) : OutFrame := .reply 0x91 tag .busy none .none
/-- A report that stands in the outbound queue. -/
def rep (tag : Byte) : OutFrame := .report tag none (.linkError .gap 0 none none)
def link (inbound : List Inbound) (outbound : List OutFrame) : State :=
  { demo with clp := { demo.clp with inbound := inbound, outbound := outbound } }

/-- Row 0.26. -/
theorem test_frame_taken : left (.linkFrame stopRead21) (link [] [rep 1, rep 2, rep 3, rep 4]) (fun s =>
    (s.clp.inbound, s.clp.outbound.length, s.clp.receiver)) = some ([], 5, .hunting) := by decide +kernel
/-- Row 1.56. -/
theorem test_fifth_frame_is_busy : left (.linkFrame stopRead21)
    (link [waiting 22, waiting 23, waiting 24, waiting 25] [rep 1, busy 9]) (fun s =>
    (s.clp.inbound.length, s.clp.outbound.getLast?)) = some (4, some (busy 21)) := by decide +kernel
/-- Row 5.60: B27 begins, no reply waits, 22 is taken. -/
theorem test_frame_sent : left (.frameSent at_) (link [waiting 22, waiting 23, waiting 24] [busy 26, busy 27]) (fun s =>
    (s.clp.inbound, s.clp.outbound.map (fun f => match f with
      | .reply _ tag st _ _ => (tag, st)
      | .report tag _ _ => (tag, .ok)))) =
    some ([waiting 23, waiting 24], [(27, .busy), (22, .ok)]) := by decide +kernel
theorem test_take_command_waits : left (.takeCommand at_) (link [waiting 22] [busy 26, busy 27]) (fun s =>
    s.clp.inbound.length) = some 1 := by decide +kernel
theorem test_gap : left (.gapAbort at_) { demo with clp := { demo.clp with
    receiver := .collecting [2, 0x11] (at_ - 5001) } } (fun s => (s.clp.receiver, s.clp.outbound)) =
    some (.hunting, [.report 1 (some false) (.linkError .gap 2 (some 0x11) none)]) := by decide +kernel
theorem test_identify : left (.identify at_ 7) demo (fun s => s.clp.outbound) =
    some [.reply 0x81 7 .ok none (.identity 0x4E18 1 2 0xFD)] := by decide +kernel
theorem test_report_rate : left (.reportRate at_ 7 10) demo (fun s => (s.clp.rate, s.clp.statusDue)) =
    some (10, at_ + 1000000) := by decide +kernel
theorem test_status_timer : left (.statusTimerExpiry at_) { demo with clp := { demo.clp with rate := 10, statusDue := at_ } }
    (fun s => (s.clp.outbound, s.clp.statusDue)) =
    some ([.report 1 (some false) (.status demo.statusView)], at_ + 1000000) := by decide +kernel
theorem test_status_read : left (.statusRead at_ 7 1) demo (fun s => s.clp.outbound) =
    some [.reply 0x94 7 .ok none (.loop ⟨none, 0, none, none⟩)] := by decide +kernel

def faulty : State := { demo with clp := { demo.clp with
  faults := [⟨.overspeed, 0, 2, 100, false⟩, ⟨.handleFault, 0, 3, 200, true⟩] }, drc := { demo.drc with handleFault := true } }
theorem test_faults_read : left (.faultsRead at_ 7 0) faulty (fun s =>
    (s.clp.faults, s.clp.outbound, s.clp.snapshot.map (·.entries.length))) =
    some ([⟨.handleFault, 0, 1, 0, true⟩], [.reply 0x96 7 .ok none (.faults false 2 0 faulty.clp.faults)], some 2) := by
  decide +kernel
theorem test_restart_moving : left (.restart at_ 7) (running 5 5) (fun s => s.clp.outbound) =
    some [.reply 0x98 7 .notStandstill none .none] := by decide +kernel
/-- R87, R85: a selector button whose press was taken before a RESTART can be taken again after it. -/
theorem test_restart : left (.restart at_ 7) { before318 with
      amu := demo.amu, rtm := { before318.rtm with armedLeft := false } } (fun s =>
    (s.rtm.plan, s.rtm.junctions, s.rtm.armedLeft, s.clp.outbound)) =
    some ([], [], true, [.reply 0x98 7 .ok none .none]) := by decide +kernel

/-- The part before its first CONFIGURE. -/
def fresh : State := { State.reset with now := 940000 }
theorem test_first_configure : left (.configure 940000 7 demoParams) fresh (fun s =>
    (s.drc.driveState, s.drc.tripReason, s.drc.u, s.configured, s.clp.outbound.getLast?)) =
    some (.tripped, some .configured, -100, true, some (.reply 0x82 7 .ok none (.configured .tripped true))) := by
  decide +kernel
theorem test_configure_field : left (.configure 940000 7 { demoParams with curveDecel := 250 }) fresh (fun s =>
    (s.drc.driveState, s.clp.outbound)) = some (.unconfigured, [.reply 0x82 7 .outOfRange (some 10) .none]) := by
  decide +kernel
theorem test_read_config : left (.readConfig at_ 7) fresh (fun s => s.clp.outbound.length) = some 1 := by decide +kernel
theorem test_power_on : left (.powerOn 0 ⟨false, true, true, false, false, false, false, Vector.replicate 8 true,
    Vector.replicate 16 false⟩) demo (fun s =>
    (s.drc.driveState, s.drc.reverser, s.amu.b.cls, s.clp.faults.map FaultEntry.pair)) =
    some (.unconfigured, .forward, .fault, [(.axleFault, 1)]) := by decide +kernel

/-! ## Witnesses: concrete states and operands that meet the hypotheses of the statements, clause by clause -/

theorem of_all {α : Type} {o : Option α} {P : α → Prop} (h : ∀ e ∈ o.toList, P e) : ∀ e, o = some e → P e := by
  intro e he; subst he; simpa using h

/-- A state with a command waiting. -/
def queued (c : Instr) (s : State) : State := { s with pending := [c] }

theorem witness_StepTakesFront :
    (queued (.gapAbort 0) demo).pending = .gapAbort 0 :: [] ∧ demo.pending = [] := ⟨rfl, rfl⟩
theorem witness_CommandsNeverStop : (∀ t i, Instr.gapAbort at_ ≠ .powerOn t i) ∧ demo.configured = true :=
  ⟨nofun, rfl⟩
theorem witness_ResetIsSound : State.reset.now = 0 ∧ State.reset.pending = [] := ⟨rfl, rfl⟩

theorem witness_DriveKept : DriveSafe (queued (.controlInterval at_) approach) ∧
    DemandBounded (queued (.controlInterval at_) approach) ∧
    ∃ s', step (queued (.controlInterval at_) approach) = .next s' :=
  ⟨⟨by decide +kernel, by decide +kernel, by decide +kernel, by decide +kernel, by decide +kernel,
      of_all (by decide +kernel)⟩,
    ⟨by decide +kernel, by decide +kernel, by decide +kernel, by decide +kernel, of_all (by decide +kernel),
      of_all (by decide +kernel), by decide +kernel⟩, _, rfl⟩
theorem witness_CeilingKept : CeilingSound (queued (.controlInterval at_) approach) ∧
    ∃ s', step (queued (.controlInterval at_) approach) = .next s' :=
  ⟨⟨by decide +kernel, by decide +kernel, by decide +kernel⟩, _, rfl⟩
theorem witness_DoorsAndStopsKept :
    (DoorsHeld (queued (.doorInputChange at_ 40 2 true) (session (.closing .right) door2Open)) ∧
      ∃ s', step (queued (.doorInputChange at_ 40 2 true) (session (.closing .right) door2Open)) = .next s') ∧
    StopsSound (queued (.stopClear at_ 7 0) (withStops stops7 demo)) ∧
      ∃ s', step (queued (.stopClear at_ 7 0) (withStops stops7 demo)) = .next s' :=
  ⟨⟨by unfold DoorsHeld; decide +kernel, _, rfl⟩,
    ⟨by decide +kernel, by decide +kernel, by decide +kernel, by decide +kernel, by decide +kernel, by decide +kernel⟩,
    _, rfl⟩
theorem witness_PlanKept : PlanSound (queued (.loopPage at_ beaconSet0) (in318 .sending none 0 2480000)) ∧
    ∃ s', step (queued (.loopPage at_ beaconSet0) (in318 .sending none 0 2480000)) = .next s' :=
  ⟨⟨by decide +kernel, by decide +kernel, by decide +kernel, by decide +kernel, by decide +kernel, by decide +kernel,
      of_all (by decide +kernel), fun c h => ⟨fun hs => absurd hs (by decide +kernel), by cases h; decide +kernel⟩,
      by decide +kernel, by decide +kernel, by decide +kernel⟩, _, rfl⟩

def threeLevels : State := cabTone (plays reqVigil 0 1 200 20) [savedWarn, savedChime] [reqLink, reqRefuse] .silent

theorem channelSound_threeLevels : ChannelSound threeLevels.tnu.cab :=
  ⟨by decide +kernel, by decide +kernel, by decide +kernel, by decide +kernel, by decide +kernel, by decide +kernel,
    by decide +kernel, of_all (by decide +kernel), of_all (by decide +kernel)⟩
theorem channelSound_initial : ChannelSound Channel.initial :=
  ⟨by decide +kernel, by decide +kernel, by decide +kernel, by decide +kernel, by decide +kernel, by decide +kernel,
    by decide +kernel, of_all (by decide +kernel), of_all (by decide +kernel)⟩
theorem witness_TonesKept : TonesSound (queued (.soundStop at_ 7 2) threeLevels) ∧
    ∃ s', step (queued (.soundStop at_ 7 2) threeLevels) = .next s' :=
  ⟨fun ch => (by cases ch <;> first | exact channelSound_threeLevels | exact channelSound_initial), _, rfl⟩
theorem witness_LinkKept :
    LinkBounded (queued (.takeCommand at_) (link [waiting 22, waiting 23, waiting 24, waiting 25] [rep 1, busy 26])) ∧
    ∃ s', step (queued (.takeCommand at_) (link [waiting 22, waiting 23, waiting 24, waiting 25] [rep 1, busy 26])) =
      .next s' :=
  ⟨⟨by decide +kernel, by decide +kernel, by decide +kernel, by decide +kernel, by decide +kernel, by decide +kernel,
    of_all (by decide +kernel)⟩, _, rfl⟩
theorem witness_TimersKept : TimersSound (queued (.vigilanceWarning at_) (drowsy 1500)) ∧
    DriveSafe (queued (.vigilanceWarning at_) (drowsy 1500)) ∧
    ∃ s', step (queued (.vigilanceWarning at_) (drowsy 1500)) = .next s' :=
  ⟨⟨fun ax => by cases ax <;> decide +kernel, by decide +kernel, by decide +kernel, by decide +kernel, by decide +kernel,
    by decide +kernel, by decide +kernel⟩, ⟨by decide +kernel, by decide +kernel, by decide +kernel, by decide +kernel,
    by decide +kernel, of_all (by decide +kernel)⟩, _, rfl⟩

/-- Axle A with a window, an age of its last edge and a sensor health; axle B GOOD at 300. -/
def edgeOn (w : Option Window) (age : Nat) (health : Bool) (f : AxleChannel → AxleChannel) : State :=
  { demo with amu := { demo.amu with
    a := f { going 300 with window := w, lastEdge := some (at_ - age), healthOpen := health }, b := going 300 } }

/-- The edge comes 50 µs after the last taken one; no window; windows that close by count, by time, and neither. -/
theorem witness_EdgeTaken :
    (∀ w ∈ [none, some (Window.mk (at_ - 51000) 15), some ⟨at_ - 250000, 0⟩, some ⟨at_ - 249999, 14⟩],
      max (edgeOn w 50 false id).now at_ = at_ ∧ ((edgeOn w 50 false id).amu.channel .A).healthOpen = false ∧
      ((edgeOn w 50 false id).amu.channel .A).window = w ∧
      ∀ e, ((edgeOn w 50 false id).amu.channel .A).lastEdge = some e → e + 50 ≤ at_) ∧
    (∀ w ∈ [some (Window.mk (at_ - 249999) 14)], ∀ x, w = some x → x.count + 1 < 16 ∧ at_ - x.opened < 250000) ∧
    ((edgeOn none 1000 true id).amu.channel .A).healthOpen = true ∧
    ∃ e, ((edgeOn none 49 false id).amu.channel .A).lastEdge = some e ∧ max (edgeOn none 49 false id).now at_ < e + 50 :=
  ⟨fun w _ => ⟨rfl, rfl, rfl, by rintro e ⟨⟩; decide⟩, by simp [at_], rfl, _, rfl, by decide⟩

/-- An axle in FAULT by PLAUSIBILITY whose fourth agreeing window closes at 1000 cm/s against an axle at w. -/
def fourth (w run : Nat) : State := { demo with amu := { demo.amu with
  a := { going 0 with cls := .fault, plausCause := true, recovery := run, window := some ⟨at_ - 51000, 15⟩ }
  b := going w } }

theorem witness_WindowSpeed :
    (rest2.amu.channel .A).healthOpen = false ∧ (∀ e, (rest2.amu.channel .A).lastEdge = some e → e + 50 ≤ 262000) ∧
    (rest2.amu.channel .A).window = some ⟨0, 2⟩ ∧ max rest2.now 262000 = 262000 ∧ 250000 ≤ 262000 - 0 ∧
    36 = min 3000 ((2 + 1) * circumference rest2.params .A * 3125 / (2 * (262000 - 0))) ∧
    (rest2.amu.channel .A).cls ≠ .fault ∧
    (∀ x ∈ [(926, 3), (926, 2), (925, 3)], ((fourth x.1 x.2).amu.channel .A).cls = .fault ∧
      ((fourth x.1 x.2).amu.channel .A).plausCause = true ∧ ((fourth x.1 x.2).amu.channel .A).healthOpen = false ∧
      (∀ e, ((fourth x.1 x.2).amu.channel .A).lastEdge = some e → e + 50 ≤ at_) ∧
      ((fourth x.1 x.2).amu.channel .A).window = some ⟨at_ - 51000, 15⟩ ∧ at_ - 51000 < at_ ∧
      1000 = min 3000 ((15 + 1) * circumference (fourth x.1 x.2).params .A * 3125 / (2 * (at_ - (at_ - 51000)))) ∧
      x.1 = ((fourth x.1 x.2).amu.channel .B).speed ∧ ((fourth x.1 x.2).amu.channel .B).cls = .good) ∧
    (max 1000 926 - min 1000 926 ≤ max 20 (926 * 80 / 1000) ∧ ¬ max 1000 925 - min 1000 925 ≤ max 20 (925 * 80 / 1000)) :=
  ⟨rfl, by rintro e ⟨⟩; decide, rfl, rfl, by decide, by decide +kernel, by decide,
    fun x _ => ⟨rfl, rfl, rfl, by rintro e ⟨⟩; decide, rfl, by decide, (by decide : 1000 = min 3000 ((15 + 1) * 2042 * 3125 / (2 * (at_ - (at_ - 51000))))), rfl, rfl⟩, by decide⟩

theorem witness_EdgeDistance :
    (backing.amu.channel .B).healthOpen = false ∧
    (∀ e, (backing.amu.channel .B).lastEdge = some e → e + 50 ≤ max backing.now at_) ∧ backing.amu.b.cls ≠ .fault ∧
    backing.drc.reverser = .neutral ∧ backing.amu.direction = .reverse ∧
    ((fourth 300 0).amu.channel .B).healthOpen = false ∧
    (∀ e, ((fourth 300 0).amu.channel .B).lastEdge = some e → e + 50 ≤ max (fourth 300 0).now at_) ∧
    (fourth 300 0).drc.reverser = .forward ∧
    (opened.amu.channel .B).healthOpen = false ∧ (∀ e, (opened.amu.channel .B).lastEdge = some e → e + 50 ≤ max opened.now at_) :=
  ⟨rfl, by rintro e ⟨⟩; decide, by decide, rfl, rfl, rfl, by rintro e ⟨⟩; decide, rfl, rfl, by rintro e ⟨⟩⟩

/-- The limits themselves: 1000 ms, 3000 ms, one microsecond before each. -/
theorem witness_AxleEvents :
    (∃ st, ((running 5 5).amu.channel .A).noEdge = some st ∧ st + 1000000 ≤ max (running 5 5).now (at_ + 999000)) ∧
    (∀ st, ((running 5 5).amu.channel .A).noEdge = some st → max (running 5 5).now (at_ + 998999) < st + 1000000) ∧
    ((running 5 5).amu.channel .A).healthOpen = false ∧ ((running 5 5).amu.channel .A).cls ≠ .fault ∧
    HasRoom .axleFault 0 (running 5 5) ∧
    ((fourth 300 0).amu.channel .A).healthOpen = false ∧ ((fourth 300 0).amu.channel .A).cls = .fault ∧
    (opened.amu.channel .A).healthOpen = true ∧ (opened.amu.channel .A).cls = .fault ∧
    (opened.amu.channel .A).plausCause = false ∧
    (∃ st, (silent.amu.channel .B).plausTimer = some st ∧ st + 3000000 ≤ max silent.now at_) ∧
    (silent.amu.channel .B).cls ≠ .fault ∧ HasRoom .axleFault (axleIndex .B) silent ∧
    (∀ st, ({ silent with now := at_ - 1 }.amu.channel .B).plausTimer = some st →
      max { silent with now := at_ - 1 }.now (at_ - 1) < st + 3000000) :=
  ⟨⟨_, rfl, by decide⟩, by rintro st ⟨⟩; decide, rfl, by decide, .inl (by decide), rfl, rfl, rfl, rfl, rfl,
    ⟨_, rfl, by decide⟩, by decide, .inl (by decide), by rintro st ⟨⟩; decide⟩

/-- A HOLD that is ACTIVE; and entries of which none is an ACTIVE HOLD. -/
theorem witness_EffectiveCeiling :
    (∃ e ∈ [Entry.mk .ceiling 300 0 none none .active, ⟨.hold, 0, 0, none, none, .active⟩],
      e.phase = .active ∧ e.kind = .hold) ∧
    (∀ e ∈ [Entry.mk .ceiling 300 0 none none .active, ⟨.hold, 0, 0, some 1, none, .armed⟩,
      ⟨.inhibit, 0, 0, none, none, .active⟩], e.phase = .active → e.kind ≠ .hold) := by decide

/-- The same post; one that changes the ceiling alone; one of another kind over a u above 0; lifts of an empty and of an
occupied slot. -/
theorem witness_InternalPosts :
    (∃ old, approach.drc.table.get .route = some old ∧ old.kind = .ceiling ∧ old.ceiling = 346 ∧ old.reason = 0xE1) ∧
    (∀ old, approach.drc.table.get .route = some old → ¬(old.kind = .ceiling ∧ old.ceiling = 345 ∧ old.reason = 0xE1)) ∧
    (true = true ↔ ∃ old, approach.drc.table.get .route = some old ∧ old.kind = .ceiling ∧ old.reason = 0xE1) ∧
    (∀ old, approach.drc.table.get .route = some old → ¬(old.kind = .hold ∧ old.ceiling = 0 ∧ old.reason = 0xE1)) ∧
    (false = true ↔ ∃ old, approach.drc.table.get .route = some old ∧ old.kind = .hold ∧ old.reason = 0xE1) ∧
    0 < approach.drc.u ∧ approach.drc.table.get .doors = none ∧
    (∃ e, approach.drc.table.get .route = some e) ∧
    2000 = effectiveCeiling approach.params.vehicleMax.toNat (approach.drc.table.set .route none).entries :=
  ⟨⟨_, rfl, rfl, rfl, rfl⟩, of_all (by decide +kernel), ⟨fun _ => ⟨_, rfl, rfl, rfl⟩, fun _ => rfl⟩,
    of_all (by decide +kernel), ⟨nofun, fun ⟨_, h, hk, _⟩ => by cases h; cases hk⟩, by decide, rfl, ⟨_, rfl⟩,
    by decide +kernel⟩

/-- The link ids 0 and 7, the kinds 0 and 4, the ceiling 3001, a distance of 0; an accepted CEILING of 3000 ahead of the tram
for link id 6, an accepted HOLD where the tram is for the occupied link id 2, over a u above 0; each kind of lift. -/
theorem witness_RestrictCommands :
    LinkReady (State.drive posted300 fun d => { d with u := 12, buffer := 12 }) ∧
    ((0 : Byte).toNat < 1 ∧ 6 < (7 : Byte).toNat ∧ 3 < (4 : Byte).toNat ∧ 3000 < (3001 : Half).toNat ∧
      distance 5000 5000 ≤ 0) ∧
    ((6 : Byte).toNat = (5 : Fin 6).val + 1 ∧ (1 : Byte).toNat = 1 ∧ (3000 : Half).toNat ≤ 3000 ∧
      0 < distance 5000 5001 ∧ 0 < distance posted300.amu.trackMm 5000 ∧
      300 = effectiveCeiling posted300.params.vehicleMax.toNat
        (posted300.drc.table.set (.link 5) (some ⟨.ceiling, 3000, 1, some 5000, some 5001, .armed⟩)).entries) ∧
    ((2 : Byte).toNat = (1 : Fin 6).val + 1 ∧ (3 : Byte).toNat = 3 ∧ ¬ 0 < distance posted300.amu.trackMm 0 ∧
      0 = effectiveCeiling posted300.params.vehicleMax.toNat
        (posted300.drc.table.set (.link 1) (some ⟨.hold, 0, 1, some 0, none, .active⟩)).entries) ∧
    (3 < (4 : Byte).toNat ∧ (2 : Byte).toNat ≤ 2 ∧ (3 : Byte).toNat = 3 ∧ posted300.drc.table.get (.link 0) = none ∧
      ∃ e, posted300.drc.table.get (.link 1) = some e) :=
  ⟨⟨rfl, rfl⟩, by decide +kernel, by decide +kernel, by decide +kernel, by decide, by decide, by decide, rfl, _, rfl⟩

theorem witness_HandleCapture :
    max demo.now at_ = at_ ∧ demo.drc.cycleStart = none ∧
    (State.drive demo fun d => { d with cycleStart := some (at_ - 1000) }).drc.cycleStart = some (at_ - 1000) ∧
    (State.drive demo fun d => { d with cycleStart := some (at_ - 1000) }).drc.cycleWidth = none ∧
    (State.drive demo fun d => { d with cycleStart := some (at_ - 1000), cycleWidth := some 1 }).drc.cycleWidth ≠ none :=
  ⟨rfl, rfl, rfl, rfl, by decide⟩

/-- A cycle and its age in µs as the handle's latest. -/
def handled (w p age : Nat) : State := State.drive demo fun d => { d with lastCycle := some ⟨w, p, at_ - age⟩ }

/-- Cycles at the limits: 10 000 µs old, periods 800 and 1200, duties 50 and 950; and just beyond each. -/
theorem witness_IntervalHandle :
    (∀ x ∈ [(500, 1000, 10000), (40, 800, 0), (1140, 1200, 0)],
      (false = true ↔ ∀ c, (handled x.1 x.2.1 x.2.2).drc.lastCycle = some c →
        c.doneAt + 10000 < at_ ∨ c.period < 800 ∨ 1200 < c.period ∨ c.width * 1000 / c.period < 50 ∨
          950 < c.width * 1000 / c.period)) ∧
    (∀ x ∈ [(500, 1000, 10001), (400, 799, 0), (600, 1201, 0), (49, 1000, 0), (951, 1000, 0)],
      (true = true ↔ ∀ c, (handled x.1 x.2.1 x.2.2).drc.lastCycle = some c →
        c.doneAt + 10000 < at_ ∨ c.period < 800 ∨ 1200 < c.period ∨ c.width * 1000 / c.period < 50 ∨
          950 < c.width * 1000 / c.period)) ∧
    (∀ c, (handled 1140 1200 0).drc.lastCycle = some c → 950 = c.width * 1000 / c.period) ∧
    (100 : Int) = (min 900 (max 100 ((950 : Nat) : Int)) - 500).tdiv 4 ∧ demo.drc.intervalDue ≤ at_ ∧
    at_ - 1 < demo.drc.intervalDue :=
  ⟨fun x hx => ⟨nofun, fun h => absurd (h _ rfl) (by revert x; decide)⟩,
    fun x hx => ⟨fun _ c h => by cases h; revert x; decide, fun _ => rfl⟩, of_all (by decide), by decide, by decide, by decide⟩

/-- A slip (Table 3-8, interval 1), a slide, a condition at its tenth quiet interval, and relaxing caps at their ends. -/
def sliding : State := slipping 560 640 fun d => { d with u := -45, buffer := -45 }
def quietNine : State := slipping 584 580 fun d =>
  { d with adhesion := .slip, quiet := 9, tcap := some 30, u := 30, buffer := 30, sand := true }
def relaxing : State := slipping 612 609 fun d => { d with tcap := some 99, bcap := some (-99), runOn := 1, sand := true }

theorem witness_IntervalAdhesion :
    ((slipping 640 560 id).drc.intervalDue ≤ at_ ∧ (slipping 640 560 id).drc.adhesion = .none ∧
      reference 45 (slipping 640 560 id).amu.a (slipping 640 560 id).amu.b = (.good, 560) ∧
      44 = max demoParams.slipMin.toNat (560 * demoParams.slipPermille.toNat / 1000) ∧
      80 = axleDifference (slipping 640 560 id).amu.a (slipping 640 560 id).amu.b ∧ 44 < 80) ∧
    (sliding.drc.driveState = .ready ∧ sliding.drc.u < 0 ∧
      reference (-45) sliding.amu.a sliding.amu.b = (.good, 640) ∧
      51 = max demoParams.slipMin.toNat (640 * demoParams.slipPermille.toNat / 1000) ∧
      80 = axleDifference sliding.amu.a sliding.amu.b ∧ 51 < 80) ∧
    (quietNine.drc.adhesion ≠ .none ∧ quietNine.drc.tcap = some 30 ∧
      reference 30 quietNine.amu.a quietNine.amu.b = (.good, 580) ∧
      46 = max demoParams.slipMin.toNat (580 * demoParams.slipPermille.toNat / 1000) ∧
      4 = axleDifference quietNine.amu.a quietNine.amu.b ∧ 4 ≤ 46 / 2 ∧ 10 ≤ quietNine.drc.quiet + 1) ∧
    (relaxing.drc.adhesion = .none ∧
      none = relaxing.drc.tcap.bind (fun c => if 100 ≤ c + 1 then none else some (c + 1)) ∧
      none = relaxing.drc.bcap.bind (fun c => if c - 1 ≤ -100 then none else some (c - 1)) ∧
      0 = relaxing.drc.runOn - 1 ∧ false = if relaxing.drc.runOn = 0 then relaxing.drc.sand else decide (1 < relaxing.drc.runOn)) := by
  decide +kernel

/-- Each judgement of the axles, an entry that starts at this interval and one that ends at it. -/
def crossing : State := State.drive { running 400 400 with amu := { (running 400 400).amu with track := 64 * 5000 } } fun d =>
  { d with table := (d.table.set (.link 0) (some ⟨.hold, 0, 1, some 5000, none, .armed⟩)).set (.link 5)
            (some ⟨.ceiling, 300, 1, none, some 5000, .active⟩), u := 12, buffer := 12 }

theorem witness_IntervalCeilings :
    crossing.drc.intervalDue ≤ max crossing.now at_ ∧
    (crossing.amu.a.cls ≠ .fault ∧ crossing.amu.b.cls ≠ .fault) ∧
    ((silent.amu.setChannel .B { silent.amu.b with cls := .fault }).a.cls ≠ .fault ∧
      (silent.amu.setChannel .B { silent.amu.b with cls := .fault }).b.cls = .fault) ∧
    (opened.amu.a.cls = .fault ∧ opened.amu.b.cls ≠ .fault) ∧ crossing.drc.table.get (.link 1) = none ∧
    (∃ e, crossing.drc.table.get (.link 0) = some e ∧ e.starts crossing.amu.trackMm = true) ∧
    (∃ e, crossing.drc.table.get (.link 5) = some e ∧ e.starts crossing.amu.trackMm = false ∧
      e.ends crossing.amu.trackMm = true) :=
  ⟨by decide, by decide, by decide, by decide, rfl, ⟨_, rfl, by decide +kernel⟩, ⟨_, rfl, by decide +kernel, by decide +kernel⟩⟩

/-- A tram at a reference speed under a supervised ceiling of 300. -/
def bandAt (v : Nat) : State := State.drive (running v v) fun d => { d with
  table := { d.table with route := some ⟨.ceiling, 300, 0xE1, none, none, .active⟩ }, vCeil := 300, vSup := 300 }

/-- Margins of 0, 1, 100, 101, 250 and 251, in READY; and a drive that is not READY. -/
theorem witness_IntervalBand :
    ([300, 301, 400, 401, 550, 551].map fun v => left (.controlInterval at_) (bandAt v) fun s =>
      (s.drc.ref : Int) - s.drc.vSup) = [some 0, some 1, some 100, some 101, some 250, some 251] ∧
    (bandAt 300).drc.intervalDue ≤ max (bandAt 300).now at_ ∧ (bandAt 300).drc.driveState = .ready ∧
    ((bandAt 300).drc.warnDrive = true ↔ (bandAt 300).drc.band ≠ .normal) ∧ (bandAt 551).clp.faults.length < 30 ∧
    tripped.drc.driveState ≠ .ready ∧ (tripped.drc.warnDrive = true ↔ tripped.drc.band ≠ .normal) := by decide +kernel

/-- A demand that an activated entry sets to 0, and one that nothing changes. -/
theorem witness_IntervalDemand :
    crossing.drc.intervalDue ≤ max crossing.now at_ ∧
    reference crossing.drc.u crossing.amu.a crossing.amu.b = (.good, 400) ∧
    32 = max crossing.params.slipMin.toNat (400 * crossing.params.slipPermille.toNat / 1000) ∧
    0 = axleDifference crossing.amu.a crossing.amu.b ∧ crossing.drc.u = 12 ∧
    (true = true ↔ 0 < (12 : Int) ∧ ∃ i : Fin 6, ∃ e, crossing.drc.table.get (.link i) = some e ∧ e.kind ≠ .ceiling ∧
      e.starts crossing.amu.trackMm = true) ∧
    reference approach.drc.u approach.amu.a approach.amu.b = (.good, 380) ∧
    (false = true ↔ 0 < (12 : Int) ∧ ∃ i : Fin 6, ∃ e, approach.drc.table.get (.link i) = some e ∧ e.kind ≠ .ceiling ∧
      e.starts approach.amu.trackMm = true) ∧
    (left (.controlInterval at_) approach fun s => (s.drc.driveState, s.drc.inhibited, s.drc.band)) =
      some (.ready, false, .warn) :=
  ⟨by decide, by decide +kernel, by decide +kernel, by decide +kernel, rfl,
    ⟨fun _ => ⟨by decide, 0, _, rfl, by decide, by decide +kernel⟩, fun _ => rfl⟩, by decide +kernel,
    ⟨nofun, fun ⟨_, i, e, h, _⟩ => by
      rw [(by decide +kernel : ∀ i : Fin 6, approach.drc.table.get (.link i) = none) i] at h; cases h⟩,
    by decide +kernel⟩

/-- The ramp of Table 3-7, a brake that comes off, and a demand at its target. -/
theorem witness_RampStep :
    ((0 : Int) = (if (12 : Int) ≠ 0 ∧ (-5 : Int).sign ≠ (12 : Int).sign then 0 else -5) ∧
      (5 : Int) = (if (12 : Int) < 0 then (if (0 : Int) ≤ 12 then (demoParams.tractionRise.toNat : Int)
        else demoParams.brakeFall.toNat) else if (0 : Int) < 12 then (demoParams.tractionFall.toNat : Int)
        else demoParams.brakeRise.toNat)) ∧
    ((0 : Int) = (if (-100 : Int) ≠ 0 ∧ (0 : Int).sign ≠ (-100 : Int).sign then 0 else 0) ∧
      (3 : Int) = (if (-100 : Int) < 0 then (if (0 : Int) ≤ -100 then (demoParams.tractionRise.toNat : Int)
        else demoParams.brakeFall.toNat) else if (0 : Int) < -100 then (demoParams.tractionFall.toNat : Int)
        else demoParams.brakeRise.toNat)) ∧
    (30 : Int) = (if (30 : Int) ≠ 0 ∧ (30 : Int).sign ≠ (30 : Int).sign then 0 else 30) := by decide +kernel

/-- The fiftieth interval, the one before it, and an interval at which the procedure does not hold. -/
theorem witness_ResetProcedure :
    tripped.drc.driveState = .tripped ∧ tripped.drc.intervalDue ≤ max tripped.now at_ ∧
    50 = min 250 (tripped.drc.resetCount + 1) ∧ ¬(tripped.amu.a.cls = .fault ∧ tripped.amu.b.cls = .fault) ∧
    (left (.controlInterval at_) tripped fun s => (s.drc.handleFault, s.drc.h)) = some (false, -100) ∧
    tripped.drc.detent = false ∧ tripped.drc.deadman = true ∧ tripped.amu.atStandstill = true ∧
    49 = min 250 ((State.drive tripped fun d => { d with resetCount := 48 }).drc.resetCount + 1) ∧
    (State.drive tripped fun d => { d with deadman := false }).drc.deadman = false := by decide +kernel

/-- A condition at its tenth quiet interval, at its ninth, and apart; caps and a run-on at their ends, with a detection and
without one; an interval that is not due. -/
theorem witness_IntervalParts :
    (quietNine.drc.intervalDue ≤ max quietNine.now at_ ∧ quietNine.drc.adhesion ≠ .none ∧
      reference quietNine.drc.u quietNine.amu.a quietNine.amu.b = (.good, 580) ∧
      46 = max quietNine.params.slipMin.toNat (580 * quietNine.params.slipPermille.toNat / 1000) ∧
      4 = axleDifference quietNine.amu.a quietNine.amu.b ∧ 4 ≤ 46 / 2 ∧ 10 ≤ quietNine.drc.quiet + 1) ∧
    (relaxing.drc.intervalDue ≤ max relaxing.now at_ ∧ relaxing.drc.adhesion = .none ∧
      reference relaxing.drc.u relaxing.amu.a relaxing.amu.b = (.good, 609) ∧
      48 = max relaxing.params.slipMin.toNat (609 * relaxing.params.slipPermille.toNat / 1000) ∧
      3 = axleDifference relaxing.amu.a relaxing.amu.b ∧ relaxing.drc.tcap = some 99 ∧ relaxing.drc.bcap = some (-99) ∧
      relaxing.drc.runOn = 1) ∧
    (false = true ↔ RefClass.good = .good ∧ 0 < relaxing.drc.u ∧ 48 < 3) ∧
    (false = true ↔ relaxing.drc.driveState = .ready ∧ RefClass.good = .good ∧ relaxing.drc.u < 0 ∧ 48 < 3) ∧
    ((slipping 640 560 id).drc.adhesion = .none ∧ (true = true ↔ RefClass.good = .good ∧ 0 < (slipping 640 560 id).drc.u ∧ 44 < 80)) ∧
    (sliding.drc.driveState = .ready ∧ sliding.drc.u < 0) ∧
    (State.drive quietNine fun d => { d with quiet := 8 }).drc.quiet + 1 < 10 ∧ 46 / 2 < 24 ∧
    max relaxing.now at_ < (State.drive relaxing fun d => { d with intervalDue := at_ + 1 }).drc.intervalDue ∧
    (∀ c, approach.drc.tcap = some c → c + 1 < 100) ∧ (∀ c, approach.drc.bcap = some c → -100 < c - 1) ∧
    approach.drc.runOn ≠ 1 :=
  ⟨by decide +kernel, by decide +kernel, by decide +kernel, by decide +kernel, by decide +kernel, by decide +kernel,
    by decide +kernel, by decide +kernel, by decide +kernel, of_all (by decide +kernel), of_all (by decide +kernel), by decide⟩

theorem witness_TripTaken :
    (demo.drc.driveState = .ready ∧ demo.drc.detent = false) ∧ (tripped.drc.driveState = .tripped ∧ tripped.drc.detent = false) ∧
    fresh.drc.driveState = .unconfigured ∧ TimersSound fresh :=
  ⟨by decide, by decide, rfl, fun ax => by cases ax <;> decide +kernel, by decide +kernel, by decide +kernel,
    by decide +kernel, by decide +kernel, by decide +kernel, by decide +kernel⟩

/-- Changes to each position, at standstill and moving; a change that has stood for 9 ms. -/
theorem witness_ReverserChange :
    demo.drc.reverser ≠ .neutral ∧ demo.drc.reverser ≠ .reverse ∧ backing.drc.reverser ≠ .forward ∧
    demo.amu.standstill = .standstill ∧ backing.amu.standstill ≠ .standstill ∧ backing.drc.driveState = .ready ∧
    tripped.drc.driveState ≠ .unconfigured ∧ backing.clp.faults.length < 31 ∧ 9 < 10 ∧ 10 ≤ 10 := by decide +kernel

theorem witness_Vigilance :
    ((drowsy 1500).drc.vigilance = some (at_ - 1500000) ∧ at_ - 1500000 + 1500000 ≤ max (drowsy 1500).now at_ ∧
      (drowsy 1500).drc.warnVigilance = false) ∧
    (∀ st, (drowsy 1499).drc.vigilance = some st → max (drowsy 1499).now at_ < st + 1500000) ∧
    ((drowsy 2500).drc.vigilance = some (at_ - 2500000) ∧ at_ - 2500000 + 2500000 ≤ max (drowsy 2500).now at_ ∧
      (drowsy 2500).drc.driveState = .ready ∧ (drowsy 2500).clp.faults.length < 31) ∧
    (∀ st, (drowsy 2499).drc.vigilance = some st → max (drowsy 2499).now at_ < st + 2500000) :=
  ⟨by decide, of_all (by decide), by decide, of_all (by decide)⟩

theorem witness_DemandPeriod :
    demo.drc.periodDue ≤ max demo.now at_ ∧ demo.drc.driveState ≠ .unconfigured ∧ -100 ≤ tripped.drc.buffer ∧
    fresh.drc.driveState = .unconfigured ∧ ({ fresh with now := 1999 } : State).drc.periodDue = 2000 ∧ max 1999 1999 < 2000 := by
  decide

theorem witness_DriveStateMoves :
    (∀ t i, Instr.configure 940000 7 demoParams ≠ .powerOn t i) ∧ (∃ s', exec (.configure 940000 7 demoParams) fresh = .next s') ∧
    fresh.drc.driveState = .unconfigured ∧
    (left (.configure 940000 7 demoParams) fresh fun s => s.drc.driveState) = some .tripped ∧
    (∀ t i, Instr.controlInterval at_ ≠ .powerOn t i) ∧ (∃ s', exec (.controlInterval at_) tripped = .next s') ∧
    tripped.drc.driveState ≠ .ready ∧ (left (.controlInterval at_) tripped fun s => s.drc.driveState) = some .ready :=
  ⟨nofun, ⟨_, rfl⟩, rfl, by decide +kernel, nofun, ⟨_, rfl⟩, by decide, by decide +kernel⟩

/-- The ten checks of the statement, for a JUNCTION_LOAD. -/
def loadChecks (p : JunctionLoad) : List Bool :=
  let n := p.setCount.toNat
  [ decide (p.id.toNat < 1 ∨ 4095 < p.id.toNat), decide (n < 1 ∨ 4 < n),
    [p.reqLeft, p.reqStraight, p.reqRight].any (fun b => (List.range n).any fun i => b.toNat / 4 ^ i % 4 = 3),
    (p.present.getLsbD 0 && (List.range n).all fun i => p.reqLeft.toNat / 4 ^ i % 4 = 0) ||
      (p.present.getLsbD 1 && (List.range n).all fun i => p.reqStraight.toNat / 4 ^ i % 4 = 0) ||
      (p.present.getLsbD 2 && (List.range n).all fun i => p.reqRight.toNat / 4 ^ i % 4 = 0),
    !((p.dflt.toNat = 0 && p.present.getLsbD 0) || (p.dflt.toNat = 1 && p.present.getLsbD 1) ||
      (p.dflt.toNat = 2 && p.present.getLsbD 2)),
    decide (p.loopToPoint.toNat < 5000 ∨ 80000 < p.loopToPoint.toNat),
    decide (p.clearing.toNat < 3000 ∨ 60000 < p.clearing.toNat),
    decide (p.stopMargin.toNat < 2000 ∨ 10000 < p.stopMargin.toNat ∨ p.loopToPoint.toNat ≤ p.stopMargin.toNat),
    decide (p.approachCeil.toNat < 100 ∨ 800 < p.approachCeil.toNat),
    decide (p.passingCeil.toNat < 100 ∨ 800 < p.passingCeil.toNat) ]

def fullTable : State := { demo with rtm := { demo.rtm with
  junctions := (List.range 64).map fun i => { j318 with id := BitVec.ofNat 16 (1000 + i) } } }

/-- A load that each check refuses at a limit, one that none refuses, and the head and table that decide the rest. -/
theorem witness_JunctionLoadChecked :
    ([{ load318 with id := 0 }, { load318 with setCount := 5 }, { load318 with reqLeft := 3 }, { load318 with reqRight := 0 },
      { load318 with dflt := 0 }, { load318 with loopToPoint := 4999 }, { load318 with clearing := 60001 },
      { load318 with stopMargin := 1999 }, { load318 with approachCeil := 99 }, { load318 with passingCeil := 801 }].map
        fun p => (loadChecks p).findIdx? id) = (List.range 10).map some ∧
    (loadChecks load318).findIdx? id = none ∧ LinkReady demo ∧ LinkReady (in318 .sending none 0 0) ∧
    (∃ h ∈ (in318 .sending none 0 0).rtm.plan.head?, h.id = load318.id ∧ h.state ≠ .waiting) ∧
    (∀ h ∈ before318.rtm.plan.head?, h.id = load318.id → h.state = .waiting) ∧ before318.rtm.record load318.id ≠ none ∧
    LinkReady fullTable ∧ fullTable.rtm.record load318.id = none ∧ 64 ≤ fullTable.rtm.junctions.length ∧
    demo.rtm.junctions.length < 64 :=
  ⟨by decide +kernel, by decide +kernel, ⟨rfl, rfl⟩, ⟨rfl, rfl⟩, ⟨_, rfl, by decide +kernel⟩, by decide +kernel,
    by decide +kernel, ⟨rfl, rfl⟩, by decide +kernel, by decide +kernel, by decide⟩

def fullPlan : State := { before318 with rtm := { before318.rtm with
  plan := List.replicate 16 ⟨241, .straight, .plan, .waiting⟩ } }

/-- Ids 0 and 4096, a head in use, an id that is not LOADED, selection 3, a selection the record lacks, a plan of 16. -/
theorem witness_RouteCommands :
    LinkReady before318 ∧ LinkReady (in318 .sending none 0 0) ∧ LinkReady fullPlan ∧
    ((0 : Half).toNat < 1 ∧ 4095 < (4096 : Half).toNat ∧ 2 < (3 : Byte).toNat ∧ (0 : Byte).toNat = 0) ∧
    (true = true ↔ ∃ h ∈ (in318 .sending none 0 0).rtm.plan.head?, h.id = 318 ∧ h.state ≠ .waiting) ∧
    (false = true ↔ ∃ h ∈ before318.rtm.plan.head?, h.id = 318 ∧ h.state ≠ .waiting) ∧
    before318.rtm.record 241 = none ∧ before318.rtm.record 318 ≠ none ∧
    (∃ j, before318.rtm.record 318 = some j ∧ j.route .left = none) ∧
    (∀ j, before318.rtm.record 318 = some j → j.route .right ≠ none) ∧ before318.rtm.plan.length < 16 ∧
    16 ≤ fullPlan.rtm.plan.length ∧ ∀ j, fullPlan.rtm.record 241 = some j → j.route .straight ≠ none :=
  ⟨⟨rfl, rfl⟩, ⟨rfl, rfl⟩, ⟨rfl, rfl⟩, by decide, ⟨fun _ => ⟨_, rfl, by decide +kernel⟩, fun _ => rfl⟩,
    ⟨nofun, fun ⟨h, hm, _, hs⟩ => by cases hm; exact absurd rfl hs⟩, by decide +kernel, by decide +kernel, ⟨_, rfl, rfl⟩,
    of_all (by decide +kernel), by decide, by decide +kernel, of_all (by decide +kernel)⟩

/-- A press after 39 ms, and of a button not released; a plan that is empty, a head in WAITING with and without the
selection, heads that refuse, and a failed head at standstill, in contact and out of it. -/
def failed : State := { in318 .refused none 0 2480000 with amu := demo.amu }

theorem witness_SelectorButtons :
    (39 < 40 ∧ ({ demo.rtm with armedLeft := false } : Rtm).armed .left = false) ∧
    (demo.rtm.armed .left = true ∧ demo.rtm.plan = []) ∧
    (before215.rtm.armed .left = true ∧ (∃ h ∈ before215.rtm.plan.head?, h.state = .waiting) ∧
      (∀ j, before215.rtm.record 215 = some j → j.route .left ≠ none) ∧
      ∃ j, before215.rtm.record 215 = some j ∧ j.route .right = none) ∧
    (∃ h ∈ (in318 .locked none 0 0).rtm.plan.head?,
      h.state ∈ [ExState.sending, .awaiting, .queued, .setting, .locked, .contactLost, .unknown]) ∧
    (∃ h ∈ (in318 .refused none 0 0).rtm.plan.head?, h.state ∈ [ExState.refused, .wrongLeg, .timedOut] ∧
      (in318 .refused none 0 0).amu.standstill ≠ .standstill) ∧
    ((∃ h ∈ failed.rtm.plan.head?, h.state ∈ [ExState.refused, .wrongLeg, .timedOut]) ∧
      (∃ c, failed.rtm.context = some c ∧ ∃ pc, c.paging = some pc) ∧ failed.amu.standstill = .standstill ∧
      (∃ j, failed.rtm.record 318 = some j ∧ j.route .straight ≠ none) ∧ failed.lpt.contact = some 318 ∧
      ({ failed with lpt := demo.lpt } : State).lpt.contact ≠ some 318) :=
  ⟨by decide, by decide, ⟨rfl, ⟨_, rfl, rfl⟩, of_all (by decide +kernel), _, rfl, rfl⟩, ⟨_, rfl, by decide⟩,
    ⟨_, rfl, by decide, by decide⟩, ⟨_, rfl, by decide⟩, ⟨_, rfl, _, rfl⟩, by decide, ⟨_, rfl, by decide +kernel⟩, rfl,
    by decide +kernel⟩

/-- The beacons of Table 6-2 as the LPT reads them. -/
def freeBeacon : Beacon := ⟨318, [⟨none, false⟩, ⟨none, false⟩], 0, 0, .none, false, false⟩
def set0Beacon : Beacon := ⟨318, [⟨some .normal, true⟩, ⟨none, false⟩], 0, 1207, .accepted, true, false⟩
def set1Beacon : Beacon := ⟨318, [⟨some .normal, true⟩, ⟨some .reverse, true⟩], 0, 1207, .accepted, true, false⟩

theorem classify_beacons : classify beaconFree = .beacon freeBeacon ∧ classify beaconSet0 = .beacon set0Beacon ∧
    classify beaconSet1 = .beacon set1Beacon := by decide +kernel

/-- A head with the beacon's id, a head beyond WAITING with another, a plan of 16 without it, and UNCONFIGURED. -/
theorem witness_BeaconFindsHead :
    classify beaconFree = .beacon freeBeacon ∧ before318.drc.driveState ≠ .unconfigured ∧
    (∃ e ∈ before318.rtm.plan, e.id = freeBeacon.junction) ∧
    (∃ h ∈ (in318 .setting none 0 0).rtm.plan.head?, h.id ≠ 241 ∧ h.state ≠ .waiting) ∧
    (∀ e ∈ fullPlan.rtm.plan, e.id ≠ freeBeacon.junction) ∧ 16 ≤ fullPlan.rtm.plan.length ∧
    fullPlan.clp.faults.length < 30 ∧ fullPlan.rtm.record freeBeacon.junction = some j318 ∧
    Selection.straight = (fullPlan.rtm.pendingSel.elim j318.dflt fun p => if j318.route p = none then j318.dflt else p) ∧
    fresh.drc.driveState = .unconfigured ∧ fresh.rtm.record freeBeacon.junction = none :=
  ⟨classify_beacons.1, by decide, ⟨_, .head _, by decide⟩, ⟨_, rfl, by decide +kernel, by decide +kernel⟩,
    by decide +kernel, by decide +kernel, by decide, by decide +kernel, by decide +kernel, rfl, rfl⟩

/-- An interval one microsecond early; no context; a head at its passing distance of 57 000 mm, LOCKED and not; one mm
before it; an UNKNOWN head at its distance of 60 000 mm; the flash at 500 ms and before. -/
def unknownHead (track : Nat) : State := { in318 .unknown none 0 track with rtm := { (in318 .unknown none 0 track).rtm with
  context := some ⟨2480000, none, none, 0⟩, flashStart := some (at_ - 500000), junctions := [] } }

theorem witness_ApproachInterval :
    (max (at_ - 1) (at_ - 1) < demo.rtm.intervalDue ∧ demo.rtm.intervalDue ≤ max demo.now at_ ∧ demo.rtm.plan = [] ∧
      before318.rtm.context = none) ∧
    (∀ st ∈ [ExState.locked, .setting], (in318 st none 0 2537000).rtm.plan.head? = some ⟨318, .right, .plan, st⟩ ∧ st ≠ .waiting) ∧
    (57000 = distance 2480000 (in318 .locked none 0 2537000).amu.trackMm ∧ (57000 : Int) = j318.loopToPoint + j318.clearing ∧
      (in318 .locked none 0 2537000).rtm.record 318 = some j318 ∧
      56999 = distance 2480000 (in318 .locked none 0 2536999).amu.trackMm ∧
      (∀ e ∈ (in318 .locked none 0 2537000).rtm.plan.tail, e.state = .waiting) ∧
      HasRoom .junctionOverrun 0 (in318 .setting none 0 2537000)) ∧
    (60000 = distance 2480000 (unknownHead 2540000).amu.trackMm ∧ (60000 : Int) = (unknownHead 0).params.fallback.toNat ∧
      (unknownHead 0).rtm.flashStart = some (at_ - 500000) ∧ at_ - 500000 + 500000 ≤ max (unknownHead 0).now at_) ∧
    (∀ st, ({ unknownHead 0 with now := at_ - 1 } : State).rtm.flashStart = some st → max (at_ - 1) (at_ - 1) < st + 500000) :=
  ⟨by decide, fun st hs => ⟨rfl, by revert st; decide⟩,
    ⟨by decide +kernel, by decide, by decide +kernel, by decide +kernel, by decide +kernel, .inl (by decide)⟩,
    by decide +kernel, of_all (by decide)⟩

/-- With the record, and without it (the toggle memory holding 0, and nothing). -/
theorem witness_FirstContact :
    classify beaconFree = .beacon freeBeacon ∧ before318.drc.driveState ≠ .unconfigured ∧
    before318.rtm.plan.head? = some ⟨318, .right, .plan, .waiting⟩ ∧ (318 : Half) = freeBeacon.junction ∧
    true = (before318.lpt.toggleMemory.elim false fun m => !m) ∧ 0x0589 = freeBeacon.junction ^^^ before318.params.vehicle ∧
    before318.rtm.record 318 = some j318 ∧ j318.pageList .right = ⟨0, .normal, false⟩ :: [⟨1, .reverse, true⟩] ∧
    ({ before318 with rtm := { before318.rtm with junctions := [] } } : State).rtm.record 318 = none ∧
    HasRoom .junctionUnknown 0 { before318 with rtm := { before318.rtm with junctions := [] } } :=
  ⟨classify_beacons.1, by decide, rfl, rfl, rfl, by decide, by decide +kernel, by decide +kernel, rfl, .inl (by decide)⟩

/-- SENDING with page 0 held: due for a fresh chain, acknowledged, not acknowledged with five sends and with six. -/
def sending0 (fresh : Bool) (sends : Nat) : State := { in318 .sending none 0 2480000 with
  rtm := { (in318 .sending none 0 2480000).rtm with
    context := some ⟨2480000, some ⟨pages318, 0, true, sends, 0x0589, .none, 0⟩, none, 0⟩, freshDue := fresh }
  lpt := { (in318 .sending none 0 2480000).lpt with held := some { page0 with toggle := false }, toggleMemory := some false } }

theorem witness_SendingPages :
    classify beaconFree = .beacon freeBeacon ∧ classify beaconSet0 = .beacon set0Beacon ∧
    (∀ x ∈ [(true, 1), (false, 1), (false, 5), (false, 6)], (sending0 x.1 x.2).drc.driveState ≠ .unconfigured ∧
      (sending0 x.1 x.2).rtm.plan.head? = some ⟨318, .right, .plan, .sending⟩ ∧ (sending0 x.1 x.2).rtm.freshDue = x.1 ∧
      (∃ c, (sending0 x.1 x.2).rtm.context = some c ∧ c.paging = some ⟨pages318, 0, true, x.2, 0x0589, .none, 0⟩) ∧
      (sending0 x.1 x.2).lpt.held = some { page0 with toggle := false } ∧
      true = ((sending0 x.1 x.2).lpt.toggleMemory.elim false fun m => !m)) ∧
    (true = true ↔ set0Beacon.junction = page0.junction ∧ set0Beacon.addressee ≠ 0 ∧ set0Beacon.addressee = demoParams.vehicle ∧
      set0Beacon.ackValid = true ∧ set0Beacon.ackToggle = false) ∧
    (false = true ↔ freeBeacon.junction = page0.junction ∧ freeBeacon.addressee ≠ 0 ∧ freeBeacon.addressee = demoParams.vehicle ∧
      freeBeacon.ackValid = true ∧ freeBeacon.ackToggle = false) ∧
    pages318[0]? = some ⟨0, .normal, false⟩ ∧ pages318[0 + 1]? = some ⟨1, .reverse, true⟩ ∧
    HasRoom .junctionTimeout 0 (sending0 false 6) :=
  ⟨classify_beacons.1, classify_beacons.2.1, fun x _ => ⟨nofun, rfl, rfl, ⟨_, rfl, rfl⟩, rfl, rfl⟩,
    by decide +kernel, by decide +kernel, rfl, rfl, .inl (by decide)⟩

/-- Counters at 19 and 18 in AWAITING, at 159 and 158 in SETTING. -/
theorem witness_ExchangeTimeouts :
    classify beaconFree = .beacon freeBeacon ∧ freeBeacon.addressee = 0 ∧
    (∀ x ∈ [(ExState.awaiting, 19), (.awaiting, 18), (.setting, 159), (.setting, 158)],
      (in318 x.1 none x.2 0).drc.driveState ≠ .unconfigured ∧
      (in318 x.1 none x.2 0).rtm.plan.head? = some ⟨318, .right, .plan, x.1⟩ ∧
      (∃ c, (in318 x.1 none x.2 0).rtm.context = some c ∧ c.resume = none ∧
        c.paging = some ⟨pages318, 1, false, 2, 0x2E31, .none, x.2⟩) ∧ HasRoom .junctionTimeout 0 (in318 x.1 none x.2 0)) ∧
    20 ≤ 19 + 1 ∧ 18 + 1 < 20 ∧ 160 ≤ 159 + 1 ∧ 158 + 1 < 160 :=
  ⟨classify_beacons.1, rfl, fun x _ => ⟨nofun, rfl, ⟨_, rfl, rfl, rfl⟩, .inl (show 0 < 32 by decide)⟩, by decide⟩

/-- Every set in place; all locked with one out of place; one not locked; and an answer that refuses. -/
theorem witness_PointsLock :
    classify beaconSet1 = .beacon set1Beacon ∧ classify beaconSet0 = .beacon set0Beacon ∧
    (∀ st ∈ [ExState.setting, .locked], (in318 st none 8 2483400).drc.driveState ≠ .unconfigured ∧
      (in318 st none 8 2483400).rtm.plan.head? = some ⟨318, .right, .plan, st⟩ ∧
      (∃ c, (in318 st none 8 2483400).rtm.context = some c ∧ c.resume = none ∧
        c.paging = some ⟨pages318, 1, false, 2, 0x2E31, .none, 8⟩) ∧
      (in318 st none 8 2483400).rtm.record 318 = some j318 ∧ HasRoom .junctionWrongLeg 0 (in318 st none 8 2483400)) ∧
    set1Beacon.addressee ≠ 0 ∧ set1Beacon.addressee = demoParams.vehicle ∧
    (∀ p ∈ pages318, ∃ v, set1Beacon.sets[p.set]? = some v ∧ v.locked = true ∧ v.pos = some p.pos) ∧
    (∀ p ∈ [Page.mk 0 .reverse false], ∃ v, set1Beacon.sets[p.set]? = some v ∧ v.locked = true) ∧
    (¬ ∀ p ∈ pages318, ∃ v, set0Beacon.sets[p.set]? = some v ∧ v.locked = true) ∧
    set1Beacon.answer ∉ [Answer.refusedBlocked, .refusedLocal, .refusedFault] ∧
    Answer.refusedFault ∈ [Answer.refusedBlocked, .refusedLocal, .refusedFault] := by
  refine ⟨classify_beacons.2.2, classify_beacons.2.1, fun st _ => ⟨nofun, rfl, ⟨_, rfl, rfl, rfl⟩, rfl, .inl (show 0 < 32 by decide)⟩,
    by decide, by decide, ?_, ?_, fun h => ?_, by decide, by decide⟩
  · intro p hp
    simp only [pages318, List.mem_cons, List.not_mem_nil, or_false] at hp
    rcases hp with rfl | rfl <;> exact ⟨_, rfl, rfl, rfl⟩
  · intro p hp
    simp only [List.mem_cons, List.not_mem_nil, or_false] at hp
    subst hp; exact ⟨_, rfl, rfl⟩
  · obtain ⟨v, hv, hl⟩ := h ⟨1, .reverse, true⟩ (by decide)
    cases hv; cases hl

/-- The contact timer at 300 ms and one microsecond short of it; the eighth bad beacon of a contact, a bad beacon out of
contact; another vehicle's request. -/
def eighth : State := { in318 .sending none 0 0 with lpt := { (in318 .sending none 0 0).lpt with badCount := 7 } }

theorem witness_ContactAndBadBeacons :
    ((in318 .sending none 0 0).lpt.contactTimer = some (at_ - 50000) ∧ at_ - 50000 + 300000 ≤ max at_ (at_ + 250000) ∧
      (in318 .sending none 0 0).lpt.contact = some 318) ∧
    (∃ h ∈ (in318 .sending none 0 0).rtm.plan.head?, h.id = 318 ∧ h.state ∈ [ExState.sending, .awaiting, .queued, .setting]) ∧
    (∀ h ∈ (in318 .locked none 0 0).rtm.plan.head?, h.id = 318 → h.state ∉ [ExState.sending, .awaiting, .queued, .setting]) ∧
    (∀ st, (in318 .sending none 0 0).lpt.contactTimer = some st → max at_ (at_ + 249999) < st + 300000) ∧
    classify (beaconFree.set 14 0) = .bad ∧
    (eighth.lpt.contact ≠ none ∧ eighth.lpt.badCount = 7 ∧ eighth.lpt.checkFault = false ∧ HasRoom .loopCheck 0 eighth) ∧
    before318.lpt.contact = none ∧ [(0xA5 : Byte), 1, 2].head? = some 0xA5 :=
  ⟨by decide, ⟨_, rfl, by decide +kernel⟩, by decide +kernel, of_all (by decide), by decide +kernel,
    ⟨by decide +kernel, rfl, rfl, .inl (by decide)⟩, rfl, rfl⟩

/-- A page with a right check, of a junction, a set count, a controller state, an answer and the byte of its sets. -/
def beaconPage : Nat × Nat × Nat × Nat × Nat → List Byte
  | (junction, count, controller, answer, sets) =>
    let body : List Byte := 0x5A :: (halfBytes (BitVec.ofNat 16 junction) ++ [BitVec.ofNat 8 count, BitVec.ofNat 8 controller,
      BitVec.ofNat 8 sets, BitVec.ofNat 8 sets, BitVec.ofNat 8 sets, BitVec.ofNat 8 sets, 0, 0, BitVec.ofNat 8 answer, 0])
    body ++ halfBytes (crc 0xFFFF body)
def pagesInRange : List (Nat × Nat × Nat × Nat × Nat) := [(1, 1, 0, 0, 0), (4095, 4, 4, 5, 2), (1, 1, 0, 0, 6)]
def pagesOutOfRange : List (Nat × Nat × Nat × Nat × Nat) :=
  [(0, 1, 0, 0, 0), (4096, 1, 0, 0, 0), (1, 0, 0, 0, 0), (1, 5, 0, 0, 0), (1, 1, 5, 0, 0), (1, 1, 0, 6, 0), (1, 1, 0, 0, 3)]

/-- A beacon of one set for junction 1, and one of four for junction 4095; pages at each limit of a field and past it; a page
that breaks off. -/
theorem witness_BeaconRoundTrip :
    (∀ b ∈ [Beacon.mk 1 [⟨none, false⟩] 0 0 .none false false, ⟨4095, List.replicate 4 ⟨some .reverse, true⟩, 4, 0xFFFF,
      .refusedFault, true, true⟩], 1 ≤ b.junction.toNat ∧ b.junction.toNat ≤ 4095 ∧ 1 ≤ b.sets.length ∧
      b.sets.length ≤ 4 ∧ b.controller ≤ 4) ∧
    (∀ g ∈ pagesInRange, 1 ≤ g.1 ∧ g.1 ≤ 4095 ∧ 1 ≤ g.2.1 ∧ g.2.1 ≤ 4 ∧ g.2.2.1 ≤ 4 ∧ g.2.2.2.1 ≤ 5 ∧ g.2.2.2.2 % 4 ≠ 3 ∧
      classify (beaconPage g) ≠ .bad) ∧
    (∀ g ∈ pagesOutOfRange, ¬(1 ≤ g.1 ∧ g.1 ≤ 4095 ∧ 1 ≤ g.2.1 ∧ g.2.1 ≤ 4 ∧ g.2.2.1 ≤ 4 ∧ g.2.2.2.1 ≤ 5 ∧ g.2.2.2.2 % 4 ≠ 3) ∧
      classify (beaconPage g) = .bad) ∧
    (beaconFree.take 14).head? ≠ some 0xA5 ∧ (beaconFree.take 14).length < 15 :=
  ⟨by decide +kernel, by decide +kernel, by decide +kernel, by decide +kernel, by decide +kernel⟩

/-- Raw changes that differ and return; each timer at its limit and one microsecond before it; a release of a stuck button,
a press of a button that is not mapped. -/
def settling (i : Fin 16) (raw level stuck : Bool) (age : Nat) : State := withButton i
  { Conditioner.initial with raw := raw, level := level, stuck := stuck, settle := some (at_ - age) } demo
def holding (age : Nat) : State := withButton 3
  { Conditioner.initial with raw := true, level := true, hold := some (at_ - age) } { demo with now := at_ }

theorem witness_ButtonTimers :
    (max demo.now at_ = at_ ∧ true ≠ demo.sdu.buttons[(3 : Fin 16)].raw) ∧
    (true = true ↔ 64 ≤ (demo.params.buttonMap[(3 : Fin 16)]).toNat) ∧
    (false = true ↔ 64 ≤ (demo.params.buttonMap[(1 : Fin 16)]).toNat) ∧
    ((settling 3 false true true 40000).sdu.buttons[(3 : Fin 16)] =
      { Conditioner.initial with level := true, stuck := true, settle := some (at_ - 40000) } ∧
      at_ - 40000 + 40000 ≤ at_ ∧ at_ < at_ - 39999 + 40000) ∧
    ((settling 1 true false false 40000).sdu.buttons[(1 : Fin 16)].raw = true ∧
      (settling 1 true false false 40000).sdu.buttons[(1 : Fin 16)].level = false) ∧
    ({ holding 0 with sdu := (holding 0).sdu }.sdu.buttons[(3 : Fin 16)].hold = some at_ ∧ at_ + 20000000 ≤ max at_ 30000000 ∧
      max at_ 29999999 < at_ + 20000000 ∧ (holding 0).sdu.buttons[(3 : Fin 16)].level = true ∧ HasRoom .buttonStuck 3 (holding 0)) ∧
    ((withButton 3 { Conditioner.initial with stuck := true, recovery := some (at_ - 2000000) } demo).sdu.buttons[(3 : Fin 16)].recovery =
      some (at_ - 2000000) ∧ at_ - 2000000 + 2000000 ≤ at_ ∧ at_ < at_ - 1999999 + 2000000) :=
  ⟨by decide +kernel, by decide +kernel, by decide +kernel, by decide +kernel, by decide +kernel,
    ⟨by decide +kernel, by decide, by decide, by decide +kernel, .inl (by decide)⟩, by decide +kernel⟩

/-- A press on an empty list; one that merges; one that changes nothing, at a full count; one of a door whose output is
ENABLED, one whose output is OPEN, and a late one. -/
theorem witness_TakenPress :
    (∀ st ∈ [DoorState.none, .released .right, .closing .right], ∀ i ∈ [(2 : Fin 16), 3],
      (∃ st', (withButton i pressed (session st door2Open)).sdu.buttons[i].settle = some st' ∧ st' + 40000 ≤ at_) ∧
      (withButton i pressed (session st door2Open)).sdu.buttons[i].raw = true ∧
      (withButton i pressed (session st door2Open)).sdu.buttons[i].level = false ∧
      (withButton i pressed (session st door2Open)).sdu.buttons[i].isolated = false ∧
      (withButton i pressed (session st door2Open)).sdu.buttons[i].stuck = false ∧
      (withButton i pressed (session st door2Open)).sdu.buttons[i].hold = none) ∧
    mapping demoParams 2 = some (2, .alight) ∧ mapping demoParams 3 = some (3, .alight) ∧ doorSide demoParams 3 = .right ∧
    (session (.released .right) door2Open).sdu.outputs[(3 : Fin 8)] = .enabled ∧
    (session (.released .right) door2Open).sdu.outputs[(2 : Fin 8)] ≠ .enabled ∧
    (false = true ↔ demo.sdu.door = .released (doorSide demoParams 2) ∨ demo.sdu.door = .closing (doorSide demoParams 2)) ∧
    ([⟨2, true, false, false, 1⟩] : List StopEntry) ≠ demo.sdu.stops ∧
    ([⟨2, true, false, false, 255⟩] : List StopEntry) = ([⟨2, true, false, false, 255⟩] : List StopEntry).map fun e =>
      if e.door = 2 then { e with alight := e.alight || decide (StopKind.alight = .alight), count := min 255 (e.count + 1) } else e := by
  refine ⟨fun st _ i hi => ?_, by decide +kernel, by decide +kernel, by decide +kernel, by decide +kernel, by decide +kernel,
    by decide +kernel, by decide +kernel, by decide +kernel⟩
  simp only [List.mem_cons, List.not_mem_nil, or_false] at hi
  rcases hi with rfl | rfl <;> exact ⟨⟨_, rfl, by decide⟩, rfl, rfl, rfl, rfl, rfl⟩

/-- Index 16, action 2, door 8; a button that is and one that is not isolated or stuck; doors listed and not, an empty list. -/
theorem witness_StopCommands :
    LinkReady (withStops stops4 demo) ∧ 15 < (16 : Byte).toNat ∧ 1 < (2 : Byte).toNat ∧ 7 < (8 : Byte).toNat ∧
    (8 : Byte).toNat ≠ 255 ∧ (3 : Byte).toNat = (3 : Fin 16).val ∧
    (withButton 3 { Conditioner.initial with isolated := true } demo).sdu.buttons[(3 : Fin 16)] =
      { Conditioner.initial with isolated := true } ∧
    (demo.sdu.buttons[(3 : Fin 16)].isolated = false ∧ demo.sdu.buttons[(3 : Fin 16)].stuck = false ∧
      demo.sdu.buttons[(3 : Fin 16)].hold.isSome = holdRuns demoParams 3 demo.sdu.buttons[(3 : Fin 16)] ∧
      demo.sdu.buttons[(3 : Fin 16)].recovery.isSome = false) ∧
    (∃ e ∈ (withStops stops4 demo).sdu.stops, e.door = (2 : Fin 8)) ∧
    (∀ e ∈ (withStops stops4 demo).sdu.stops, e.door ≠ (7 : Fin 8)) ∧ (7 : Byte).toNat = (7 : Fin 8).val ∧
    (255 : Byte).toNat = 255 ∧ demo.sdu.stops = [] ∧ (withStops stops4 demo).sdu.stops ≠ [] :=
  ⟨⟨rfl, rfl⟩, by decide, by decide, by decide, by decide, by decide, rfl, by decide +kernel, by decide +kernel,
    by decide +kernel, by decide, by decide, rfl, by decide +kernel⟩

/-- A release that is allowed, at standstill and in class LOST after 5000 ms of full brake; one refused moving; each door
state; the close button with a door open and with every door locked; the close timer at 15 s and one microsecond before. -/
def lost5000 : State := { demo with
  amu := { demo.amu with a := { demo.amu.a with cls := .fault }, b := { demo.amu.b with cls := .fault } }
  drc := { demo.drc with refClass := .lost, brakeHeld := 5000 } }

theorem witness_ReleaseAndClose :
    (∀ s ∈ [demo, lost5000], s.drc.driveState ≠ .unconfigured ∧
      (s.amu.atStandstill = true ∨ s.drc.refClass = .lost ∧ 5000 ≤ s.drc.brakeHeld) ∧ s.rtm.zone = false ∧
      (∃ d : Fin 8, doorSide s.params d = .right) ∧ s.sdu.bypass = false ∧ s.sdu.armed .releaseRight = true ∧
      s.configured = true ∧ s.sdu.door = .none) ∧
    ((withStops stops7 demo).sdu.stops.filter fun e => decide (doorSide demoParams e.door = .right)) ≠ [] ∧
    (demo.sdu.stops.filter fun e => decide (doorSide demoParams e.door = .right)) = [] ∧
    ¬((running 20 20).amu.atStandstill = true ∨ (running 20 20).drc.refClass = .lost ∧ 5000 ≤ (running 20 20).drc.brakeHeld) ∧
    fresh.configured = false ∧ fresh.sdu.armed .releaseRight = true ∧
    ({ demo.sdu with armedRight := false } : Sdu).armed .releaseRight = false ∧ 39 < 40 ∧
    (session (.closing .right) door2Open).sdu.door = .closing .right ∧
    (∃ x, x ≠ Side.left ∧ (session (.closing .right) door2Open).sdu.door = .closing x) ∧
    (session (.released .right) door2Open).sdu.armedClose = true ∧
    (∃ i : Fin 8, (session (.released .right) door2Open).sdu.locked[i] = false) ∧
    (∀ i : Fin 8, (session (.released .right) (Vector.replicate 8 true)).sdu.locked[i] = true) ∧
    ((session (.closing .right) door2Open).sdu.closeTimer = some (at_ - 3000000) ∧
      at_ - 3000000 + demoParams.closeTimeout.toNat * 1000000 ≤ max at_ (at_ + 12000000) ∧
      max at_ (at_ + 11999999) < at_ - 3000000 + demoParams.closeTimeout.toNat * 1000000 ∧
      HasRoom .doorCloseTimeout 0 (session (.closing .right) door2Open)) :=
  ⟨by decide +kernel, by decide +kernel, by decide +kernel, by decide +kernel, by decide, by decide, by decide, by decide, rfl,
    ⟨.right, by decide, rfl⟩, rfl, by decide +kernel, by decide +kernel, ⟨rfl, by decide +kernel, by decide +kernel, .inl (by decide)⟩⟩

/-- The last door of CLOSING and of UNSAFE, a door with another open, doors that unlock in NONE with the switch OFF and ON,
on a session's own side and away from it; the switch in each state. -/
def bypassOnly (door : DoorState) (locked : Vector Bool 8) : State :=
  { session door locked with sdu := { (session door locked).sdu with bypass := true } }

theorem witness_DoorsAndBypass :
    ((session (.closing .right) door2Open).sdu.locked[(2 : Fin 8)] ≠ true ∧ (session .unsafe_ door2Open).sdu.door = .unsafe_ ∧
      (true = true ↔ true = true ∧ ∀ i : Fin 8, i = 2 ∨ (session (.closing .right) door2Open).sdu.locked[i] = true) ∧
      (∃ x, (session (.closing .right) door2Open).sdu.door = .closing x) ∧ demo.configured = true) ∧
    (false = true ↔ false = true ∧ ∀ i : Fin 8, i = 5 ∨ demo.sdu.locked[i] = true) ∧
    (demo.sdu.locked[(5 : Fin 8)] ≠ false ∧ demo.sdu.door = .none ∧ demo.sdu.bypass = false ∧ demo.clp.faults.length < 24) ∧
    (bypassOnly .none (Vector.replicate 8 true)).sdu.bypass = true ∧ fresh.configured = false ∧
    ((session (.released .right) door2Open).sdu.door ≠ .none ∧
      (session (.released .right) door2Open).sdu.door.session = some (doorSide demoParams 3) ∧
      (session (.released .right) door2Open).sdu.door.session ≠ some (doorSide demoParams 7) ∧
      HasRoom .doorUnlocked 7 (session (.released .right) door2Open)) ∧
    ((session (.closing .right) door2Open).sdu.bypass = false ∧ (session (.closing .right) door2Open).sdu.door ≠ .none ∧
      (session (.closing .right) door2Open).sdu.door ≠ .bypassed) ∧
    ((bypassOnly .bypassed door2Open).sdu.door = .bypassed ∧ (∃ d : Fin 8, (bypassOnly .bypassed door2Open).sdu.locked[d] = false) ∧
      ∀ d : Fin 8, (bypassOnly .bypassed (Vector.replicate 8 true)).sdu.locked[d] = true) ∧
    ((bypassOnly .unsafe_ door2Open).sdu.bypass = true ∧ (bypassOnly .unsafe_ door2Open).sdu.door ≠ .bypassed) :=
  ⟨⟨by decide +kernel, rfl, by decide +kernel, ⟨_, rfl⟩, rfl⟩, by decide +kernel, by decide +kernel, rfl, rfl,
    ⟨by decide +kernel, by decide +kernel, by decide +kernel, .inl (by decide)⟩, by decide +kernel, by decide +kernel, by decide +kernel⟩

/-- A channel with a full stack, and with a full queue of priorities 6 to 1. -/
def fullStack : State := cabTone (plays ⟨5, 4, .link, .held, 9⟩ 0 0 200 10)
  [⟨⟨6, 3, .drive, .count 1, 3⟩, 0, 0, 50⟩, ⟨⟨4, 2, .stops, .count 1, 2⟩, 0, 0, 50⟩, ⟨⟨7, 1, .link, .count 0, 1⟩, 0, 0, 50⟩] [] .silent
def fullQueue : State := cabTone (plays reqVigil 0 0 200 10) []
  ((List.range 6).map fun i => ⟨8 + i, 6 - i, .link, .held, 4 + i⟩) .silent
def twoWaiting : State := cabTone (plays reqWarn 0 0 200 10) [savedChime] [reqLink, reqRefuse] .silent

/-- The next arrival rank would pass 255. -/
def lastRank : State := { twoWaiting with tnu := { twoWaiting.tnu with cab := { twoWaiting.tnu.cab with nextRank := 256 } } }

theorem witness_RequestArrives :
    (ChannelSound lastRank.tnu.cab ∧ 255 < lastRank.tnu.cab.nextRank ∧ (Source.stops, 5) ∉ lastRank.tnu.cab.keys) ∧
    (ChannelSound demo.tnu.cab ∧ demo.tnu.cab.nextRank ≤ 255 ∧ demo.tnu.cab.playing = none ∧
      (Source.stops, 4) ∉ demo.tnu.cab.keys) ∧
    (ChannelSound threeLevels.tnu.cab ∧ threeLevels.tnu.cab.nextRank ≤ 255 ∧
      (∃ p, threeLevels.tnu.cab.playing = some p ∧ p.saved.req.source = .vigilance ∧ p.saved.req.pattern = 5) ∧
      (∃ sv ∈ threeLevels.tnu.cab.stack, sv.req.source = .stops ∧ sv.req.pattern = 4)) ∧
    (ChannelSound twoWaiting.tnu.cab ∧
      (∃ p, twoWaiting.tnu.cab.playing = some p ∧ p.saved.req.priority < 7 ∧ 6 ≤ p.saved.req.priority) ∧
      (Source.drive, 6) ∉ twoWaiting.tnu.cab.keys ∧ twoWaiting.tnu.cab.stack.length < 3 ∧ twoWaiting.tnu.cab.queue.length < 6 ∧
      ∃ old ∈ twoWaiting.tnu.cab.queue, old.source = .link ∧ old.pattern = 4) ∧
    (ChannelSound fullStack.tnu.cab ∧ fullStack.tnu.cab.stack.length = 3 ∧ (Source.vigilance, 5) ∉ fullStack.tnu.cab.keys ∧
      (∃ p, fullStack.tnu.cab.playing = some p ∧ p.saved.req.priority < 5) ∧ HasRoom .soundDropped 0 fullStack ∧
      ∃ old, fullStack.tnu.cab.stack.getLast? = some old ∧ old.req.source = .link) ∧
    (ChannelSound fullQueue.tnu.cab ∧ fullQueue.tnu.cab.queue.length = 6 ∧
      (∃ low, fullQueue.tnu.cab.queue.getLast? = some low ∧ low.source = .link) ∧
      5 = fullQueue.tnu.cab.queue.countP (fun q => decide (2 ≤ q.priority)) ∧
      6 = fullQueue.tnu.cab.queue.countP (fun q => decide (1 ≤ q.priority))) := by
  refine ⟨⟨⟨?_, ?_, ?_, ?_, ?_, ?_, ?_, ?_, ?_⟩, by decide, by decide +kernel⟩,
    ⟨channelSound_initial, by decide, rfl, by decide⟩,
    ⟨channelSound_threeLevels, by decide, ⟨_, rfl, rfl, rfl⟩, _, .tail _ (.head _), rfl, rfl⟩,
    ⟨⟨?_, ?_, ?_, ?_, ?_, ?_, ?_, ?_, ?_⟩, ⟨_, rfl, by decide, by decide⟩, by decide +kernel, by decide, by decide,
      _, .head _, rfl, rfl⟩,
    ⟨⟨?_, ?_, ?_, ?_, ?_, ?_, ?_, ?_, ?_⟩, rfl, by decide +kernel, ⟨_, rfl, by decide⟩, .inl (by decide),
      _, rfl, rfl⟩,
    ⟨⟨?_, ?_, ?_, ?_, ?_, ?_, ?_, ?_, ?_⟩, rfl, ⟨_, rfl, rfl⟩, by decide +kernel, by decide +kernel⟩⟩ <;>
  decide +kernel

/-- A context that was saved at the end of its step. -/
def spent (step reps : Nat) : Saved := ⟨reqWarn, step, reps, 0⟩

/-- An end of a playing request with nothing, a queue head above the stack, and a stack top behind it, which has time left, or
none at a step that is not its last, at the end of a repeat and at that of its last; of a saved and of a waiting one; of one
that is not there. A contact that stood 20 ms and 19 ms. -/
def alone : State := cabTone (plays reqVigil 0 0 200 10) [] [] .silent

theorem witness_SoundsEnd :
    (ChannelSound threeLevels.tnu.cab ∧ (Source.doors, 7) ∉ threeLevels.tnu.cab.keys ∧
      (∃ p, threeLevels.tnu.cab.playing = some p ∧ p.saved.req.source = .vigilance ∧ p.saved.req.pattern = 5) ∧
      threeLevels.tnu.cab.stack.head? = some savedWarn ∧
      (∀ r ∈ threeLevels.tnu.cab.queue.head?, r.priority ≤ savedWarn.req.priority) ∧ savedWarn.remaining ≠ 0 ∧
      (∃ sv ∈ threeLevels.tnu.cab.stack, sv.req.source = .stops ∧ sv.req.pattern = 4) ∧
      (∃ r ∈ threeLevels.tnu.cab.queue, r.source = .link ∧ r.pattern = 4)) ∧
    (twoWaiting.tnu.cab.queue.head? = some reqLink ∧
      ∀ top ∈ twoWaiting.tnu.cab.stack.head?, top.req.priority < reqLink.priority) ∧
    (alone.tnu.cab.stack = [] ∧ alone.tnu.cab.queue = []) ∧
    (∀ x ∈ [(0, 0), (1, 0), (1, 1)], ChannelSound (cabTone (plays reqVigil 0 0 200 10) [spent x.1 x.2] [] .silent).tnu.cab ∧
      (cabTone (plays reqVigil 0 0 200 10) [spent x.1 x.2] [] .silent).tnu.cab.stack.head? = some (spent x.1 x.2) ∧
      (spent x.1 x.2).remaining = 0 ∧ ∃ pat, demo.tnu.pattern reqWarn.pattern = some pat ∧ pat.steps.length = 2 ∧
        RepeatTarget pat reqWarn.mode (some 2)) ∧
    demo.tnu.hornDown ≠ true ∧ demo.tnu.pedalDown ≠ true ∧ 20 ≤ 20 ∧ 19 < 20 :=
  ⟨⟨channelSound_threeLevels, by decide +kernel, ⟨_, rfl, rfl, rfl⟩, rfl, by decide, by decide,
    ⟨_, .tail _ (.head _), rfl, rfl⟩, ⟨_, .head _, rfl, rfl⟩⟩, by decide, by decide,
    fun x _ => ⟨⟨by simp [cabTone], by simp [cabTone], List.pairwise_singleton _ _, .nil,
      by simp [Channel.keys, cabTone, plays, spent, reqWarn, reqVigil], by simp [cabTone],
      by simp [cabTone, plays], of_all (by simp [cabTone, plays, spent, reqWarn, reqVigil]), of_all (by simp [cabTone, plays])⟩,
      rfl, rfl, _, rfl, rfl, repeatTarget_spec _ (.count 2)⟩, by decide, by decide, by decide, by decide⟩

/-- Channel 3, pattern 24, priority 8, a COUNT of 16 and a mode of kind 3; an empty pattern; requests that are taken and
FULL; a stop of a channel whose playing context is not of source LINK. -/
theorem witness_LinkSounds :
    LinkReady demo ∧ LinkReady fullQueue ∧ LinkReady twoWaiting ∧ 2 < (3 : Byte).toNat ∧ 23 < (24 : Byte).toNat ∧
    7 < (8 : Byte).toNat ∧ (true = true ↔ 16 ≤ (16 : Byte).toNat ∧ (16 : Byte).toNat < 128 ∨ 192 ≤ (16 : Byte).toNat) ∧
    (false = true ↔ 16 ≤ (15 : Byte).toNat ∧ (15 : Byte).toNat < 128 ∨ 192 ≤ (15 : Byte).toNat) ∧
    (false = true ↔ 16 ≤ (191 : Byte).toNat ∧ (191 : Byte).toNat < 128 ∨ 192 ≤ (191 : Byte).toNat) ∧
    (true = true ↔ 16 ≤ (192 : Byte).toNat ∧ (192 : Byte).toNat < 128 ∨ 192 ≤ (192 : Byte).toNat) ∧
    demo.tnu.pattern 8 = none ∧ demo.tnu.pattern 4 ≠ none ∧
    (demo.requestSound .cab ⟨4, 5, .link, .count 1, 0⟩).2 ≠ .full ∧
    (fullQueue.requestSound .cab ⟨4, 1, .link, .count 1, 0⟩).2 = .full ∧
    ∀ p ∈ twoWaiting.tnu.cab.playing, p.saved.req.source = .link →
      (∀ r ∈ twoWaiting.tnu.cab.queue, r.source = .link) ∧ ∀ sv ∈ twoWaiting.tnu.cab.stack, sv.req.source = .link :=
  ⟨⟨rfl, rfl⟩, ⟨rfl, rfl⟩, ⟨rfl, rfl⟩, by decide, by decide, by decide, by decide, by decide, by decide, by decide,
    by decide +kernel, by decide +kernel, by decide +kernel, by decide +kernel, by decide +kernel⟩

/-- A step that ends with another behind it, one that ends a repeat, one that ends the last repeat, each at its limit, and one
a millisecond before; a LINK request at the end of its last, over a saved context with time
left; a tone period at its end, before it, on an idle channel, and silence. -/
theorem witness_ToneTimers :
    max demo.now at_ = at_ ∧
    (∀ x ∈ [(0, 0), (1, 0), (1, 1)], (∃ p, (cabTone (plays reqWarn x.1 x.2 200 200) [] [] .silent).tnu.cab.playing = some p ∧
      p.saved.req.mode = .count 2 ∧ p.saved.remaining ≤ (at_ - p.since) / 1000) ∧
      ∃ pat, demo.tnu.pattern 5 = some pat ∧ pat.steps.length = 2 ∧ RepeatTarget pat (.count 2) (some 2)) ∧
    ((∃ p, (cabTone (plays reqLink 1 0 250 250) [savedChime] [] .silent).tnu.cab.playing = some p ∧ p.saved.req.source = .link ∧
      p.saved.req.mode = .count 1 ∧ p.saved.remaining ≤ (at_ - p.since) / 1000) ∧
      (∃ pat, demo.tnu.pattern 4 = some pat ∧ pat.steps.length = 2 ∧ RepeatTarget pat (.count 1) (some 1)) ∧
      ∀ sv ∈ (cabTone (plays reqLink 1 0 250 250) [savedChime] [] .silent).tnu.cab.stack, sv.remaining ≠ 0) ∧
    (∀ p, (cabTone (plays reqWarn 0 0 200 199) [] [] .silent).tnu.cab.playing = some p →
      (at_ - p.since) / 1000 < p.saved.remaining) ∧
    ((cabTone (plays reqWarn 0 0 200 9) [] [] (.sounding 1000 300 (at_ - 1000))).tnu.cab.output = .sounding 1000 300 (at_ - 1000) ∧
      at_ - 1000 + 1000 ≤ at_ ∧ at_ < at_ - 999 + 1000) ∧
    (cabTone none [] [] (.sounding 1000 300 (at_ - 1000))).tnu.cab.playing = none ∧ alone.tnu.cab.output = .silent :=
  ⟨rfl, fun x _ => ⟨⟨_, rfl, rfl, (by decide : 200 ≤ (at_ - (at_ - 1000 * 200)) / 1000)⟩, _, rfl, rfl,
      repeatTarget_spec _ (.count 2)⟩,
    ⟨⟨_, rfl, rfl, rfl, (by decide : 250 ≤ (at_ - (at_ - 1000 * 250)) / 1000)⟩,
      ⟨_, rfl, rfl, repeatTarget_spec _ (.count 1)⟩, by decide⟩, of_all (by decide), by decide, rfl, rfl⟩

/-- A part of a pattern that the statement's checks judge. -/
def patternChecks (p : PatternLoad) : List Bool :=
  [ decide (p.number.toNat < 8 ∨ 23 < p.number.toNat),
    decide (15 < p.repeats.toNat ∨ p.stepCount.toNat < 1 ∨ 16 < p.stepCount.toNat),
    decide (p.first.toNat ≠ 0 ∧ p.first.toNat ≠ 8 ∨ p.first.toNat = 8 ∧ p.stepCount.toNat ≤ 8),
    decide (p.steps.length ≠ min 8 (p.stepCount.toNat - p.first.toNat)),
    p.steps.any fun st => decide (st.period.toNat ≠ 0 ∧ (st.period.toNat < 250 ∨ 20000 < st.period.toNat) ∨
      500 < st.level.toNat ∨ st.duration.toNat < 10 ∨ 5000 < st.duration.toNat ∨ st.duration.toNat % 10 ≠ 0) ]

def tone : StepField := ⟨250, 500, 5000⟩
def load8 : PatternLoad := ⟨8, 1, 8, 0, List.replicate 8 tone⟩
def first16 : PatternLoad := ⟨23, 15, 16, 0, List.replicate 8 tone⟩
def second16 : PatternLoad := { first16 with first := 8 }
def buffered : State := { demo with tnu := { demo.tnu with
  loadBuffer := some ⟨23, 15, 16, List.replicate 8 ⟨250, 500, 5000⟩⟩ } }
def inUse23 : State := { buffered with tnu := { buffered.tnu with
  horn := ⟨plays ⟨23, 1, .link, .held, 0⟩ 0 0 100 10, [], [], 1, .silent⟩ } }

/-- A load that each check refuses at a limit; whole patterns, first and second parts, with and without the buffer that they
continue, and of a pattern in use. -/
theorem witness_PatternLoaded :
    ([{ load8 with number := 7 }, { load8 with stepCount := 17 }, { load8 with first := 8 },
      { load8 with steps := List.replicate 7 tone }, { load8 with steps := ⟨249, 500, 10⟩ :: List.replicate 7 tone }].map
        fun p => (patternChecks p).findIdx? id) = (List.range 5).map some ∧
    ((patternChecks load8).findIdx? id = none ∧ (patternChecks first16).findIdx? id = none ∧
      (patternChecks second16).findIdx? id = none) ∧
    LinkReady demo ∧ LinkReady buffered ∧ LinkReady inUse23 ∧ load8.steps.length ≤ 8 ∧ second16.steps.length ≤ 8 ∧
    (false = true ↔ ∃ b, demo.tnu.loadBuffer = some b ∧ (b.number = 23 ∧ b.stepCount = 16 ∧ b.repeats = 15)) ∧
    (true = true ↔ ∃ b, buffered.tnu.loadBuffer = some b ∧ (b.number = 23 ∧ b.stepCount = 16 ∧ b.repeats = 15)) ∧
    (true = true ↔ ∃ ch : ChannelId, ∃ k ∈ (inUse23.tnu.channel ch).keys, k.2 = 23) ∧
    (false = true ↔ ∃ ch : ChannelId, ∃ k ∈ (buffered.tnu.channel ch).keys, k.2 = 23) ∧
    (true = true ↔ load8.first.toNat = 8 ∨ load8.stepCount.toNat ≤ 8) ∧
    (false = true ↔ first16.first.toNat = 8 ∨ first16.stepCount.toNat ≤ 8) ∧ second16.first.toNat = 8 :=
  ⟨by decide +kernel, by decide +kernel, ⟨rfl, rfl⟩, ⟨rfl, rfl⟩, ⟨rfl, rfl⟩, by decide, by decide,
    ⟨nofun, fun ⟨_, h, _⟩ => by cases h⟩, ⟨fun _ => ⟨_, rfl, rfl, rfl, rfl⟩, fun _ => rfl⟩,
    ⟨fun _ => ⟨.horn, _, .head _, rfl⟩, fun _ => rfl⟩, ⟨nofun, fun ⟨ch, k, hk, _⟩ => by cases ch <;> cases hk⟩,
    by decide, by decide, rfl⟩

/-- The codes 0 to 5 and 6, the views 0, 1 and 2, ids 0 and 4096, owners 3 and 4, link ids 0 and 7, pattern numbers 23 and 24,
first steps 0, 8 and 1. -/
theorem witness_ReadCommands :
    LinkReady demo ∧ LinkReady before318 ∧ LinkReady posted300 ∧ 5 < (6 : Byte).toNat ∧ (5 : Byte).toNat = 5 ∧
    demo.rtm.plan = [] ∧ before318.rtm.plan.head? = some ⟨318, .right, .plan, .waiting⟩ ∧ 1 < (2 : Byte).toNat ∧
    (0 : Half).toNat < 1 ∧ 4095 < (4096 : Half).toNat ∧ before318.rtm.record 1 = none ∧
    (before318.rtm.record 318 = some j318 ∧ 1 ≤ (318 : Half).toNat ∧ (318 : Half).toNat ≤ 4095) ∧
    3 < (4 : Byte).toNat ∧ (3 : Byte).toNat = 3 ∧ ((0 : Byte).toNat < 1 ∧ 6 < (7 : Byte).toNat) ∧
    posted300.drc.table.get .route = none ∧ (∃ e, posted300.drc.table.get (.link 1) = some e) ∧
    23 < (24 : Byte).toNat ∧ ((1 : Byte).toNat ≠ 0 ∧ (1 : Byte).toNat ≠ 8) ∧ (23 : Byte).toNat ≤ 23 ∧
    demo.tnu.pattern 23 = none ∧ ∃ p, demo.tnu.pattern 0 = some p :=
  ⟨⟨rfl, rfl⟩, ⟨rfl, rfl⟩, ⟨rfl, rfl⟩, by decide, by decide, rfl, rfl, by decide, by decide, by decide, by decide +kernel,
    by decide +kernel, by decide, by decide, by decide, rfl, ⟨_, rfl⟩, by decide, by decide, by decide, by decide +kernel, _, rfl⟩

/-- A frame with its bytes 5 ms apart, and with a wrong check; single bytes: LENGTH 1, 2, 58 and 59, one short of the end, gaps
of 5000 and 5001 µs. -/
def slowStopRead : List RxByte := stopRead21.mapIdx fun i b => { b with endedAt := at_ + 5000 * i }
def collecting (bytes : List Byte) : State := { demo with clp := { demo.clp with receiver := .collecting bytes (at_ - 5000) } }

theorem witness_FramesReceived :
    demo.clp.receiver = .hunting ∧ (∀ b ∈ slowStopRead, b.stopBit = true) ∧
    (∀ (i : Nat) (a b : RxByte), slowStopRead[i]? = some a → slowStopRead[i + 1]? = some b → b.endedAt ≤ a.endedAt + 5000) ∧
    at_ + 25000 = slowStopRead.foldl (fun m b => max m b.endedAt) demo.now ∧
    slowStopRead.map (fun b => b.value) = frameBytes 0x11 21 [] ∧
    [(0xC3 : Byte), 2, 0x11, 21, 0xD0, 0x2B] = (frameBytes 0x11 21 []).dropLast.dropLast ++ [0xD0, 0x2B] ∧
    [0xD0, 0x2B] ≠ halfBytes (crc 0xFFFF (BitVec.ofNat 8 (0 + 2) :: 0x11 :: 21 :: [])) ∧
    (collecting []).clp.receiver = .collecting [] (at_ - 5000) ∧ at_ ≤ at_ - 5000 + 5000 ∧ at_ - 5000 + 5000 < at_ + 1 ∧
    ((1 : Byte).toNat < 2 ∧ 2 ≤ (2 : Byte).toNat ∧ (58 : Byte).toNat ≤ 58 ∧ 58 < (59 : Byte).toNat) ∧
    ([(2 : Byte), 0x11, 21].head? = some 2 ∧ [(2 : Byte), 0x11, 21].length + 1 < (2 : Byte).toNat + 3) := by
  refine ⟨rfl, by decide +kernel, fun i a b ha hb => ?_, by decide +kernel, by decide +kernel, by decide +kernel,
    by decide +kernel, rfl, by decide, by decide, by decide, by decide⟩
  have h : ∀ i : Fin 6, ∀ a b : RxByte, slowStopRead[i.val]? = some a → slowStopRead[i.val + 1]? = some b →
      b.endedAt ≤ a.endedAt + 5000 := by
    intro i a b ha hb
    fin_cases i <;> cases ha <;> cases hb <;> decide
  by_cases hi : i < 6
  · exact h ⟨i, hi⟩ a b ha hb
  · rw [List.getElem?_eq_none (by simpa [slowStopRead, stopRead21] using hi)] at ha
    cases ha

/-- An inbound queue of four with seven and with eight replies; three frames behind a reply that waits; a head that is taken,
alone, and with two behind it while B27 is on the line (row 5.60); an end of a frame with nothing, a reply and a report behind it; rates 50 and 51; a due and an early expiry. -/
def eightReplies : State := link [waiting 22, waiting 23, waiting 24, waiting 25] (List.replicate 8 (busy 9))

theorem witness_LinkQueues :
    (4 ≤ (link [waiting 22, waiting 23, waiting 24, waiting 25] [busy 9]).clp.inbound.length ∧
      replyCount (link [waiting 22, waiting 23, waiting 24, waiting 25] (List.replicate 7 (busy 9))).clp.outbound < 8) ∧
    8 ≤ replyCount eightReplies.clp.outbound ∧ (0x11 : Byte) ≠ 0x17 ∧ [(1 : Byte)] ≠ [] ∧
    ((link [waiting 22, waiting 23, waiting 24] [rep 1, busy 26]).clp.inbound.length < 4 ∧
      ∃ f ∈ (link [waiting 22, waiting 23, waiting 24] [rep 1, busy 26]).clp.outbound.tail, f.isReply = true) ∧
    (∀ more ∈ [[], [waiting 23, waiting 24]], (link (waiting 22 :: more) [busy 27]).clp.inbound = waiting 22 :: more ∧
      (link (waiting 22 :: more) [busy 27]).clp.outbound ≠ [] ∧
      ¬ ∃ f ∈ (link (waiting 22 :: more) [busy 27]).clp.outbound.tail, f.isReply = true) ∧
    demo.clp.outbound = [] ∧ (link [] [busy 26, busy 27]).clp.outbound ≠ [] ∧
    (∀ f ∈ (link [] [busy 26, busy 27]).clp.outbound.tail.head?, f.isReply = true) ∧
    (link [] [busy 26, rep 2]).clp.outbound.tail = .report 2 none (.linkError .gap 0 none none) :: [] ∧
    LinkReady demo ∧ 50 < (51 : Byte).toNat ∧ (50 : Byte).toNat ≤ 50 ∧
    (0 < ({ demo.clp with rate := 1, statusDue := at_ } : Clp).rate ∧ ({ demo.clp with rate := 1, statusDue := at_ } : Clp).statusDue ≤ max demo.now at_ ∧
      max demo.now at_ < ({ demo.clp with rate := 1, statusDue := at_ + 1 } : Clp).statusDue) ∧ demo.clp.rate = 0 :=
  ⟨by decide, by decide, by decide, by decide, ⟨by decide, _, .head _, rfl⟩, fun more _ => ⟨rfl, by simp [link], by simp [link]⟩, rfl, by decide, by decide,
    rfl, ⟨rfl, rfl⟩, by decide, by decide, by decide, rfl⟩

/-- A pair with an entry, a new pair with 31 and with 32 entries; reads from 0, 32, 5 and 4 against a snapshot of five, and
without one; a tram that moves and one that stands. -/
def entriesOf (n : Nat) : List FaultEntry := (List.range n).map fun i => ⟨.buttonStuck, i, 1, 0, true⟩
def snapped : State := { demo with clp := { demo.clp with snapshot := some ⟨entriesOf 5, false⟩ } }

theorem witness_FaultsAndRestart :
    (∃ e ∈ faulty.clp.faults, e.code = .overspeed ∧ e.index = 0) ∧
    (∀ e ∈ entriesOf 32, ¬(e.code = .overspeed ∧ e.index = 0)) ∧ 32 ≤ (entriesOf 32).length ∧ (entriesOf 31).length < 32 ∧
    LinkReady faulty ∧ LinkReady snapped ∧ LinkReady (running 5 5) ∧ (0 : Byte).toNat = 0 ∧ 31 < (32 : Byte).toNat ∧
    (0 < (5 : Byte).toNat ∧ ∃ sn, snapped.clp.snapshot = some sn ∧ sn.entries.length ≤ (5 : Byte).toNat) ∧
    (∃ sn, snapped.clp.snapshot = some sn ∧ 0 < (4 : Byte).toNat ∧ (4 : Byte).toNat ≤ 31 ∧ (4 : Byte).toNat < sn.entries.length) ∧
    demo.clp.snapshot = none ∧ (running 5 5).amu.atStandstill = false ∧ demo.amu.atStandstill = true :=
  ⟨by decide, by decide +kernel, by decide, by decide, ⟨rfl, rfl⟩, ⟨rfl, rfl⟩, ⟨rfl, rfl⟩, by decide, by decide,
    ⟨by decide, _, rfl, by decide⟩, ⟨_, rfl, by decide, by decide, by decide⟩, rfl, by decide, by decide⟩

/-- A payload of eight steps. -/
theorem witness_CommandFrames : load8.steps.length ≤ 8 := by decide

/-- A record that each field refuses, at a limit, and one that none refuses. -/
def fieldChecks (p : Params) : List Bool :=
  [ decide (p.circA.toNat < 1600 ∨ 2400 < p.circA.toNat), decide (p.circB.toNat < 1600 ∨ 2400 < p.circB.toNat),
    decide (p.vehicleMax.toNat < 300 ∨ 2500 < p.vehicleMax.toNat), decide (p.tractionRise.toNat < 1 ∨ 10 < p.tractionRise.toNat),
    decide (p.tractionFall.toNat < 1 ∨ 20 < p.tractionFall.toNat), decide (p.brakeRise.toNat < 1 ∨ 20 < p.brakeRise.toNat),
    decide (p.brakeFall.toNat < 1 ∨ 10 < p.brakeFall.toNat), decide (p.serviceBrake.toInt < -100 ∨ -30 < p.serviceBrake.toInt),
    decide (p.descentStep.toNat < 1 ∨ 5 < p.descentStep.toNat), decide (p.curveDecel.toNat < 50 ∨ 200 < p.curveDecel.toNat),
    decide (p.reverseCeil.toNat < 50 ∨ 300 < p.reverseCeil.toNat), decide (p.unknownCeil.toNat < 50 ∨ 500 < p.unknownCeil.toNat),
    decide (p.fallback.toNat < 10000 ∨ 200000 < p.fallback.toNat), decide (p.slipMin.toNat < 10 ∨ 100 < p.slipMin.toNat),
    decide (p.slipPermille.toNat < 30 ∨ 200 < p.slipPermille.toNat), decide (p.vehicle.toNat < 1), false,
    p.buttonMap.toList.any (fun b => decide (b.toNat / 8 % 8 ≠ 0)), decide (p.closeTimeout.toNat < 5 ∨ 30 < p.closeTimeout.toNat),
    decide (p.bypassCeil.toNat < 100 ∨ 600 < p.bypassCeil.toNat), decide (1 < p.departureBell.toNat) ]

theorem witness_Configure :
    ([{ demoParams with circA := 1599 }, { demoParams with circB := 2401 }, { demoParams with vehicleMax := 299 },
      { demoParams with tractionRise := 11 }, { demoParams with tractionFall := 21 }, { demoParams with brakeRise := 0 },
      { demoParams with brakeFall := 11 }, { demoParams with serviceBrake := BitVec.ofInt 8 (-29) }, { demoParams with descentStep := 6 },
      { demoParams with curveDecel := 201 }, { demoParams with reverseCeil := 49 }, { demoParams with unknownCeil := 501 },
      { demoParams with fallback := 9999 }, { demoParams with slipMin := 9 }, { demoParams with slipPermille := 201 },
      { demoParams with vehicle := 0 }, { demoParams with buttonMap := demoParams.buttonMap.set 15 8 },
      { demoParams with closeTimeout := 31 }, { demoParams with bypassCeil := 99 }, { demoParams with departureBell := 2 }].map
        fun p => (fieldChecks p).findIdx? id) = ((List.range 16) ++ [17, 18, 19, 20]).map some ∧
    (fieldChecks demoParams).findIdx? id = none ∧ badField demoParams = none ∧ LinkReady fresh ∧ LinkReady demo ∧
    LinkReady (session (.closing .right) door2Open) ∧ (session (.closing .right) door2Open).sdu.door ≠ .none ∧
    (running 5 5).sdu.door = .none ∧ (running 5 5).configured = true ∧ (running 5 5).amu.atStandstill = false ∧
    (fresh.configured = false ∧ fresh.sdu.door = .none ∧ fresh.drc.table.doors = none ∧ fresh.drc.table.reverse = none) ∧
    (demo.configured = true ∧ demo.amu.atStandstill = true ∧ demo.sdu.door = .none ∧ demo.drc.table.doors = none) ∧
    (∀ e, (backing.drc.table.set .reverse (some ⟨.ceiling, 167, 0xE6, none, none, .active⟩)).reverse = some e →
      e.start = none ∧ e.stop = none ∧ e.phase = .active) ∧
    (∀ d : Fin 8, fresh.sdu.locked[d] = true) ∧
    (∃ d : Fin 8, ({ fresh.sdu with locked := door2Open } : Sdu).locked[d] = false) ∧ fresh.clp.faults.length < 23 ∧
    fresh.drc.warnVigilance = false :=
  ⟨by decide +kernel, by decide +kernel, by decide +kernel, ⟨rfl, rfl⟩, ⟨rfl, rfl⟩, ⟨rfl, rfl⟩, by decide +kernel, rfl, rfl,
    by decide, by decide, by decide, of_all (by decide +kernel), by decide +kernel, by decide +kernel, by decide, rfl⟩

end Sys2Proof.Tests
end

section
/-! SUPPORT. What one command can do, said once: POWER_ON apart, every command is an event of one block at its moment, or
the work of the cab link, which runs commands one after another. An invariant is then two goals, one for the events and
one for the commands of the cab link. -/

namespace Sys2Proof.Machine

/-- The events of the blocks, each from the state at its moment to the state that it leaves. The rows that name a part of
a larger event are that event or nothing (assumption 4). -/
inductive Event (s : State) : State → Prop
  | nothing : Event s s
  | tachoEdge (ax : Axle) : Event s (s.tachoEdge ax)
  | noEdgeExpiry (ax : Axle) : Event s (s.noEdgeExpiry ax)
  | sensorOpen (ax : Axle) : Event s (s.sensorOpen ax)
  | sensorOk (ax : Axle) : Event s (s.sensorOk ax)
  | plausibilityExpiry (ax : Axle) : Event s (s.plausibilityExpiry ax)
  | controlInterval : Event s s.controlInterval
  | handleRise : Event s { s with drc := s.drc.handleRise s.now }
  | handleFall : Event s { s with drc := s.drc.handleFall s.now }
  | reverser (r : Reverser) : Event s (s.takeReverser r).settle
  | deadman (pressed : Bool) : Event s (State.settleVigilance { s with drc := { s.drc with deadman := pressed } })
  | detentClose : Event s s.closeDetent.settle
  | detentOpen : Event s { s with drc := { s.drc with detent := false } }
  | vigilanceWarning (due : expired s.drc.vigilance Config.vigilanceWarn s.now = true) :
      Event s (State.requestVigilanceWarning { s with drc := { s.drc with warnVigilance := true } })
  | vigilanceTrip : Event s (s.trip .vigilance).settle
  | demandPeriod : Event s s.demandPeriod
  | emergencyStop (tag : Byte) : Event s (s.emergencyStop tag)
  | selectorPress (sel : Selection) : Event s (s.selectorPress sel)
  | selectorRelease (sel : Selection) : Event s { s with rtm := s.rtm.arm sel true }
  | approachInterval : Event s s.approachInterval
  | amberFlash : Event s s.amberFlash
  | loopPage (page : List Byte) : Event s (s.loopPage page)
  | contactLost : Event s s.contactLost
  | buttonInput (i : Fin 16) (raw : Bool) : Event s (s.buttonInput i raw)
  | settleButton (i : Fin 16) : Event s (s.settleButton i)
  | holdButton (i : Fin 16) : Event s (s.holdButton i)
  | recoverButton (i : Fin 16) : Event s (s.recoverButton i)
  | releasePress (side : Side) : Event s (s.doorPress (releaseButton side) (State.releaseRequest side))
  | closePress : Event s (s.doorPress .close State.closeRequest)
  | buttonInactive (b : DoorButton) : Event s { s with sdu := s.sdu.arm b true }
  | closeTimeout : Event s s.closeTimeout
  | doorInput (door : Fin 8) (locked : Bool) : Event s (s.doorInput door locked)
  | bypassOn : Event s s.bypassOn
  | bypassOff : Event s s.bypassOff
  | hornChange (pressed : Bool) : Event s (s.hornChange pressed)
  | pedalChange (pressed : Bool) : Event s (s.pedalChange pressed)
  | stepEnd (ch : ChannelId) : Event s (s.stepEnd ch)
  | tonePeriodEnd (ch : ChannelId) : Event s (s.tonePeriodEnd ch)

/-- The event of an input that has stood long enough, and of a row whose outcome has come. -/
theorem Event.ite {s a : State} {p : Prop} [Decidable p] (h : p → Event s a) : Event s (if p then a else s) := by
  split
  · next hp => exact h hp
  · exact .nothing

/-- What the cab link does with a state, from its moment on: a checked frame arrives, the head of the inbound queue is
taken, a frame has been sent, the gap or the STATUS timer has run out. -/
inductive LinkWork (s : State) : State → Prop
  | arrive (c : Inbound) : LinkWork s (s.arrive c)
  | takeWaiting : LinkWork s s.takeWaiting
  | frameSent : LinkWork s s.frameSent
  | gapAbort : LinkWork s s.gapAbort
  | statusExpiry : LinkWork s s.statusExpiry

/-- Every command but POWER_ON and LINK_FRAME is an event of a block or work of the cab link, at the command's moment. -/
theorem exec_cases (c : Instr) (s : State) :
    (∃ t inp, c = .powerOn t inp) ∨ (∃ bytes, c = .linkFrame bytes) ∨
      ∃ t s', exec c s = .next s' ∧ (Event (s.atTime t) s' ∨ LinkWork (s.atTime t) s') := by
  cases c with
  | powerOn t inp => exact .inl ⟨t, inp, rfl⟩
  | linkFrame bytes => exact .inr (.inl ⟨bytes, rfl⟩)
  | tachoEdge t ax => exact .inr (.inr ⟨t, _, rfl, .inl (.tachoEdge ax)⟩)
  | noEdgeExpiry t ax => exact .inr (.inr ⟨t, _, rfl, .inl (.noEdgeExpiry ax)⟩)
  | sensorHealthOpen t ax => exact .inr (.inr ⟨t, _, rfl, .inl (.sensorOpen ax)⟩)
  | sensorHealthOk t ax => exact .inr (.inr ⟨t, _, rfl, .inl (.sensorOk ax)⟩)
  | plausibilityExpiry t ax => exact .inr (.inr ⟨t, _, rfl, .inl (.plausibilityExpiry ax)⟩)
  | controlInterval t => exact .inr (.inr ⟨t, _, rfl, .inl .controlInterval⟩)
  | adhesionConditionEnd t | capRemoved t | sandRunOnExpiry t | resetComplete t =>
    exact .inr (.inr ⟨t, _, rfl, .inl (.ite fun _ => .controlInterval)⟩)
  | handleCycle t => exact .inr (.inr ⟨t, _, rfl, .inl .handleRise⟩)
  | handleFallingEdge t => exact .inr (.inr ⟨t, _, rfl, .inl .handleFall⟩)
  | reverserChange t stood f r => exact .inr (.inr ⟨t, _, rfl, .inl (.ite fun _ => .reverser _)⟩)
  | deadmanChange t stood pressed => exact .inr (.inr ⟨t, _, rfl, .inl (.ite fun _ => .deadman pressed)⟩)
  | emergencyDetentClose t => exact .inr (.inr ⟨t, _, rfl, .inl .detentClose⟩)
  | emergencyDetentOpen t stood => exact .inr (.inr ⟨t, _, rfl, .inl (.ite fun _ => .detentOpen)⟩)
  | vigilanceWarning t => exact .inr (.inr ⟨t, _, rfl, .inl (.ite fun h => .vigilanceWarning h.1)⟩)
  | vigilanceTrip t => exact .inr (.inr ⟨t, _, rfl, .inl (.ite fun _ => .vigilanceTrip)⟩)
  | demandPeriodStart t => exact .inr (.inr ⟨t, _, rfl, .inl .demandPeriod⟩)
  | emergencyStop t tag => exact .inr (.inr ⟨t, _, rfl, .inl (.emergencyStop tag)⟩)
  | selectorPress t stood sel => exact .inr (.inr ⟨t, _, rfl, .inl (.ite fun _ => .selectorPress sel)⟩)
  | selectorButtonRelease t stood sel => exact .inr (.inr ⟨t, _, rfl, .inl (.ite fun _ => .selectorRelease sel)⟩)
  | approachInterval t => exact .inr (.inr ⟨t, _, rfl, .inl .approachInterval⟩)
  | amberFlash t => exact .inr (.inr ⟨t, _, rfl, .inl .amberFlash⟩)
  | loopPage t page => exact .inr (.inr ⟨t, _, rfl, .inl (.loopPage page)⟩)
  | awaitingTimeout t page | settingTimeout t page =>
    exact .inr (.inr ⟨t, _, rfl, .inl (.ite fun _ => .loopPage page)⟩)
  | contactLost t => exact .inr (.inr ⟨t, _, rfl, .inl .contactLost⟩)
  | buttonInputChange t i raw => exact .inr (.inr ⟨t, _, rfl, .inl (.buttonInput i raw)⟩)
  | settleTimerExpiry t i => exact .inr (.inr ⟨t, _, rfl, .inl (.settleButton i)⟩)
  | holdTimerExpiry t i => exact .inr (.inr ⟨t, _, rfl, .inl (.holdButton i)⟩)
  | recoveryTimerExpiry t i => exact .inr (.inr ⟨t, _, rfl, .inl (.recoverButton i)⟩)
  | releasePress t stood side => exact .inr (.inr ⟨t, _, rfl, .inl (.ite fun _ => .releasePress side)⟩)
  | closePress t stood => exact .inr (.inr ⟨t, _, rfl, .inl (.ite fun _ => .closePress)⟩)
  | cabDoorButtonInactive t stood b => exact .inr (.inr ⟨t, _, rfl, .inl (.ite fun _ => .buttonInactive b)⟩)
  | closeTimerExpiry t => exact .inr (.inr ⟨t, _, rfl, .inl .closeTimeout⟩)
  | doorInputChange t stood d l => exact .inr (.inr ⟨t, _, rfl, .inl (.ite fun _ => .doorInput d l)⟩)
  | bypassOn t stood => exact .inr (.inr ⟨t, _, rfl, .inl (.ite fun _ => .bypassOn)⟩)
  | bypassOff t stood => exact .inr (.inr ⟨t, _, rfl, .inl (.ite fun _ => .bypassOff)⟩)
  | hornButtonChange t stood pressed => exact .inr (.inr ⟨t, _, rfl, .inl (.ite fun _ => .hornChange pressed)⟩)
  | bellPedalChange t stood pressed => exact .inr (.inr ⟨t, _, rfl, .inl (.ite fun _ => .pedalChange pressed)⟩)
  | stepEnd t ch => exact .inr (.inr ⟨t, _, rfl, .inl (.stepEnd ch)⟩)
  | tonePeriodEnd t ch => exact .inr (.inr ⟨t, _, rfl, .inl (.tonePeriodEnd ch)⟩)
  | gapAbort t => exact .inr (.inr ⟨t, _, rfl, .inr .gapAbort⟩)
  | takeCommand t => exact .inr (.inr ⟨t, _, rfl, .inr .takeWaiting⟩)
  | frameSent t => exact .inr (.inr ⟨t, _, rfl, .inr .frameSent⟩)
  | statusTimerExpiry t => exact .inr (.inr ⟨t, _, rfl, .inr .statusExpiry⟩)
  | restrictPost t | restrictLift t | restrictRead t | junctionLoad t | junctionDrop t | junctionRead t | routeAppend t
  | routeClear t | routeRead t | buttonIsolate t | stopClear t | stopRead t | soundStart t | soundStop t | patternLoad t
  | patternRead t | identify t | statusRead t | reportRate t | faultsRead t | restart t | configure t | readConfig t =>
    exact .inr (.inr ⟨t, _, rfl, .inr (.arrive _)⟩)

/-- A property that does not speak of the cab link's own state and that the passing of time, the events of the blocks and
the commands of the cab link keep. -/
structure Kept (P : State → Prop) : Prop where
  time  : ∀ t s, P s → P (s.atTime t)
  clp   : ∀ c s, P s → P { s with clp := c }
  event : ∀ s s', Event s s' → P s → P s'
  run   : ∀ c s, P s → P (s.runCommand c).1

namespace Kept

variable {P : State → Prop} (k : Kept P)
include k

/-- R174: the commands taken from the inbound queue keep the property, each with its reply. -/
theorem drain (n : Nat) : ∀ s : State, P s → P (s.drain n) := by
  induction n with
  | zero => exact fun _ h => h
  | succ n ih =>
    intro s h
    unfold State.drain
    split
    · exact h
    · split
      · exact h
      · exact ih _ (k.clp _ _ (k.run _ _ (k.clp _ _ h)))

theorem takeWaiting {s : State} (h : P s) : P s.takeWaiting := k.drain _ _ h

/-- R173: so does the arrival of a checked frame. -/
theorem arrive (c : Inbound) {s : State} (h : P s) : P (s.arrive c) := by
  unfold State.arrive
  split
  · exact k.takeWaiting (k.clp _ _ h)
  · exact k.clp _ _ h

theorem checkedFrame (kind tag : Byte) (payload : List Byte) {s : State} (h : P s) :
    P (s.checkedFrame kind tag payload) := by
  unfold State.checkedFrame
  split
  · split
    · exact k.event _ _ (.emergencyStop tag) h
    · exact k.clp _ _ h
  · exact k.arrive _ h

theorem hunt (b : RxByte) {s : State} (h : P s) : P (s.hunt b) := by
  unfold State.hunt
  split <;> exact k.clp _ _ h

theorem abortFrame (r : LinkErrorReason) (bytes : List Byte) {s : State} (h : P s) : P (s.abortFrame r bytes) :=
  k.clp _ _ (k.clp _ _ h)

theorem frameWhole (bytes : List Byte) {s : State} (h : P s) : P (s.frameWhole bytes) := by
  unfold State.frameWhole
  split
  · split
    · exact k.checkedFrame _ _ _ (k.clp _ _ h)
    · exact k.clp _ _ h
  · exact k.abortFrame _ _ h

theorem collect (bytes : List Byte) (b : RxByte) {s : State} (h : P s) : P (s.collect bytes b) := by
  unfold State.collect
  split
  · exact h
  · split
    · exact k.hunt _ (k.abortFrame _ _ h)
    · split
      · exact k.frameWhole _ h
      · exact k.clp _ _ h

/-- R172: a byte at the receiver. -/
theorem receive (b : RxByte) {s : State} (h : P s) : P (s.receive b) := by
  have ht := k.time b.endedAt s h
  simp only [State.receive]
  split
  · exact ht
  · split
    · exact k.hunt _ ht
    · split
      · exact k.hunt _ (k.abortFrame _ _ ht)
      · exact k.collect _ _ ht

theorem receives (bytes : List RxByte) : ∀ {s : State}, P s → P (bytes.foldl State.receive s) := by
  induction bytes with
  | nil => exact fun h => h
  | cons b rest ih => exact fun h => ih (k.receive b h)

theorem linkWork {s s' : State} (w : LinkWork s s') (h : P s) : P s' := by
  cases w with
  | arrive c => exact k.arrive c h
  | takeWaiting => exact k.takeWaiting h
  | frameSent =>
    unfold State.frameSent
    split
    · exact h
    · exact k.takeWaiting (k.clp _ _ h)
  | gapAbort =>
    unfold State.gapAbort
    split
    · exact h
    · split
      · exact k.abortFrame _ _ h
      · exact h
  | statusExpiry =>
    unfold State.statusExpiry
    split
    · exact k.clp _ _ (k.clp _ _ h)
    · exact h

/-- Every command but POWER_ON answers a next state and keeps the property. -/
theorem exec {c : Instr} (hc : ∀ t inp, c ≠ .powerOn t inp) {s : State} (h : P s) :
    ∃ s', Machine.exec c s = .next s' ∧ P s' := by
  rcases exec_cases c s with ⟨t, inp, rfl⟩ | ⟨bytes, rfl⟩ | ⟨t, s', he, hs⟩
  · exact absurd rfl (hc t inp)
  · exact ⟨_, rfl, k.receives bytes h⟩
  · exact ⟨s', he, hs.elim (fun e => k.event _ _ e (k.time t s h)) fun w => k.linkWork w (k.time t s h)⟩

end Kept

end Sys2Proof.Machine
end

section
/-! SUPPORT. What the commands of the cab link leave alone at their owners. -/

namespace Sys2Proof.Machine

variable (s : State)

@[simp] theorem State.restrictPost_frame (p : RestrictPost) :
    (s.restrictPost p).1.now = s.now ∧ (s.restrictPost p).1.poweredAt = s.poweredAt ∧
    (s.restrictPost p).1.pending = s.pending ∧ (s.restrictPost p).1.amu = s.amu ∧
    (s.restrictPost p).1.rtm = s.rtm ∧ (s.restrictPost p).1.lpt = s.lpt ∧ (s.restrictPost p).1.sdu = s.sdu ∧
    (s.restrictPost p).1.tnu = s.tnu ∧ (s.restrictPost p).1.params = s.params ∧
    (s.restrictPost p).1.configured = s.configured := by
  simp only [State.restrictPost]; (repeat' split) <;> simp

@[simp] theorem State.restrictLift_frame (o i : Byte) :
    (s.restrictLift o i).1.now = s.now ∧ (s.restrictLift o i).1.poweredAt = s.poweredAt ∧
    (s.restrictLift o i).1.pending = s.pending ∧ (s.restrictLift o i).1.amu = s.amu ∧
    (s.restrictLift o i).1.rtm = s.rtm ∧ (s.restrictLift o i).1.lpt = s.lpt ∧ (s.restrictLift o i).1.sdu = s.sdu ∧
    (s.restrictLift o i).1.tnu = s.tnu ∧ (s.restrictLift o i).1.params = s.params ∧
    (s.restrictLift o i).1.configured = s.configured := by
  simp only [State.restrictLift]; (repeat' split) <;> simp

theorem State.junctionLoad_frame (p : JunctionLoad) :
    (s.junctionLoad p).1 = { s with rtm := (s.junctionLoad p).1.rtm } := by
  simp only [State.junctionLoad]; (repeat' split) <;> rfl

theorem State.junctionDrop_frame (id : Half) :
    (s.junctionDrop id).1 = { s with rtm := (s.junctionDrop id).1.rtm } := by
  simp only [State.junctionDrop]; (repeat' split) <;> rfl

theorem State.routeAppend_frame (id : Half) (sel : Byte) :
    (s.routeAppend id sel).1 = { s with rtm := (s.routeAppend id sel).1.rtm } := by
  simp only [State.routeAppend]; (repeat' split) <;> rfl

theorem State.routeClear_frame : s.routeClear.1 = { s with rtm := s.routeClear.1.rtm } := rfl

@[simp] theorem State.requestSound_frame (ch : ChannelId) (r : Request) :
    (s.requestSound ch r).1.now = s.now ∧ (s.requestSound ch r).1.poweredAt = s.poweredAt ∧
    (s.requestSound ch r).1.pending = s.pending ∧ (s.requestSound ch r).1.amu = s.amu ∧
    (s.requestSound ch r).1.drc = s.drc ∧ (s.requestSound ch r).1.rtm = s.rtm ∧
    (s.requestSound ch r).1.lpt = s.lpt ∧ (s.requestSound ch r).1.sdu = s.sdu ∧
    (s.requestSound ch r).1.params = s.params ∧ (s.requestSound ch r).1.configured = s.configured := by
  simp only [State.requestSound]; (repeat' split) <;> simp

@[simp] theorem State.soundStart_frame (a b c d : Byte) :
    (s.soundStart a b c d).1.now = s.now ∧ (s.soundStart a b c d).1.poweredAt = s.poweredAt ∧
    (s.soundStart a b c d).1.pending = s.pending ∧ (s.soundStart a b c d).1.amu = s.amu ∧
    (s.soundStart a b c d).1.drc = s.drc ∧ (s.soundStart a b c d).1.rtm = s.rtm ∧
    (s.soundStart a b c d).1.lpt = s.lpt ∧ (s.soundStart a b c d).1.sdu = s.sdu ∧
    (s.soundStart a b c d).1.params = s.params ∧ (s.soundStart a b c d).1.configured = s.configured := by
  simp only [State.soundStart]; (repeat' split) <;> simp

@[simp] theorem State.stopChannel_frame (ch : ChannelId) :
    (s.stopChannel ch).1.now = s.now ∧ (s.stopChannel ch).1.poweredAt = s.poweredAt ∧
    (s.stopChannel ch).1.pending = s.pending ∧ (s.stopChannel ch).1.amu = s.amu ∧
    (s.stopChannel ch).1.drc = s.drc ∧ (s.stopChannel ch).1.rtm = s.rtm ∧ (s.stopChannel ch).1.lpt = s.lpt ∧
    (s.stopChannel ch).1.sdu = s.sdu ∧ (s.stopChannel ch).1.params = s.params ∧
    (s.stopChannel ch).1.configured = s.configured := by
  simp only [State.stopChannel]; (repeat' split) <;> simp

@[simp] theorem State.soundStop_frame (b : Byte) :
    (s.soundStop b).1.now = s.now ∧ (s.soundStop b).1.poweredAt = s.poweredAt ∧
    (s.soundStop b).1.pending = s.pending ∧ (s.soundStop b).1.amu = s.amu ∧ (s.soundStop b).1.drc = s.drc ∧
    (s.soundStop b).1.rtm = s.rtm ∧ (s.soundStop b).1.lpt = s.lpt ∧ (s.soundStop b).1.sdu = s.sdu ∧
    (s.soundStop b).1.params = s.params ∧ (s.soundStop b).1.configured = s.configured := by
  simp only [State.soundStop]; (repeat' split) <;> simp

theorem State.patternLoad_frame (p : PatternLoad) :
    (s.patternLoad p).1 = { s with tnu := (s.patternLoad p).1.tnu } := by
  simp only [State.patternLoad]; split <;> rfl

theorem State.stopClear_frame (b : Byte) :
    (s.stopClear b).1 = { s with
      sdu := { s.sdu with stops := (s.stopClear b).1.sdu.stops
                          stopLamp := (s.stopClear b).1.sdu.stopLamp, rampLamp := (s.stopClear b).1.sdu.rampLamp }
      clp := (s.stopClear b).1.clp } := by
  simp only [State.stopClear]; (repeat' split) <;> rfl

theorem State.isolateButton_frame (i : Fin 16) :
    s.isolateButton i = { s with sdu := { s.sdu with buttons := (s.isolateButton i).sdu.buttons }
                                 clp := (s.isolateButton i).clp } := by
  simp only [State.isolateButton]; split <;> rfl

theorem State.buttonIsolate_frame (i a : Byte) :
    (s.buttonIsolate i a).1 = { s with sdu := { s.sdu with buttons := (s.buttonIsolate i a).1.sdu.buttons }
                                       clp := (s.buttonIsolate i a).1.clp } := by
  simp only [State.buttonIsolate]; (repeat' split)
  · exact s.isolateButton_frame _
  all_goals rfl

theorem State.reportRate_frame (r : Byte) : (s.reportRate r).1 = { s with clp := (s.reportRate r).1.clp } := by
  simp only [State.reportRate]; split <;> rfl

theorem State.faultsRead_frame (n : Byte) : (s.faultsRead n).1 = { s with clp := (s.faultsRead n).1.clp } := by
  simp only [State.faultsRead]; (repeat' split) <;> rfl

@[simp] theorem State.restartRoute_frame :
    s.restartRoute.now = s.now ∧ s.restartRoute.poweredAt = s.poweredAt ∧ s.restartRoute.pending = s.pending ∧
    s.restartRoute.amu = s.amu ∧ s.restartRoute.lpt = s.lpt ∧ s.restartRoute.sdu = s.sdu ∧
    s.restartRoute.tnu = s.tnu ∧ s.restartRoute.params = s.params ∧ s.restartRoute.configured = s.configured := by
  simp only [State.restartRoute]; split <;> simp

theorem State.dropLinkEntries_frame : s.dropLinkEntries = { s with drc := s.dropLinkEntries.drc } := rfl

@[simp] theorem State.restartCommand_frame :
    s.restartCommand.1.now = s.now ∧ s.restartCommand.1.poweredAt = s.poweredAt ∧
    s.restartCommand.1.pending = s.pending ∧ s.restartCommand.1.amu = s.amu ∧ s.restartCommand.1.sdu = s.sdu ∧
    s.restartCommand.1.params = s.params ∧ s.restartCommand.1.configured = s.configured := by
  simp only [State.restartCommand, State.restart, State.restartBlocks]
  rw [State.dropLinkEntries_frame]
  split <;> simp

@[simp] theorem State.remapButton_frame (i : Fin 16) :
    (s.remapButton i).now = s.now ∧ (s.remapButton i).poweredAt = s.poweredAt ∧
    (s.remapButton i).pending = s.pending ∧ (s.remapButton i).amu = s.amu ∧ (s.remapButton i).drc = s.drc ∧
    (s.remapButton i).rtm = s.rtm ∧ (s.remapButton i).lpt = s.lpt ∧ (s.remapButton i).tnu = s.tnu ∧
    (s.remapButton i).params = s.params ∧ (s.remapButton i).configured = s.configured := by
  simp only [State.remapButton]; split <;> simp

@[simp] theorem State.remapButtons_frame :
    s.remapButtons.now = s.now ∧ s.remapButtons.poweredAt = s.poweredAt ∧ s.remapButtons.pending = s.pending ∧
    s.remapButtons.amu = s.amu ∧ s.remapButtons.drc = s.drc ∧ s.remapButtons.rtm = s.rtm ∧
    s.remapButtons.lpt = s.lpt ∧ s.remapButtons.tnu = s.tnu ∧ s.remapButtons.params = s.params ∧
    s.remapButtons.configured = s.configured := by
  unfold State.remapButtons
  induction allButtons generalizing s with
  | nil => exact ⟨rfl, rfl, rfl, rfl, rfl, rfl, rfl, rfl, rfl, rfl⟩
  | cons i l ih => simpa using ih (s.remapButton i)

@[simp] theorem State.configureDrc_frame (first : Bool) :
    (s.configureDrc first).now = s.now ∧ (s.configureDrc first).poweredAt = s.poweredAt ∧
    (s.configureDrc first).pending = s.pending ∧ (s.configureDrc first).amu = s.amu ∧
    (s.configureDrc first).rtm = s.rtm ∧ (s.configureDrc first).lpt = s.lpt ∧
    (s.configureDrc first).sdu = s.sdu ∧ (s.configureDrc first).tnu = s.tnu ∧
    (s.configureDrc first).params = s.params ∧ (s.configureDrc first).configured = s.configured := by
  simp only [State.configureDrc, State.leaveUnconfigured]; (repeat' split) <;> simp

@[simp] theorem State.configureSdu_frame (first : Bool) :
    (s.configureSdu first).now = s.now ∧ (s.configureSdu first).poweredAt = s.poweredAt ∧
    (s.configureSdu first).pending = s.pending ∧ (s.configureSdu first).amu = s.amu ∧
    (s.configureSdu first).rtm = s.rtm ∧ (s.configureSdu first).lpt = s.lpt ∧
    (s.configureSdu first).tnu = s.tnu ∧ (s.configureSdu first).params = s.params ∧
    (s.configureSdu first).configured = s.configured := by
  simp only [State.configureSdu]; split <;> simp

@[simp] theorem State.takeConfigure_frame (p : Params) :
    (s.takeConfigure p).now = s.now ∧ (s.takeConfigure p).poweredAt = s.poweredAt ∧
    (s.takeConfigure p).pending = s.pending ∧ (s.takeConfigure p).rtm = s.rtm ∧ (s.takeConfigure p).lpt = s.lpt ∧
    (s.takeConfigure p).params = storedParams p ∧ (s.takeConfigure p).configured = true := by
  simp only [State.takeConfigure]; simp

/-- R184: CONFIGURE takes the whole record or none of it. -/
theorem State.configure_cases (p : Params) : (s.configure p).1 = s ∨ (s.configure p).1 = s.takeConfigure p := by
  unfold State.configure
  split
  · exact .inl rfl
  · exact .inr rfl

end Sys2Proof.Machine
end

section
/-! O2: what every command carries on. -/

namespace Sys2Proof.Machine

/-- R14: an odometer in its accumulator's range does not fall and stays in the range. -/
def OdometerGrows (before after : Nat) : Prop :=
  before ≤ Config.odometerTop → before ≤ after ∧ after ≤ Config.odometerTop

theorem OdometerGrows.refl (n : Nat) : OdometerGrows n n := fun h => ⟨le_rfl, h⟩

theorem OdometerGrows.trans {a b c : Nat} (h : OdometerGrows a b) (h' : OdometerGrows b c) : OdometerGrows a c :=
  fun ha => ⟨(h ha).1.trans (h' (h ha).2).1, (h' (h ha).2).2⟩

/-- What a state hands to every later one until a POWER_ON: the queue of waiting commands and the moment of power-on,
time that does not run back, a configured flag that is not taken back, and the odometer. -/
structure Carries (s s' : State) : Prop where
  pending    : s'.pending = s.pending
  poweredAt  : s'.poweredAt = s.poweredAt
  now        : s.now ≤ s'.now
  configured : s.configured = true → s'.configured = true
  odometer   : OdometerGrows s.amu.odometer s'.amu.odometer

theorem Carries.refl (s : State) : Carries s s := ⟨rfl, rfl, le_rfl, id, .refl _⟩

theorem Carries.trans {a b c : State} (h : Carries a b) (h' : Carries b c) : Carries a c where
  pending := h'.pending.trans h.pending
  poweredAt := h'.poweredAt.trans h.poweredAt
  now := h.now.trans h'.now
  configured := h'.configured ∘ h.configured
  odometer := h.odometer.trans h'.odometer

/-- An operation that leaves alone all that is carried on. -/
theorem Carries.of_frame {s s' : State} (h : s'.pending = s.pending ∧ s'.poweredAt = s.poweredAt ∧ s'.now = s.now ∧
    s'.configured = s.configured ∧ s'.amu.odometer = s.amu.odometer) : Carries s s' := by
  obtain ⟨hp, hpo, hn, hc, ho⟩ := h
  exact ⟨hp, hpo, hn.ge, fun h => hc.trans h, ho ▸ .refl _⟩

@[simp] theorem Amu.setChannel_odometer (ax : Axle) (c : AxleChannel) (a : Amu) :
    (a.setChannel ax c).odometer = a.odometer := by cases ax <;> rfl

@[simp] theorem State.setAxle_odometer (ax : Axle) (c : AxleChannel) (s : State) :
    (s.setAxle ax c).amu.odometer = s.amu.odometer := by simp [State.setAxle]

@[simp] theorem State.settle_odometer (s : State) : s.settle.amu.odometer = s.amu.odometer := by
  rw [s.settle_spec.2.1]

/-- R14: the odometer accumulator grows by the circumference and stops at its top. -/
theorem Amu.count_odometerGrows (circ : Nat) (dir : Direction) (a : Amu) :
    OdometerGrows a.odometer (a.count circ dir).odometer := by
  intro h
  simp only [Amu.count]
  omega

theorem State.tachoEdge_odometerGrows (ax : Axle) (s : State) :
    OdometerGrows s.amu.odometer (s.tachoEdge ax).amu.odometer := by
  simp only [State.tachoEdge]
  split
  · split
    · simpa [State.setAxle] using Amu.count_odometerGrows _ _ (s.amu.setChannel ax _)
    · simpa using OdometerGrows.refl _
  · exact .refl _

@[simp] theorem State.noEdgeExpiry_odometer (ax : Axle) (s : State) :
    (s.noEdgeExpiry ax).amu.odometer = s.amu.odometer := by
  simp only [State.noEdgeExpiry]; split <;> simp

@[simp] theorem State.sensorOpen_odometer (ax : Axle) (s : State) :
    (s.sensorOpen ax).amu.odometer = s.amu.odometer := by
  simp only [State.sensorOpen]; split <;> simp

@[simp] theorem State.sensorOk_odometer (ax : Axle) (s : State) :
    (s.sensorOk ax).amu.odometer = s.amu.odometer := by
  simp only [State.sensorOk]; split <;> simp

@[simp] theorem State.plausibilityExpiry_odometer (ax : Axle) (s : State) :
    (s.plausibilityExpiry ax).amu.odometer = s.amu.odometer := by
  simp only [State.plausibilityExpiry]; split <;> simp

@[simp] theorem State.controlInterval_odometer (s : State) :
    s.controlInterval.amu.odometer = s.amu.odometer := by
  simp only [State.controlInterval]; split <;> simp

@[simp] theorem State.takeReverser_odometer (r : Reverser) (s : State) :
    (s.takeReverser r).amu.odometer = s.amu.odometer := by
  simp only [State.takeReverser]; (repeat' split) <;> simp

@[simp] theorem State.emergencyStop_odometer (tag : Byte) (s : State) :
    (s.emergencyStop tag).amu.odometer = s.amu.odometer := by
  simp only [State.emergencyStop]; split <;> simp

@[simp] theorem State.emergencyStop_frame (tag : Byte) (s : State) :
    (s.emergencyStop tag).now = s.now ∧ (s.emergencyStop tag).poweredAt = s.poweredAt ∧
    (s.emergencyStop tag).pending = s.pending ∧ (s.emergencyStop tag).rtm = s.rtm ∧
    (s.emergencyStop tag).lpt = s.lpt ∧ (s.emergencyStop tag).sdu = s.sdu ∧
    (s.emergencyStop tag).params = s.params ∧ (s.emergencyStop tag).configured = s.configured := by
  simp only [State.emergencyStop]; split <;> simp

/-- R142: a press of a cab door button is discarded, or acts on the state with the button disarmed. -/
theorem State.doorPress_cases (b : DoorButton) (act : State → State) (s : State) :
    s.doorPress b act = s ∨ s.doorPress b act = { s with sdu := s.sdu.arm b false } ∨
      s.doorPress b act = act { s with sdu := s.sdu.arm b false } := by
  simp only [State.doorPress]
  (repeat' split) <;> simp

/-- No event of a block takes back what is carried on; the edges of the odometer axle alone move the odometer. -/
theorem Event.carries {s s' : State} (e : Event s s') : Carries s s' := by
  cases e with
  | nothing => exact .refl _
  | tachoEdge ax =>
    obtain ⟨hn, hpo, hp, -, -, -, -, hc⟩ := s.tachoEdge_frame ax
    exact ⟨hp, hpo, hn.ge, fun h => hc.trans h, s.tachoEdge_odometerGrows ax⟩
  | releasePress side =>
    rcases s.doorPress_cases (releaseButton side) (State.releaseRequest side) with h | h | h <;> rw [h] <;>
      exact .of_frame (by simp)
  | closePress =>
    rcases s.doorPress_cases .close State.closeRequest with h | h | h <;> rw [h] <;> exact .of_frame (by simp)
  | _ => exact .of_frame (by simp)

@[simp] theorem State.takeConfigure_odometer (p : Params) (s : State) :
    (s.takeConfigure p).amu.odometer = s.amu.odometer := by
  simp [State.takeConfigure]

/-- Nor does a command of the cab link: CONFIGURE sets the configured flag (R183), and the others leave all alone. -/
theorem State.runCommand_carries (c : LinkCommand) (s : State) : Carries s (s.runCommand c).1 := by
  cases c with
  | configure p =>
    change Carries s (s.configure p).1
    rcases s.configure_cases p with h | h <;> rw [h]
    · exact .refl s
    · obtain ⟨hn, hpo, hp, -, -, -, hc⟩ := s.takeConfigure_frame p
      exact ⟨hp, hpo, hn.ge, fun _ => hc, s.takeConfigure_odometer p ▸ .refl _⟩
  | junctionLoad load => exact .of_frame (by rw [State.runCommand, s.junctionLoad_frame]; simp)
  | junctionDrop id => exact .of_frame (by rw [State.runCommand, s.junctionDrop_frame]; simp)
  | routeAppend id sel => exact .of_frame (by rw [State.runCommand, s.routeAppend_frame]; simp)
  | routeClear => exact .of_frame (by rw [State.runCommand, s.routeClear_frame]; simp)
  | patternLoad load => exact .of_frame (by rw [State.runCommand, s.patternLoad_frame]; simp)
  | stopClear target => exact .of_frame (by rw [State.runCommand, s.stopClear_frame]; simp)
  | buttonIsolate i a => exact .of_frame (by rw [State.runCommand, s.buttonIsolate_frame]; simp)
  | reportRate r => exact .of_frame (by rw [State.runCommand, s.reportRate_frame]; simp)
  | faultsRead n => exact .of_frame (by rw [State.runCommand, s.faultsRead_frame]; simp)
  | _ => exact .of_frame (by simp [State.runCommand])

/-- What is carried on from a state is kept by everything but POWER_ON. -/
theorem Carries.kept (s₀ : State) : Kept (Carries s₀) where
  time _ _ h := h.trans ⟨rfl, rfl, le_max_left _ _, id, .refl _⟩
  clp _ _ h := h.trans ⟨rfl, rfl, le_rfl, id, .refl _⟩
  event _ _ e h := h.trans e.carries
  run c s h := h.trans (s.runCommand_carries c)

end Sys2Proof.Machine
end

section
namespace Sys2Proof.Machine

/-! ## POWER_ON -/

/-- R38: in UNCONFIGURED a trip cause has no effect. -/
theorem State.trip_unconfigured {s : State} (h : s.drc.driveState = .unconfigured) (cause : TripReason) :
    s.trip cause = s := by
  simp [State.trip, h]

theorem vigilanceRuns_unconfigured {s : State} (h : s.drc.driveState = .unconfigured) : vigilanceRuns s = false := by
  simp [vigilanceRuns, h]

/-- R8, R50: in UNCONFIGURED, with no axle GOOD and no timer running, nothing settles. -/
theorem State.settle_idle {s : State} (drive : s.drc.driveState = .unconfigured) (warn : s.drc.warnVigilance = false)
    (vigilance : s.drc.vigilance = none)
    (axles : ∀ ax, (s.amu.channel ax).cls ≠ .good ∧ (s.amu.channel ax).plausTimer = none) : s.settle = s := by
  have still : ∀ ax, s.settlePlausibility ax = s := by
    intro ax
    have hp : plausible s.drc.u (s.amu.channel ax) (s.amu.channel (otherAxle ax)) = false := by
      simp [plausible, (axles (otherAxle ax)).1]
    rw [State.settlePlausibility_spec, hp, ← (axles ax).2]
    cases ax <;> rfl
  have awake : s.settleVigilance = s := by
    have hn : ({ s with drc := { s.drc with vigilance := none } } : State) = s := by rw [← vigilance]
    rw [State.settleVigilance, vigilanceRuns_unconfigured drive, hn]
    exact s.endVigilanceWarning_spec.2.2.2 warn
  rw [State.settle, still, still, awake]

/-- R18: a channel as the examination of its sensor-health input leaves it. -/
def AxleChannel.poweredOn (isOpen : Bool) : AxleChannel :=
  if isOpen then AxleChannel.initial.sensorOpen else .initial

theorem AxleChannel.poweredOn_spec (isOpen : Bool) :
    (AxleChannel.poweredOn isOpen).speed = 0 ∧ (AxleChannel.poweredOn isOpen).window = none ∧
    (AxleChannel.poweredOn isOpen).lastEdge = none ∧ (AxleChannel.poweredOn isOpen).noEdge = none ∧
    (AxleChannel.poweredOn isOpen).plausTimer = none ∧
    (AxleChannel.poweredOn isOpen).cls = if isOpen then .fault else .zero := by
  cases isOpen <;> exact ⟨rfl, rfl, rfl, rfl, rfl, rfl⟩

theorem AxleChannel.poweredOn_idle (isOpen : Bool) :
    (AxleChannel.poweredOn isOpen).cls ≠ .good ∧ (AxleChannel.poweredOn isOpen).plausTimer = none := by
  cases isOpen <;> exact ⟨by decide, rfl⟩

/-- R18, R10: the examination of a sensor-health input in UNCONFIGURED: one found OPEN latches AXLE_FAULT. -/
theorem State.examineSensor_unconfigured {s : State} (ax : Axle) (isOpen : Bool)
    (drive : s.drc.driveState = .unconfigured) (warn : s.drc.warnVigilance = false)
    (vigilance : s.drc.vigilance = none) (own : s.amu.channel ax = .initial)
    (found : Bool) (other : s.amu.channel (otherAxle ax) = .poweredOn found) (odometer : s.amu.odometer = 0) :
    s.examineSensor ax isOpen =
      if isOpen then { s.setAxle ax (.poweredOn true) with clp := s.clp.latch .axleFault (axleIndex ax) 0 } else s := by
  unfold State.examineSensor
  split
  · have hc : ∀ c, (s.setAxle ax c).amu.channel ax = c := Amu.channel_setChannel _ _
    have idle : ∀ x, ((s.setAxle ax (.poweredOn true)).amu.channel x).cls ≠ .good ∧
        ((s.setAxle ax (.poweredOn true)).amu.channel x).plausTimer = none := by
      intro x
      by_cases hx : x = ax
      · subst hx; rw [hc]; exact AxleChannel.poweredOn_idle true
      · have : x = otherAxle ax := by cases x <;> cases ax <;> simp_all [otherAxle]
        subst this
        rw [State.setAxle, Amu.channel_setChannel_other, other]; exact AxleChannel.poweredOn_idle found
    have opens : s.sensorOpen ax = ((s.setAxle ax (.poweredOn true)).latchEntered ax .zero).settle := by
      simp only [State.sensorOpen, own]; rfl
    have mm : (s.setAxle ax (.poweredOn true)).amu.odometerMm = 0 := by
      simp [Amu.odometerMm, odometer]
    rw [opens, State.latchEntered, hc, if_pos (by decide),
      State.settle_idle (s := (s.setAxle ax _).latch _ _) drive warn vigilance idle, State.latch, mm]
    rfl
  · rfl

/-- R18, R180: the faults that the examination of the sensor-health inputs latches. -/
def sensorFaults (openA openB : Bool) : List FaultEntry :=
  (if openA then [FaultEntry.mk .axleFault 0 1 0 true] else []) ++
    (if openB then [FaultEntry.mk .axleFault 1 1 0 true] else [])

/-- The part at the moment `now`, with its starting state and the queue of commands that it keeps. -/
def State.starting (now : Nat) (pending : List Instr) : State := { State.initial now with pending := pending }

def Clp.sensorsLatched (now : Nat) (openA openB : Bool) : Clp :=
  let c := if openA then (Clp.initial now).latch .axleFault 0 0 else Clp.initial now
  if openB then c.latch .axleFault 1 0 else c

theorem Clp.sensorsLatched_spec (now : Nat) (openA openB : Bool) :
    Clp.sensorsLatched now openA openB = { Clp.initial now with
        outbound := (Clp.sensorsLatched now openA openB).outbound
        sequence := (Clp.sensorsLatched now openA openB).sequence, faults := sensorFaults openA openB } := by
  cases openA <;> cases openB <;> rfl

/-- R18: the examination of the sensor-health inputs, on the starting state. -/
theorem State.examineSensors_starting (now : Nat) (q : List Instr) (openA openB : Bool) :
    ((State.starting now q).examineSensor .A openA).examineSensor .B openB =
      { State.starting now q with
        amu := { Amu.initial with a := .poweredOn openA, b := .poweredOn openB }
        clp := Clp.sensorsLatched now openA openB } := by
  have first : (State.starting now q).examineSensor .A openA =
      { State.starting now q with
        amu := { Amu.initial with a := .poweredOn openA }, clp := Clp.sensorsLatched now openA false } := by
    refine (State.examineSensor_unconfigured .A openA rfl rfl rfl rfl false rfl rfl).trans ?_
    cases openA <;> rfl
  rw [first]
  refine Eq.trans (State.examineSensor_unconfigured .B openB rfl rfl rfl rfl openA rfl rfl) ?_
  cases openA <;> cases openB <;> rfl

/-- R20, R49: the REVERSE entry before the first CONFIGURE. -/
def reverseEntry : Entry := internalEntry .ceiling 167 0xE6

/-- R35, R49: the starting drive with the reverser taken. -/
def Drc.withReverser (now : Nat) (r : Reverser) : Drc :=
  { Drc.initial now with
    reverser := r
    table := { Table.initial with reverse := if r = .reverse then some reverseEntry else none }
    vCeil := if r = .reverse then 167 else 2000 }

/-- R30, R49: the report of the REVERSE entry, when the reverser is found at REVERSE. -/
def Clp.reverserTaken (r : Reverser) (c : Clp) : Clp :=
  if r = .reverse then c.raise (.restriction (.posted false) .reverse reverseEntry 167 2000) else c

/-- R47, R49: the examination of the reverser, on the starting drive; it trips nothing. -/
theorem State.takeReverser_starting (now : Nat) (q : List Instr) (r : Reverser) (a b : AxleChannel) (c : Clp) :
    State.takeReverser r { State.starting now q with amu := { Amu.initial with a := a, b := b }, clp := c } =
      { State.starting now q with
        amu := { Amu.initial with a := a, b := b, direction := directionAfter r .forward }
        drc := .withReverser now r, clp := c.reverserTaken r } := by
  have noTrip : ∀ m : State, m.drc.driveState = .unconfigured →
      (if m.amu.atStandstill then m else m.trip .reverser) = m := by
    intro m h
    rw [State.trip_unconfigured h, ite_self]
  cases r with
  | neutral => rfl
  | forward => exact noTrip { State.starting now q with
        amu := { Amu.initial with a := a, b := b, direction := .forward }
        drc := .withReverser now .forward, clp := c } rfl
  | reverse => exact noTrip { State.starting now q with
        amu := { Amu.initial with a := a, b := b, direction := .reverse }
        drc := .withReverser now .reverse, clp := c.reverserTaken .reverse } rfl

/-- R48: in UNCONFIGURED a detent found closed is noted and trips nothing. -/
theorem State.detentFound_unconfigured (found : Bool) {s : State} (drive : s.drc.driveState = .unconfigured)
    (detent : s.drc.detent = false) :
    (if found then s.closeDetent else s) = { s with drc := { s.drc with detent := found } } := by
  cases found with
  | false => rw [if_neg Bool.false_ne_true, ← detent]
  | true =>
    rw [if_pos rfl, State.closeDetent, detent]
    exact State.trip_unconfigured (s := { s with drc := { s.drc with detent := true } }) drive _

/-- R47, R65: the examination of the cab contacts, on the starting drive. -/
theorem State.takeContacts_starting (now : Nat) (q : List Instr) (p : PowerInputs) (a b : AxleChannel) (c : Clp) :
    State.takeContacts p { State.starting now q with amu := { Amu.initial with a := a, b := b }, clp := c } =
      { State.starting now q with
        amu := { Amu.initial with a := a, b := b, direction := directionAfter (reverserOf p.forward p.reverse) .forward }
        drc := { Drc.withReverser now (reverserOf p.forward p.reverse) with deadman := p.deadman, detent := p.detent }
        clp := c.reverserTaken (reverserOf p.forward p.reverse) } := by
  rw [State.takeContacts, State.takeReverser_starting]
  exact State.detentFound_unconfigured p.detent rfl rfl

/-- R47: the reverser is found at REVERSE when its REVERSE contact alone is closed. -/
theorem reverserOf_eq_reverse (f r : Bool) : reverserOf f r = .reverse ↔ r ∧ !f := by
  cases f <;> cases r <;> decide

theorem reverserOf_eq (f r : Bool) :
    reverserOf f r = if f = r then .neutral else if f then .forward else .reverse := by
  cases f <;> cases r <;> rfl

theorem directionAfter_forward (r : Reverser) :
    directionAfter r .forward = if r = .reverse then .reverse else .forward := by
  cases r <;> rfl

/-- What POWER_ON leaves (R18, R35, R47, R65, R87, R103, R127, R141, R153, R171, R183). -/
def State.poweredOn (now : Nat) (q : List Instr) (p : PowerInputs) : State :=
  { State.starting now q with
    amu := { Amu.initial with
      a := .poweredOn p.openA, b := .poweredOn p.openB
      direction := directionAfter (reverserOf p.forward p.reverse) .forward }
    drc := { Drc.withReverser now (reverserOf p.forward p.reverse) with deadman := p.deadman, detent := p.detent }
    sdu := (Sdu.initial.takeLevels p.bypassOn p.locked).takeContacts now p.buttons
    clp := (Clp.sensorsLatched now p.openA p.openB).reverserTaken (reverserOf p.forward p.reverse) }

theorem State.poweredOn_channel (now : Nat) (q : List Instr) (p : PowerInputs) (ax : Axle) :
    (State.poweredOn now q p).amu.channel ax = .poweredOn (if ax = .A then p.openA else p.openB) := by
  cases ax <;> rfl

/-- POWER_ON examines the inputs on the starting state. -/
theorem exec_powerOn (t : Nat) (p : PowerInputs) (s : State) :
    exec (.powerOn t p) s = .next (State.poweredOn (max s.now t) s.pending p) := by
  change Host.Outcome.next (State.examine p (State.starting (max s.now t) s.pending)) = _
  rw [State.examine, State.examineSensors_starting, State.takeContacts_starting]
  rfl

/-- R175, R179: after POWER_ON the cab link stands as at the start, but for the reports and faults of the examination. -/
theorem Clp.poweredOn_spec (now : Nat) (openA openB : Bool) (r : Reverser) :
    ((Clp.sensorsLatched now openA openB).reverserTaken r) = { Clp.initial now with
      outbound := ((Clp.sensorsLatched now openA openB).reverserTaken r).outbound
      sequence := ((Clp.sensorsLatched now openA openB).reverserTaken r).sequence
      faults := sensorFaults openA openB } := by
  cases openA <;> cases openB <;> cases r <;> rfl

/-- R141: a button conditioner after POWER_ON. -/
theorem Conditioner.input_initial (now : Nat) (raw : Bool) :
    Conditioner.initial.input now raw =
      { Conditioner.initial with raw := raw, settle := if raw then some now else none } := by
  cases raw <;> rfl

theorem Sdu.takeContacts_button (now : Nat) (raw : Vector Bool 16) (d : Sdu) (i : Fin 16) :
    (d.takeContacts now raw).buttons[i] = d.buttons[i].input now raw[i] := by
  simp [Sdu.takeContacts]

theorem State.poweredOn_button (now : Nat) (q : List Instr) (p : PowerInputs) (i : Fin 16) :
    (State.poweredOn now q p).sdu.buttons[i] = { Conditioner.initial with
      raw := p.buttons[i], settle := if p.buttons[i] then some now else none } := by
  have h : (Sdu.initial.takeLevels p.bypassOn p.locked).buttons[i] = .initial := by
    simp [Sdu.takeLevels, Sdu.initial]
  rw [← Conditioner.input_initial, ← h]
  exact Sdu.takeContacts_button _ _ _ i

end Sys2Proof.Machine

open Sys2Proof Sys2Proof.Machine

/-- Settles O60: the state that POWER_ON leaves is `State.poweredOn`, read field by field. -/
theorem powerOnState : Obligations.PowerOnState := by
  intro t inp s
  have link : (State.poweredOn (max s.now t) s.pending inp).clp = _ :=
    Clp.poweredOn_spec (max s.now t) inp.openA inp.openB (reverserOf inp.forward inp.reverse)
  refine ⟨_, exec_powerOn t inp s, rfl, rfl, rfl, rfl, (by decide : paramsBytes Config.initialParams = _), ?_,
    rfl, rfl, ?_, rfl, rfl, rfl, rfl, rfl, rfl, rfl, rfl, rfl, rfl, rfl, rfl, rfl, reverserOf_eq _ _,
    rfl, rfl, rfl, ?_, ?_, rfl, rfl, rfl, rfl, rfl, ⟨rfl, rfl, rfl, rfl⟩, rfl, rfl, rfl, rfl, rfl, rfl, rfl, rfl, rfl,
    ?_, ?_, rfl, rfl, rfl, rfl, ?_⟩
  · intro ax
    rw [State.poweredOn_channel]
    obtain ⟨hs, hw, hl, hn, hp, hc⟩ := AxleChannel.poweredOn_spec (if ax = .A then inp.openA else inp.openB)
    refine ⟨hs, hw, hl, hn, hp, hc.trans ?_⟩
    cases ax <;> simp
  · simp only [← reverserOf_eq_reverse]
    exact directionAfter_forward _
  · simp only [← reverserOf_eq_reverse]
    rfl
  · simp only [← reverserOf_eq_reverse]
    rfl
  · exact State.poweredOn_button _ _ _
  · intro ch; cases ch <;> rfl
  · rw [link]
    exact ⟨rfl, rfl, rfl, rfl, rfl, rfl, rfl⟩

end

section
open Sys2Proof Sys2Proof.Machine

/-- Settles O2: POWER_ON sets the odometer to 0, and every other command carries on what `Carries` names. -/
theorem commandsNeverStop : Obligations.CommandsNeverStop := by
  intro c s
  by_cases hc : ∃ t inp, c = .powerOn t inp
  · obtain ⟨t, inp, rfl⟩ := hc
    exact ⟨_, exec_powerOn t inp s, rfl, le_max_left _ _, fun _ => Nat.zero_le _, fun h => absurd rfl (h t inp)⟩
  · obtain ⟨s', he, h⟩ := (Carries.kept s).exec (fun t inp e => hc ⟨t, inp, e⟩) (.refl s)
    exact ⟨s', he, h.pending, h.now, fun ho => (h.odometer ho).2,
      fun _ => ⟨h.poweredAt, h.configured, fun ho => (h.odometer ho).1⟩⟩

namespace Sys2Proof.Machine

/-- Contacts that stand open and levels at rest leave the starting doors and buttons. -/
theorem Sdu.takeContacts_rest (now : Nat) :
    ((Sdu.initial.takeLevels false (Vector.replicate 8 true)).takeContacts now (Vector.replicate 16 false)) =
      .initial := by
  have h : (Vector.ofFn fun i : Fin 16 =>
      Conditioner.input now (Vector.replicate 16 false)[i] (Vector.replicate 16 Conditioner.initial)[i]) =
      Vector.replicate 16 Conditioner.initial := by
    ext i hi : 1
    simp [Conditioner.input, Conditioner.initial]
  exact congrArg (fun b => { Sdu.initial with buttons := b }) h

/-- An idle channel is sound. -/
theorem ChannelSound.initial : ChannelSound .initial := by
  constructor <;> simp [Channel.initial, Channel.keys]

theorem TonesSound.reset : TonesSound .reset := by
  intro ch
  cases ch <;> exact .initial

theorem TimersSound.reset : TimersSound .reset where
  plausibility ax := by cases ax <;> rfl
  vigilance := rfl
  warning := nofun
  band := by decide
  calm _ := rfl
  hold := by decide
  recovery := by decide

end Sys2Proof.Machine

/-- Settles O3: every property holds of the starting values of its block. -/
theorem resetIsSound : Obligations.ResetIsSound := by
  refine ⟨⟨?_, ?_, ?_, rfl, ?_, ?_, .reset, ?_, .reset⟩, ?_⟩
  · exact ⟨by decide, by decide, by decide, by decide, by decide, nofun⟩
  · exact ⟨by decide, by decide, .inl rfl, by decide, nofun, nofun, by decide⟩
  · exact ⟨rfl, by decide, by decide⟩
  · exact ⟨.nil, nofun, nofun, nofun, rfl, rfl⟩
  · exact ⟨nofun, by decide, by decide, by decide, nofun, by decide, nofun, nofun, fun h => absurd rfl h, .nil,
      by decide⟩
  · exact ⟨by decide, by decide, by decide, by decide, .nil, nofun, nofun⟩
  · intro s hn hp
    rw [exec_powerOn, hn, hp]
    exact congrArg (fun d => Host.Outcome.next { State.reset with sdu := d }) (Sdu.takeContacts_rest 0)

end

section
/-! SUPPORT. What the timers and warnings that run by conditions are judged from, and the operations that leave it all
alone. -/

namespace Sys2Proof.Machine

/-- Everything that `TimersSound` reads, and the configured flag: of u, only whether it is negative. -/
structure TimerView where
  a             : AxleChannel
  b             : AxleChannel
  driving       : Bool
  driveState    : DriveState
  deadman       : Bool
  vigilance     : Option Nat
  warnVigilance : Bool
  warnDrive     : Bool
  band          : Band
  buttons       : Vector Conditioner 16
  params        : Params
  configured    : Bool

def State.timerView (s : State) : TimerView where
  a := s.amu.a
  b := s.amu.b
  driving := 0 ≤ s.drc.u
  driveState := s.drc.driveState
  deadman := s.drc.deadman
  vigilance := s.drc.vigilance
  warnVigilance := s.drc.warnVigilance
  warnDrive := s.drc.warnDrive
  band := s.drc.band
  buttons := s.sdu.buttons
  params := s.params
  configured := s.configured

/-- `TimersSound` and the configured flag are read off the view. -/
theorem TimersSound.of_view {s s' : State} (h : s'.timerView = s.timerView) (hs : TimersSound s) : TimersSound s' := by
  simp only [State.timerView, TimerView.mk.injEq, decide_eq_decide] at h
  obtain ⟨ha, hb, hu, hd, hdm, hv, hwv, hwd, hband, hbuttons, hp, -⟩ := h
  have channel : ∀ ax, s'.amu.channel ax = s.amu.channel ax := by
    intro ax; cases ax <;> assumption
  have runs : vigilanceRuns s' = vigilanceRuns s := by
    unfold vigilanceRuns Amu.atStandstill Amu.standstill
    rw [ha, hb, hd, hdm]
  constructor
  · intro ax
    rw [channel, channel, hs.plausibility ax]
    simp only [plausible, hu]
  · rw [hv, runs, hs.vigilance]
  · rw [hwv, hv]; exact hs.warning
  · rw [hwd, hband]; exact hs.band
  · rw [hd, hband]; exact hs.calm
  · rw [hbuttons, hp]; exact hs.hold
  · rw [hbuttons]; exact hs.recovery

theorem State.buttons_of_timerView {s s' : State} (h : s'.timerView = s.timerView) :
    s'.sdu.buttons = s.sdu.buttons := congrArg TimerView.buttons h

variable (s : State)

/-! ## The cab link, the Tone Unit and the fault set -/

@[simp] theorem State.raise_timerView (r : Report) : (s.raise r).timerView = s.timerView := rfl
@[simp] theorem State.latch_timerView (c : FaultCode) (i : Nat) : (s.latch c i).timerView = s.timerView := rfl
@[simp] theorem State.clearFault_timerView (c : FaultCode) (i : Nat) : (s.clearFault c i).timerView = s.timerView := rfl

@[simp] theorem State.sound_timerView (ch : ChannelId) (p n : Nat) (src : Source) (m : Mode) :
    (s.sound ch p n src m).timerView = s.timerView := by simp [State.timerView]
@[simp] theorem State.requestRefuse_timerView (src : Source) : (s.requestRefuse src).timerView = s.timerView :=
  s.sound_timerView ..
@[simp] theorem State.requestDepartureBell_timerView : s.requestDepartureBell.timerView = s.timerView :=
  s.sound_timerView ..
@[simp] theorem State.requestJunctionWarning_timerView : s.requestJunctionWarning.timerView = s.timerView :=
  s.sound_timerView ..

/-! ## The restriction table -/

@[simp] theorem State.writeSlot_timerView (slot : Slot) (e : Option Entry) :
    (s.writeSlot slot e).timerView = s.timerView := rfl
@[simp] theorem State.reportEntry_timerView (ev : RestrictEvent) (slot : Slot) (e : Entry) :
    (s.reportEntry ev slot e).timerView = s.timerView := rfl

/-- R29: u is clipped from above 0 to 0, and stays no brake demand. -/
@[simp] theorem State.clip_timerView (e : Entry) : (s.clip e).timerView = s.timerView := by
  unfold State.clip
  split
  · next h => simp [State.timerView, h.2.le, State.setU]
  · rfl

@[simp] theorem State.post_timerView (slot : Slot) (k : Kind) (c : Nat) (r : Byte) :
    (s.post slot k c r).timerView = s.timerView := by
  simp only [State.post]
  (repeat' split) <;> simp

@[simp] theorem State.lift_timerView (slot : Slot) : (s.lift slot).timerView = s.timerView := by
  simp only [State.lift]
  split <;> simp

@[simp] theorem State.restrictPost_timerView (p : RestrictPost) : (s.restrictPost p).1.timerView = s.timerView := by
  simp only [State.restrictPost]
  (repeat' split) <;> simp

@[simp] theorem State.restrictLift_timerView (o i : Byte) : (s.restrictLift o i).1.timerView = s.timerView := by
  simp only [State.restrictLift]
  (repeat' split) <;> simp

/-! ## The Route Manager and the Loop Transceiver -/

@[simp] theorem State.latches_timerView (l : List FaultCode) :
    (l.foldl (fun s c => s.latch c 0) s).timerView = s.timerView := by simp [State.timerView]
@[simp] theorem State.junctions_timerView (l : List JunctionReport) :
    (l.foldl (fun s r => s.raise (.junction r)) s).timerView = s.timerView := by simp [State.timerView]

@[simp] theorem State.handOn_timerView (e : Emit) : (s.handOn e).timerView = s.timerView := by
  simp only [State.handOn]
  (repeat' split) <;> simp

@[simp] theorem State.exchange_timerView (b : Beacon) (e : Emit) : (s.exchange b e).timerView = s.timerView := by
  simp only [State.exchange, State.firstContact, State.enterUnknown, State.beaconMoves, State.handOnBeacon]
  (repeat' split) <;> simp <;> rfl

@[simp] theorem State.validBeacon_timerView (b : Beacon) : (s.validBeacon b).timerView = s.timerView := by
  simp only [State.validBeacon]
  split
  · rfl
  · simp; rfl

@[simp] theorem State.badBeacon_timerView : s.badBeacon.timerView = s.timerView := by simp [State.timerView]

@[simp] theorem State.loopPage_timerView (page : List Byte) : (s.loopPage page).timerView = s.timerView := by
  simp only [State.loopPage, State.takePage]
  (repeat' split) <;> simp

@[simp] theorem State.loseContact_timerView (j : Half) : (s.loseContact j).timerView = s.timerView := by
  unfold State.loseContact
  split
  · rfl
  · split
    · exact State.handOn_timerView _ _
    · rfl

@[simp] theorem State.contactLost_timerView : s.contactLost.timerView = s.timerView := by
  unfold State.contactLost
  split
  · split
    · exact State.loseContact_timerView _ _
    · rfl
  · rfl

@[simp] theorem State.approachSteps_timerView : s.approachSteps.timerView = s.timerView := by
  unfold State.approachSteps
  split
  · split
    · dsimp only
      split <;> exact State.handOn_timerView _ _
    · rfl
  · rfl

@[simp] theorem State.approachInterval_timerView : s.approachInterval.timerView = s.timerView := by
  unfold State.approachInterval
  split
  · exact State.approachSteps_timerView _
  · rfl

@[simp] theorem State.amberFlash_timerView : s.amberFlash.timerView = s.timerView := by simp [State.timerView]

@[simp] theorem State.replaceSelection_timerView (h : PlanEntry) (sel : Selection) :
    (s.replaceSelection h sel).timerView = s.timerView := by
  unfold State.replaceSelection
  split
  · rfl
  · exact State.handOn_timerView _ _

@[simp] theorem State.reRequest_timerView (h : PlanEntry) (j : JunctionRecord) (sel : Selection) :
    (s.reRequest h j sel).timerView = s.timerView := State.handOn_timerView _ _

@[simp] theorem State.selectHead_timerView (sel : Selection) : (s.selectHead sel).timerView = s.timerView := by
  simp only [State.selectHead]
  (repeat' split) <;> simp

@[simp] theorem State.selectorPress_timerView (sel : Selection) : (s.selectorPress sel).timerView = s.timerView := by
  unfold State.selectorPress
  split
  · exact State.selectHead_timerView _ _
  · rfl

/-! ## The doors and the stop list -/

/-- Of the Stop and Door Unit, the view has the button conditioners alone. -/
@[simp] theorem State.sdu_timerView (d : Sdu) (h : d.buttons = s.sdu.buttons) :
    ({ s with sdu := d } : State).timerView = s.timerView := by
  simp [State.timerView, h]

@[simp] theorem Sdu.shut_buttons (d : Sdu) : d.shut.buttons = d.buttons := rfl
@[simp] theorem Sdu.buttons_arm (b : DoorButton) (v : Bool) (d : Sdu) : (d.arm b v).buttons = d.buttons := by
  cases b <;> rfl

@[simp] theorem State.setDoor_timerView (d : DoorState) : (s.setDoor d).timerView = s.timerView := rfl
@[simp] theorem State.postHold_timerView : s.postHold.timerView = s.timerView := s.post_timerView ..
@[simp] theorem State.postBypass_timerView : s.postBypass.timerView = s.timerView := s.post_timerView ..

@[simp] theorem State.latchUnlocked_timerView (ds : List (Fin 8)) : (s.latchUnlocked ds).timerView = s.timerView := by
  simp [State.timerView]

@[simp] theorem State.enterBypassed_timerView : s.enterBypassed.timerView = s.timerView := by
  simp only [State.enterBypassed, State.setDoor_timerView, State.latchUnlocked_timerView, State.latch_timerView,
    State.postBypass_timerView]
  exact State.sdu_timerView _ _ rfl

@[simp] theorem State.enterUnsafe_timerView (ds : List (Fin 8)) : (s.enterUnsafe ds).timerView = s.timerView := by
  simp only [State.enterUnsafe]
  split <;> simp

@[simp] theorem State.completeClosing_timerView : s.completeClosing.timerView = s.timerView := by
  simp only [State.completeClosing]
  split <;> simp

@[simp] theorem State.returnToNone_timerView : s.returnToNone.timerView = s.timerView := s.lift_timerView _

@[simp] theorem State.reportStops_timerView (c : StopsCause) : (s.reportStops c).timerView = s.timerView := rfl
@[simp] theorem State.reportDoors_timerView (c : DoorsCause) (b : DoorState) :
    (s.reportDoors c b).timerView = s.timerView := rfl
@[simp] theorem State.setStops_timerView (l : List StopEntry) : (s.setStops l).timerView = s.timerView := rfl

@[simp] theorem State.releaseStops_timerView (side : Side) : (s.releaseStops side).timerView = s.timerView := by
  simp only [State.releaseStops]
  split <;> simp

@[simp] theorem State.release_timerView (side : Side) : (s.release side).timerView = s.timerView := by
  simp only [State.release, State.setDoor_timerView, State.releaseStops_timerView]
  exact (State.sdu_timerView _ _ rfl).trans s.postHold_timerView

@[simp] theorem State.refuseRelease_timerView : s.refuseRelease.timerView = s.timerView :=
  s.requestRefuse_timerView _

@[simp] theorem State.releaseRequest_timerView (side : Side) : (s.releaseRequest side).timerView = s.timerView := by
  simp only [State.releaseRequest, State.reRelease]
  (repeat' split) <;> simp

@[simp] theorem State.closeRequest_timerView : s.closeRequest.timerView = s.timerView := by
  simp only [State.closeRequest]
  (repeat' split) <;> simp

/-- R142: a press of a cab door button leaves the view as its act does. -/
theorem State.doorPress_timerView (b : DoorButton) {act : State → State} (h : ∀ s, (act s).timerView = s.timerView) :
    (s.doorPress b act).timerView = s.timerView := by
  rcases s.doorPress_cases b act with e | e | e <;> simp [e, h]

@[simp] theorem State.closeTimeout_timerView : s.closeTimeout.timerView = s.timerView := by
  simp only [State.closeTimeout]
  split <;> simp

@[simp] theorem State.doorLocks_timerView (d : Fin 8) : (s.doorLocks d).timerView = s.timerView := by
  simp only [State.doorLocks]
  (repeat' split) <;> simp

@[simp] theorem State.doorUnlocks_timerView (d : Fin 8) : (s.doorUnlocks d).timerView = s.timerView := by
  simp only [State.doorUnlocks]
  (repeat' split) <;> simp

@[simp] theorem State.doorInput_timerView (d : Fin 8) (l : Bool) : (s.doorInput d l).timerView = s.timerView := by
  simp only [State.doorInput]
  (repeat' split) <;> simp

@[simp] theorem State.examineDoors_timerView : s.examineDoors.timerView = s.timerView := by
  unfold State.examineDoors
  split <;> simp

@[simp] theorem State.bypassOn_timerView : s.bypassOn.timerView = s.timerView := by
  simp only [State.bypassOn]
  (repeat' split) <;> simp

@[simp] theorem State.leaveBypassed_timerView : s.leaveBypassed.timerView = s.timerView := by
  simp only [State.leaveBypassed]
  split <;> simp

@[simp] theorem State.bypassOff_timerView : s.bypassOff.timerView = s.timerView := by
  simp only [State.bypassOff]
  (repeat' split) <;> simp

@[simp] theorem State.offerStop_timerView (d : Fin 8) (b : Fin 16) (k : StopKind) :
    (s.offerStop d b k).timerView = s.timerView := by
  simp only [State.offerStop, State.requestChime]
  (repeat' split) <;> simp

@[simp] theorem State.sessionRequest_timerView (d : Fin 8) (b : Fin 16) :
    (s.sessionRequest d b).timerView = s.timerView := by
  simp only [State.sessionRequest]
  (repeat' split) <;> simp

@[simp] theorem State.takePress_timerView (i : Fin 16) : (s.takePress i).timerView = s.timerView := by
  simp only [State.takePress, State.stopRequest]
  (repeat' split) <;> simp

end Sys2Proof.Machine
end

section
/-! O10: the timers and warnings that run by conditions, over every command. -/

namespace Sys2Proof.Machine

/-! ## The button conditioners (R130, R131) -/

/-- R130, R131: the hold and recovery timers of a conditioner run exactly while their conditions stand. -/
def Conditioner.Timed (p : Params) (i : Fin 16) (c : Conditioner) : Prop :=
  c.hold.isSome = holdRuns p i c ∧ c.recovery.isSome = (c.stuck && !c.level)

/-- R130, R131: so do those of all sixteen. -/
def ButtonsTimed (p : Params) (b : Vector Conditioner 16) : Prop := ∀ i : Fin 16, b[i].Timed p i

theorem Conditioner.settleTimers_timed (p : Params) (i : Fin 16) (now : Nat) (c : Conditioner) :
    (c.settleTimers p i now).Timed p i := by
  constructor
  · change (if holdRuns p i c then some (c.hold.getD now) else none).isSome = holdRuns p i c
    cases holdRuns p i c <;> rfl
  · change (if c.stuck ∧ !c.level then some (c.recovery.getD now) else none).isSome = (c.stuck && !c.level)
    cases c.stuck <;> cases c.level <;> rfl

theorem Conditioner.Timed.input {p : Params} {i : Fin 16} {c : Conditioner} (h : c.Timed p i) (now : Nat) (raw : Bool) :
    (c.input now raw).Timed p i := by
  unfold Conditioner.input
  split <;> exact h

theorem button_set_ne (b : Vector Conditioner 16) {i j : Fin 16} (c : Conditioner) (h : i ≠ j) :
    (b.set i c)[j] = b[j] :=
  Vector.getElem_set_ne (hi := i.isLt) (hj := j.isLt) fun e => h (Fin.ext e)

theorem ButtonsTimed.set {p : Params} {b : Vector Conditioner 16} (h : ButtonsTimed p b) {i : Fin 16} {c : Conditioner}
    (hc : c.Timed p i) : ButtonsTimed p (b.set i c) := by
  intro j
  by_cases hj : i = j
  · subst hj
    simpa using hc
  · rw [button_set_ne _ _ hj]
    exact h j

/-- R133: the re-mapping of a button settles its timers by the mapping in force, and leaves the others. -/
theorem State.remapButton_button (s : State) (i : Fin 16) :
    ∃ c : Conditioner, c.Timed s.params i ∧ (s.remapButton i).sdu.buttons = s.sdu.buttons.set i c := by
  unfold State.remapButton
  dsimp only
  split
  · exact ⟨_, Conditioner.settleTimers_timed .., rfl⟩
  · exact ⟨_, Conditioner.settleTimers_timed .., rfl⟩

/-- R133: re-mapped buttons run by the mapping in force, whatever ran before. -/
theorem State.remapFold_timed (l : List (Fin 16)) (s : State)
    (h : ∀ j ∉ l, s.sdu.buttons[j].Timed s.params j) :
    ButtonsTimed s.params (l.foldl State.remapButton s).sdu.buttons := by
  induction l generalizing s with
  | nil => exact fun j => h j (List.not_mem_nil)
  | cons i l ih =>
    obtain ⟨c, hc, hb⟩ := s.remapButton_button i
    have hp : (s.remapButton i).params = s.params := by simp
    have rest : ∀ j ∉ l, (s.remapButton i).sdu.buttons[j].Timed (s.remapButton i).params j := by
      intro j hj
      rw [hp, hb]
      by_cases hi : i = j
      · subst hi
        simpa using hc
      · rw [button_set_ne _ _ hi]
        exact h j (by simp [hj, Ne.symm hi])
    rw [← hp]
    exact ih (s.remapButton i) rest

theorem mem_allButtons (i : Fin 16) : i ∈ allButtons := List.mem_finRange i

theorem State.remapButtons_timed (s : State) : ButtonsTimed s.params s.remapButtons.sdu.buttons := by
  unfold State.remapButtons
  exact State.remapFold_timed allButtons s fun j hj => absurd (mem_allButtons j) hj

/-! ## The band and the DRIVE warning (R57, R58) -/

/-- R57, R58: the DRIVE warning is held exactly while the band is not NORMAL, and the band is NORMAL out of READY. -/
structure BandSound (d : Drc) : Prop where
  warned : d.warnDrive = true ↔ d.band ≠ .normal
  calm   : d.driveState ≠ .ready → d.band = .normal

/-- What `BandSound` reads. -/
def Drc.bandView (d : Drc) : DriveState × Bool × Band := (d.driveState, d.warnDrive, d.band)

theorem BandSound.of_view {d d' : Drc} (h : d'.bandView = d.bandView) (hd : BandSound d) : BandSound d' := by
  simp only [Drc.bandView, Prod.mk.injEq] at h
  obtain ⟨hs, hw, hb⟩ := h
  exact ⟨by rw [hw, hb]; exact hd.warned, by rw [hs, hb]; exact hd.calm⟩

theorem Drc.driveState_of_bandView {d d' : Drc} (h : d'.bandView = d.bandView) : d'.driveState = d.driveState :=
  congrArg Prod.fst h

theorem State.bandView_of_timerView {s s' : State} (h : s'.timerView = s.timerView) :
    s'.drc.bandView = s.drc.bandView := by
  simp only [State.timerView, TimerView.mk.injEq] at h
  obtain ⟨-, -, -, hs, -, -, -, hw, hb, -⟩ := h
  simp only [Drc.bandView, hs, hw, hb]

/-- R58: the end of the DRIVE warning. -/
theorem State.endDriveWarning_drc (s : State) : s.endDriveWarning.drc = { s.drc with warnDrive := false } := by
  unfold State.endDriveWarning
  split
  · simp
  · next h =>
    rw [Bool.not_eq_true] at h
    rw [← h]

/-- R38: what a trip hands on ends both warnings of the drive. -/
theorem State.handOnTrip_drc (b : DriveState) (c : TripReason) (s : State) :
    (s.handOnTrip b c).drc = { s.drc with warnVigilance := false, warnDrive := false } := by
  have h : (((s.endVigilanceWarning.endDriveWarning).requestAlarm).reportEmergency b).drc =
      { s.drc with warnVigilance := false, warnDrive := false } := by
    simp [State.endDriveWarning_drc, State.endVigilanceWarning_spec]
  unfold State.handOnTrip
  dsimp only
  split
  · exact h
  · exact h

/-- R38: a trip ends in TRIPPED with the band NORMAL and no DRIVE warning, or, in UNCONFIGURED, is without effect. -/
theorem State.trip_cases (c : TripReason) (s : State) :
    (s.drc.driveState = .unconfigured ∧ s.trip c = s) ∨
    (s.drc.driveState = .tripped ∧ (s.trip c).drc.bandView = (.tripped, false, s.drc.band)) ∨
    (s.drc.driveState = .ready ∧ (s.trip c).drc.bandView = (.tripped, false, .normal)) := by
  unfold State.trip
  split
  · next h => exact .inl ⟨h, rfl⟩
  · next h => exact .inr (.inl ⟨h, by rw [State.handOnTrip_drc]; simp [Drc.bandView, h]⟩)
  · next h => exact .inr (.inr ⟨h, by rw [State.handOnTrip_drc]; rfl⟩)

/-- The band NORMAL and no DRIVE warning are sound in every drive state. -/
theorem BandSound.of_normal {d : Drc} {st : DriveState} (h : d.bandView = (st, false, .normal)) : BandSound d := by
  simp only [Drc.bandView, Prod.mk.injEq] at h
  obtain ⟨-, hw, hb⟩ := h
  exact ⟨by simp [hw, hb], fun _ => hb⟩

theorem BandSound.trip {s : State} (h : BandSound s.drc) (c : TripReason) : BandSound (s.trip c).drc := by
  rcases s.trip_cases c with ⟨-, e⟩ | ⟨hs, e⟩ | ⟨-, e⟩
  · rw [e]; exact h
  · rw [h.calm (by rw [hs]; decide)] at e
    exact .of_normal e
  · exact .of_normal e

/-- R38: a trip neither enters nor leaves UNCONFIGURED. -/
theorem State.trip_unconfigured_iff (c : TripReason) (s : State) :
    (s.trip c).drc.driveState = .unconfigured ↔ s.drc.driveState = .unconfigured := by
  rcases s.trip_cases c with ⟨-, e⟩ | ⟨hs, e⟩ | ⟨hs, e⟩
  · rw [e]
  all_goals simp [hs, show (s.trip c).drc.driveState = .tripped from congrArg Prod.fst e]

/-! ## The control interval -/

/-- R58: after the band has been set the DRIVE warning is held exactly for a band other than NORMAL. -/
theorem State.setBand_bandView (b : Band) {s : State} (h : BandSound s.drc) :
    (s.setBand b).drc.bandView = (s.drc.driveState, decide (b ≠ .normal), b) := by
  unfold State.setBand
  dsimp only
  split
  · next hb => rw [State.endDriveWarning_drc, hb]; rfl
  · next hb =>
    split
    · simp [Drc.bandView, hb]
    · next hp => simp [Drc.bandView, hb, h.warned.mpr hp]

theorem BandSound.setNormal {s : State} (h : BandSound s.drc) : BandSound (s.setBand .normal).drc :=
  .of_normal (State.setBand_bandView .normal h)

/-- R40: the reset procedure leaves the band and its warning alone, and never enters UNCONFIGURED. -/
theorem State.resetStage_bandView (s : State) (h : s.drc.driveState = .tripped) :
    ∃ st, st ≠ .unconfigured ∧ s.resetStage.drc.bandView = (st, s.drc.warnDrive, s.drc.band) := by
  have standing : DriveState.tripped ≠ .unconfigured := by decide
  unfold State.resetStage
  split
  · dsimp only
    split
    · exact ⟨.ready, by decide, rfl⟩
    · exact ⟨.tripped, standing, by simp [Drc.bandView, h]⟩
  · exact ⟨.tripped, standing, by simp [Drc.bandView, h]⟩

/-- R57, R58: stage 5 keeps the band sound, and neither enters nor leaves UNCONFIGURED. -/
theorem BandSound.bandStage {s : State} (h : BandSound s.drc) :
    BandSound s.bandStage.drc ∧ (s.bandStage.drc.driveState = .unconfigured ↔ s.drc.driveState = .unconfigured) := by
  have state : ∀ b, (s.setBand b).drc.driveState = s.drc.driveState := fun b =>
    congrArg Prod.fst (State.setBand_bandView b h)
  unfold State.bandStage
  split
  · exact ⟨h.setNormal, by rw [state]⟩
  · next hs =>
    obtain ⟨st, hst, hv⟩ := (s.setBand .normal).resetStage_bandView ((state _).trans hs)
    have hn := State.setBand_bandView .normal h
    simp only [Drc.bandView, Prod.mk.injEq] at hn
    rw [hn.2.1, hn.2.2] at hv
    have state : (s.setBand .normal).resetStage.drc.driveState = st := congrArg Prod.fst hv
    exact ⟨.of_normal hv, by simp [state, hst, hs]⟩
  · next hs =>
    split
    · exact ⟨h.setNormal, by rw [state]⟩
    · split
      · next b _ =>
        refine ⟨?_, by rw [state]⟩
        have hv := State.setBand_bandView b h
        simp only [Drc.bandView, Prod.mk.injEq] at hv
        obtain ⟨hd, hw, hb⟩ := hv
        exact ⟨by simp [hw, hb], fun hr => absurd (hd.trans hs) hr⟩
      · exact ⟨h.trip _, s.trip_unconfigured_iff _⟩

@[simp] theorem State.handleStage_bandView (s : State) : s.handleStage.drc.bandView = s.drc.bandView := by
  simp only [State.handleStage]
  (repeat' split) <;> rfl

@[simp] theorem State.referenceStage_bandView (s : State) : s.referenceStage.drc.bandView = s.drc.bandView := rfl

@[simp] theorem Drc.judgeAdhesion_bandView (t d : Nat) (x : Drc) : (x.judgeAdhesion t d).bandView = x.bandView := by
  simp only [Drc.judgeAdhesion]
  (repeat' split) <;> rfl

@[simp] theorem State.adhesionStage_bandView (s : State) : s.adhesionStage.drc.bandView = s.drc.bandView := by
  simp only [State.adhesionStage, Drc.judgeAdhesion_bandView, Drc.relax]
  split <;> rfl

@[simp] theorem State.clip_bandView (e : Entry) (s : State) : (s.clip e).drc.bandView = s.drc.bandView := by
  unfold State.clip
  split <;> rfl

/-- R27, R28: the judgement of the slots does not reach the band. -/
theorem State.judgeSlots_bandView {judge : Slot → State → State × List (RestrictEvent × Slot × Entry)}
    (h : ∀ slot s, (judge slot s).1.drc.bandView = s.drc.bandView) (slots : List Slot) (s : State) :
    (s.judgeSlots judge slots).1.drc.bandView = s.drc.bandView :=
  State.judgeSlots_frame s judge (fun a b => b.drc.bandView = a.drc.bandView) (fun _ => rfl)
    (fun _ _ _ hab hbc => hbc.trans hab) h slots

theorem State.activateSlot_bandView (track : Pos) (slot : Slot) (s : State) :
    (s.activateSlot track slot).1.drc.bandView = s.drc.bandView := by
  unfold State.activateSlot
  split
  · dsimp only
    split
    · exact State.clip_bandView _ _
    · rfl
  · rfl

theorem State.expireSlot_bandView (track : Pos) (slot : Slot) (s : State) :
    (s.expireSlot track slot).1.drc.bandView = s.drc.bandView := by
  unfold State.expireSlot
  (repeat' split) <;> rfl

theorem State.recompute_bandView (s : State) : s.recompute.drc.bandView = s.drc.bandView := rfl

theorem Drc.superviseCeiling_bandView (n : Nat) (d : Drc) : (d.superviseCeiling n).bandView = d.bandView := rfl

@[simp] theorem State.ceilingStage_bandView (s : State) : s.ceilingStage.drc.bandView = s.drc.bandView := by
  simp only [State.ceilingStage, State.entries_frame, Drc.superviseCeiling_bandView, State.recompute_bandView]
  rw [State.judgeSlots_bandView (State.expireSlot_bandView _), State.judgeSlots_bandView (State.activateSlot_bandView _)]

@[simp] theorem State.outputStage_bandView (s : State) : s.outputStage.drc.bandView = s.drc.bandView := by
  unfold State.outputStage
  split <;> rfl

/-- R57 to R59: a control interval keeps the band sound, and neither enters nor leaves UNCONFIGURED. -/
theorem BandSound.controlStages {s : State} (h : BandSound s.drc) :
    BandSound s.controlStages.drc ∧
      (s.controlStages.drc.driveState = .unconfigured ↔ s.drc.driveState = .unconfigured) := by
  have before : s.handleStage.referenceStage.adhesionStage.ceilingStage.drc.bandView = s.drc.bandView := by simp
  unfold State.controlStages
  generalize s.handleStage.referenceStage.adhesionStage.ceilingStage = m at before ⊢
  obtain ⟨hb, hu⟩ := (h.of_view before).bandStage
  have after := m.bandStage.outputStage_bandView
  refine ⟨hb.of_view after, ?_⟩
  rw [Drc.driveState_of_bandView after, hu, Drc.driveState_of_bandView before]

end Sys2Proof.Machine
end

section
/-! O10: the timers and warnings that run by conditions, over every command. -/

namespace Sys2Proof.Machine

theorem State.settle_plausible (m : State) (ax : Axle) :
    plausible m.settle.drc.u (m.settle.amu.channel ax) (m.settle.amu.channel (otherAxle ax)) =
      plausible m.drc.u (m.amu.channel ax) (m.amu.channel (otherAxle ax)) := by
  obtain ⟨channel, -, drive, -⟩ := m.settle_spec
  rw [channel ax, channel (otherAxle ax), drive]
  rfl

/-- R8: a plausibility timer that already follows its conditions is not moved. -/
theorem State.settlePlausibility_of_sound {m : State} {ax : Axle} (h : (m.amu.channel ax).plausTimer.isSome =
    plausible m.drc.u (m.amu.channel ax) (m.amu.channel (otherAxle ax))) : m.settlePlausibility ax = m := by
  have same : (if plausible m.drc.u (m.amu.channel ax) (m.amu.channel (otherAxle ax)) then
      some ((m.amu.channel ax).plausTimer.getD m.now) else none) = (m.amu.channel ax).plausTimer := by
    rw [← h]
    cases (m.amu.channel ax).plausTimer <;> rfl
  rw [m.settlePlausibility_spec, same]
  cases ax <;> rfl

/-- R8, R50: settled, the plausibility and vigilance timers run exactly while their conditions stand, whatever ran
before; the band and the buttons are untouched. -/
theorem TimersSound.settle {m : State} (band : BandSound m.drc) (buttons : ButtonsTimed m.params m.sdu.buttons) :
    TimersSound m.settle := by
  obtain ⟨channel, -, drive, -⟩ := m.settle_spec
  obtain ⟨-, -, -, -, -, hsdu, hparams, -⟩ := m.settle_frame
  constructor
  · intro ax
    rw [m.settle_plausible, channel ax]
    cases plausible m.drc.u (m.amu.channel ax) (m.amu.channel (otherAxle ax)) <;> rfl
  · rw [State.settle_runs, drive]
    cases vigilanceRuns m <;> rfl
  · rw [drive]
    cases vigilanceRuns m <;> simp
  · rw [drive]; exact band.warned
  · rw [drive]; exact band.calm
  · rw [hsdu, hparams]; exact fun i => (buttons i).1
  · rw [hsdu]; exact fun i => (buttons i).2

@[simp] theorem State.reverseEntry_timerView (r : Reverser) (s : State) :
    (s.reverseEntry r).timerView = s.timerView := by
  cases r with
  | forward => exact s.lift_timerView _
  | neutral => rfl
  | reverse => exact s.post_timerView ..

/-- R49: a u above 0 that is set to 0 stays no brake demand. -/
theorem State.setU_zero_timerView {s : State} (h : 0 ≤ s.drc.u) : (s.setU 0).timerView = s.timerView := by
  simp only [State.timerView, State.setU, h, le_refl]

/-- R49: a reverser change reaches the timers by its trip alone. -/
theorem State.takeReverser_cases (r : Reverser) (s : State) :
    ∃ m, m.timerView = s.timerView ∧ (s.takeReverser r = m ∨ s.takeReverser r = m.trip .reverser) := by
  unfold State.takeReverser
  split
  · exact ⟨s, rfl, .inl rfl⟩
  · refine ⟨_, ?_, (ite_eq_or_eq _ _ _)⟩
    split
    · next h => rw [State.setU_zero_timerView h.2.le, State.reverseEntry_timerView]; rfl
    · rw [State.reverseEntry_timerView]; rfl

/-- R133, R186: the Stop and Door Unit's part of CONFIGURE changes what the timers are judged from by the re-mapping of
the buttons alone. -/
theorem State.configureSdu_timerView (first : Bool) (s : State) :
    (s.configureSdu first).timerView = s.remapButtons.timerView := by
  unfold State.configureSdu
  dsimp only
  split
  · exact s.remapButtons.examineDoors_timerView
  · rfl

theorem State.configureSdu_buttons (first : Bool) (s : State) :
    ButtonsTimed (s.configureSdu first).params (s.configureSdu first).sdu.buttons := by
  have params : (s.configureSdu first).params = s.params := by simp
  rw [params, State.buttons_of_timerView (s.configureSdu_timerView first)]
  exact s.remapButtons_timed

theorem State.configureSdu_bandView (first : Bool) (s : State) :
    (s.configureSdu first).drc.bandView = s.drc.bandView := by
  rw [State.bandView_of_timerView (s.configureSdu_timerView first), s.remapButtons_frame.2.2.2.2.1]

/-- R39, R185: the drive's part of CONFIGURE leaves the band alone, and UNCONFIGURED for TRIPPED at the first. -/
theorem State.configureDrc_bandView (first : Bool) (s : State) :
    (s.configureDrc first).drc.bandView =
      (if first then .tripped else s.drc.driveState, s.drc.warnDrive, s.drc.band) := by
  have reposted : (if s.recompute.drc.table.reverse.isSome then
      s.recompute.post .reverse .ceiling s.recompute.params.reverseCeil.toNat reasonReversing
      else s.recompute).drc.bandView = s.drc.bandView := by
    split
    · exact State.bandView_of_timerView (State.post_timerView ..)
    · rfl
  unfold State.configureDrc
  dsimp only
  generalize (if s.recompute.drc.table.reverse.isSome then _ else _ : State) = m at reposted ⊢
  cases first with
  | false => exact reposted
  | true => exact congrArg (fun v => (DriveState.tripped, v.2)) reposted

/-- R39, R183: the band stays sound over the drive's part of CONFIGURE, which is the first one in UNCONFIGURED alone. -/
theorem BandSound.configureDrc {s : State} {first : Bool} (h : BandSound s.drc)
    (hf : first = true → s.drc.driveState = .unconfigured) : BandSound (s.configureDrc first).drc := by
  have view := s.configureDrc_bandView first
  cases first with
  | false => exact .of_view view h
  | true =>
    have calm : s.drc.band = .normal := h.calm (by rw [hf rfl]; decide)
    have silent : s.drc.warnDrive = false := by
      by_contra hw
      exact h.warned.mp (by simpa using hw) calm
    rw [calm, silent] at view
    exact .of_normal view

/-- What every command keeps: the timers are sound, and a part out of UNCONFIGURED has been configured (R183). -/
structure TimersHeld (s : State) : Prop where
  sound      : TimersSound s
  configured : s.drc.driveState ≠ .unconfigured → s.configured = true

namespace TimersHeld

variable {s s' : State}

theorem band (h : TimersHeld s) : BandSound s.drc := ⟨h.sound.band, h.sound.calm⟩

theorem buttons (h : TimersHeld s) : ButtonsTimed s.params s.sdu.buttons := fun i => ⟨h.sound.hold i, h.sound.recovery i⟩

theorem of_view (h : TimersHeld s) (hv : s'.timerView = s.timerView) : TimersHeld s' where
  sound := .of_view hv h.sound
  configured := by
    have hc := congrArg TimerView.configured hv
    have hd := congrArg TimerView.driveState hv
    simp only [State.timerView] at hc hd
    rw [hc, hd]
    exact h.configured

/-- An event that settles the timers at its end, and reaches no button on its way. -/
theorem settle {m : State} (h : TimersHeld s) (band : BandSound m.drc)
    (drive : m.drc.driveState = .unconfigured ↔ s.drc.driveState = .unconfigured)
    (sdu : m.sdu = s.sdu) (params : m.params = s.params) (configured : m.configured = s.configured) :
    TimersHeld m.settle where
  sound := .settle band (by rw [sdu, params]; exact h.buttons)
  configured := by
    rw [m.settle_spec.2.2.1, m.settle_frame.2.2.2.2.2.2.2, configured]
    exact fun hd => h.configured fun hs => hd (drive.mpr hs)

/-- An event of one axle. -/
theorem settleAxle {m : State} (h : TimersHeld s) (drc : m.drc = s.drc) (sdu : m.sdu = s.sdu)
    (params : m.params = s.params) (configured : m.configured = s.configured) : TimersHeld m.settle :=
  h.settle (drc ▸ h.band) (by rw [drc]) sdu params configured

theorem trip (h : TimersHeld s) (c : TripReason) : TimersHeld (s.trip c).settle :=
  h.settle (h.band.trip c) (s.trip_unconfigured_iff c) (by simp) (by simp) (by simp)

/-- The timers settle where nothing that they are judged from has changed. -/
theorem resettle (h : TimersHeld s) : TimersHeld s.settle := h.settle h.band .rfl rfl rfl rfl

/-- R59: the eight stages of a control interval, settled. -/
theorem controlStages (h : TimersHeld s) : TimersHeld s.controlStages.settle :=
  h.settle h.band.controlStages.1 h.band.controlStages.2 (by simp) (by simp) (by simp)

theorem controlInterval (h : TimersHeld s) : TimersHeld s.controlInterval := by
  have due : TimersHeld { s with drc := { s.drc with intervalDue := s.drc.intervalDue + Config.intervalLength } } :=
    h.of_view rfl
  unfold State.controlInterval
  split
  · exact due.controlStages
  · exact h

theorem setButton (h : TimersHeld s) {i : Fin 16} {c : Conditioner} (hc : c.Timed s.params i) :
    TimersHeld (s.setButton i c) where
  sound := { h.sound with
    hold := fun j => (h.buttons.set hc j).1
    recovery := fun j => (h.buttons.set hc j).2 }
  configured := h.configured

/-- R50: a deadman change settles the vigilance timer. -/
theorem deadman (h : TimersHeld s) (pressed : Bool) :
    TimersHeld (State.settleVigilance { s with drc := { s.drc with deadman := pressed } }) := by
  have still : State.settle { s with drc := { s.drc with deadman := pressed } } =
      State.settleVigilance { s with drc := { s.drc with deadman := pressed } } := by
    have sound := fun ax => State.settlePlausibility_of_sound
      (m := { s with drc := { s.drc with deadman := pressed } }) (h.sound.plausibility ax)
    rw [State.settle, sound, sound]
  rw [← still]
  exact h.settle (.of_view (d := s.drc) rfl h.band) .rfl rfl rfl rfl

/-- R50: the vigilance warning is requested while its timer runs. -/
theorem vigilanceWarning (h : TimersHeld s) (due : expired s.drc.vigilance Config.vigilanceWarn s.now = true) :
    TimersHeld (State.requestVigilanceWarning { s with drc := { s.drc with warnVigilance := true } }) := by
  have running : s.drc.vigilance.isSome = true := by
    cases hv : s.drc.vigilance with
    | none => simp [hv, expired] at due
    | some _ => rfl
  have warned : TimersHeld { s with drc := { s.drc with warnVigilance := true } } :=
    ⟨{ h.sound with warning := fun _ => running }, h.configured⟩
  exact warned.of_view (State.sound_timerView ..)

/-- R133, R185, R186: an accepted CONFIGURE settles every timer by the record now in force. -/
theorem takeConfigure (h : TimersHeld s) (p : Params) : TimersHeld (s.takeConfigure p) := by
  have first : (!s.configured) = true → s.drc.driveState = .unconfigured := by
    intro hc
    by_contra hd
    simp [h.configured hd] at hc
  have band := BandSound.configureDrc (s := { s with params := storedParams p, configured := true }) h.band first
  exact ⟨.settle (band.of_view (State.configureSdu_bandView _ _)) (State.configureSdu_buttons _ _),
    fun _ => (s.takeConfigure_frame p).2.2.2.2.2.2⟩

/-- No event of a block breaks it. -/
theorem event (h : TimersHeld s) (e : Event s s') : TimersHeld s' := by
  cases e with
  | nothing => exact h
  | tachoEdge ax =>
    simp only [State.tachoEdge]
    split
    · split <;> exact h.settleAxle (by simp) (by simp) (by simp) (by simp)
    · exact h
  | noEdgeExpiry ax =>
    simp only [State.noEdgeExpiry]
    split
    · exact h.settleAxle rfl rfl rfl rfl
    · exact h
  | sensorOpen ax =>
    simp only [State.sensorOpen]
    split
    · exact h
    · exact h.settleAxle (by simp) (by simp) (by simp) (by simp)
  | sensorOk ax =>
    simp only [State.sensorOk]
    split
    · exact h.settleAxle (by simp) (by simp) (by simp) (by simp)
    · exact h
  | plausibilityExpiry ax =>
    simp only [State.plausibilityExpiry]
    split
    · exact h.settleAxle (by simp) (by simp) (by simp) (by simp)
    · exact h
  | controlInterval => exact h.controlInterval
  | handleRise => exact h.of_view rfl
  | handleFall =>
    refine h.of_view ?_
    unfold Drc.handleFall
    split <;> rfl
  | reverser r =>
    obtain ⟨m, hv, e | e⟩ := s.takeReverser_cases r
    · rw [e]; exact (h.of_view hv).resettle
    · rw [e]; exact (h.of_view hv).trip _
  | deadman pressed => exact h.deadman pressed
  | detentClose =>
    unfold State.closeDetent
    split
    · exact h.resettle
    · exact (h.of_view (s' := { s with drc := { s.drc with detent := true } }) rfl).trip _
  | detentOpen => exact h.of_view rfl
  | vigilanceWarning due => exact h.vigilanceWarning due
  | vigilanceTrip => exact h.trip _
  | demandPeriod =>
    refine h.of_view ?_
    unfold State.demandPeriod
    split <;> rfl
  | emergencyStop tag =>
    unfold State.emergencyStop
    split
    · exact h.of_view rfl
    · exact (h.trip _).of_view rfl
  | selectorRelease sel => exact h.of_view rfl
  | buttonInput i raw => exact h.setButton ((h.buttons i).input _ _)
  | settleButton i =>
    have settled := h.setButton (s.sdu.buttons[i].settleTimers_timed s.params i s.now)
    simp only [State.settleButton]
    split
    · split
      · exact (h.setButton (Conditioner.settleTimers_timed ..)).of_view (State.takePress_timerView _ _)
      · exact h.setButton (Conditioner.settleTimers_timed ..)
    · exact h
  | holdButton i =>
    simp only [State.holdButton]
    split
    · exact (h.setButton (Conditioner.settleTimers_timed ..)).of_view rfl
    · exact h
  | recoverButton i =>
    simp only [State.recoverButton]
    split
    · exact (h.setButton (Conditioner.settleTimers_timed ..)).of_view rfl
    · exact h
  | releasePress side => exact h.of_view (s.doorPress_timerView _ (State.releaseRequest_timerView · side))
  | closePress => exact h.of_view (s.doorPress_timerView _ State.closeRequest_timerView)
  | hornChange p | pedalChange p | stepEnd ch | tonePeriodEnd ch => exact h.of_view (by simp [State.timerView])
  | _ => exact h.of_view (by simp)

/-- R132: a button that is isolated or restored has its timers settled. -/
theorem buttonIsolate (h : TimersHeld s) (index action : Byte) : TimersHeld (s.buttonIsolate index action).1 := by
  unfold State.buttonIsolate
  split
  · dsimp only
    split
    · unfold State.isolateButton
      dsimp only
      split
      · exact (h.setButton (Conditioner.settleTimers_timed ..)).of_view rfl
      · exact h.setButton (Conditioner.settleTimers_timed ..)
    · exact h.setButton (Conditioner.settleTimers_timed ..)
    · exact h
  · exact h

/-- R181: RESTART reaches no timer that runs by conditions. -/
theorem restartCommand (h : TimersHeld s) : TimersHeld s.restartCommand.1 := by
  refine h.of_view ?_
  unfold State.restartCommand
  split
  · have route : s.dropLinkEntries.restartRoute.timerView = s.timerView := by
      unfold State.restartRoute
      dsimp only
      split
      · exact State.lift_timerView _ _
      · rfl
    exact route
  · rfl

/-- No command of the cab link breaks it. -/
theorem runCommand (h : TimersHeld s) (c : LinkCommand) : TimersHeld (s.runCommand c).1 := by
  cases c with
  | configure p =>
    change TimersHeld (s.configure p).1
    rcases s.configure_cases p with e | e <;> rw [e]
    · exact h
    · exact h.takeConfigure p
  | junctionLoad load => exact h.of_view (by rw [State.runCommand, s.junctionLoad_frame]; rfl)
  | junctionDrop id => exact h.of_view (by rw [State.runCommand, s.junctionDrop_frame]; rfl)
  | routeAppend id sel => exact h.of_view (by rw [State.runCommand, s.routeAppend_frame]; rfl)
  | routeClear => exact h.of_view rfl
  | restrictPost post => exact h.of_view (s.restrictPost_timerView post)
  | restrictLift owner id => exact h.of_view (s.restrictLift_timerView owner id)
  | soundStart ch p n m => exact h.of_view (by simp [State.runCommand, State.timerView])
  | soundStop ch => exact h.of_view (by simp [State.runCommand, State.timerView])
  | patternLoad load => exact h.of_view (by rw [State.runCommand, s.patternLoad_frame]; rfl)
  | stopClear target => exact h.of_view (by rw [State.runCommand, s.stopClear_frame]; rfl)
  | buttonIsolate i a => exact h.buttonIsolate i a
  | reportRate r => exact h.of_view (by rw [State.runCommand, s.reportRate_frame]; rfl)
  | faultsRead n => exact h.of_view (by rw [State.runCommand, s.faultsRead_frame]; rfl)
  | restart => exact h.restartCommand
  | _ => exact h

theorem kept : Kept TimersHeld where
  time _ _ h := h.of_view rfl
  clp _ _ h := h.of_view rfl
  event _ _ e h := h.event e
  run c _ h := h.runCommand c

end TimersHeld

/-- R8, R50, R58, R130, R131: after POWER_ON no timer that runs by conditions runs, and none of the conditions stands. -/
theorem TimersSound.poweredOn (now : Nat) (q : List Instr) (p : PowerInputs) :
    TimersSound (State.poweredOn now q p) where
  plausibility ax := by
    obtain ⟨-, -, -, -, timer, -⟩ := AxleChannel.poweredOn_spec (if ax = .A then p.openA else p.openB)
    obtain ⟨other, -⟩ := AxleChannel.poweredOn_idle (if otherAxle ax = .A then p.openA else p.openB)
    rw [State.poweredOn_channel, State.poweredOn_channel, timer]
    simp [plausible, other]
  vigilance := by
    rw [vigilanceRuns_unconfigured rfl]; rfl
  warning := nofun
  band := ⟨nofun, fun h => absurd rfl h⟩
  calm _ := rfl
  hold i := by rw [State.poweredOn_button]; rfl
  recovery i := by rw [State.poweredOn_button]; rfl

end Sys2Proof.Machine

open Sys2Proof Sys2Proof.Machine

/-- Settles O10: `TimersHeld` is kept by every command but POWER_ON, after which the timers are sound anyway. -/
theorem timersKept : Obligations.TimersKept := by
  intro s s' sound safe hstep
  unfold step at hstep
  split at hstep
  · cases hstep
    exact sound
  · next c rest _ =>
    have held : TimersHeld { s with pending := rest } :=
      TimersHeld.of_view (s := s) ⟨sound, safe.configured.mpr⟩ rfl
    by_cases hc : ∃ t inp, c = .powerOn t inp
    · obtain ⟨t, inp, rfl⟩ := hc
      rw [exec_powerOn] at hstep
      cases hstep
      exact .poweredOn _ _ _
    · obtain ⟨m, he, hm⟩ := TimersHeld.kept.exec (fun t inp e => hc ⟨t, inp, e⟩) held
      rw [he] at hstep
      cases hstep
      exact hm.sound

end

section
/-! What an event of one axle does (R1 to R15): the channel that a taken edge leaves, the distance it counts, the fault set,
and what the settling of the timers makes of it. -/

namespace Sys2Proof.Machine

/-! ## The settling after an axle event -/

theorem State.settle_channel (m : State) (ax : Axle) : m.settle.amu.channel ax =
    { m.amu.channel ax with plausTimer := (m.settle.amu.channel ax).plausTimer } := by
  rw [m.settle_spec.1 ax]

theorem implausible_of_cls {u : Int} {own other : AxleChannel} (h : own.cls ≠ .zero) : plausible u own other = false := by
  simp [plausible, h]

/-- R8: the plausibility timer of an axle that is not ZERO does not run. -/
theorem State.settle_plausTimer_none {m : State} {ax : Axle} (h : (m.amu.channel ax).cls ≠ .zero) :
    (m.settle.amu.channel ax).plausTimer = none := by
  rw [m.settle_spec.1 ax, implausible_of_cls h]
  rfl

theorem Amu.setChannel_axles (a : Amu) (ax : Axle) (c : AxleChannel) :
    a.setChannel ax c = { a with a := (a.setChannel ax c).a, b := (a.setChannel ax c).b } := by cases ax <;> rfl

@[simp] theorem Amu.setChannel_direction (a : Amu) (ax : Axle) (c : AxleChannel) :
    (a.setChannel ax c).direction = a.direction := by cases ax <;> rfl

@[simp] theorem Amu.setChannel_track (a : Amu) (ax : Axle) (c : AxleChannel) :
    (a.setChannel ax c).track = a.track := by cases ax <;> rfl

/-- An event that replaces one channel, tells the fault set and settles: its frame, and that the settling moves nothing
of the AMU but the plausibility timers. -/
theorem State.settle_setChannel {t : Nat} {ax : Axle} {s m : State} (c : AxleChannel) (clp : Clp)
    (eq : m = { s with now := max s.now t, amu := s.amu.setChannel ax c, clp := clp })
    (own : c.cls = .zero → c.plausTimer = (s.amu.channel ax).plausTimer) :
    AxleFrame t ax s m.settle ∧ m.settle.amu = { s.amu with a := m.settle.amu.a, b := m.settle.amu.b } ∧
      m.settle.amu.channel ax = { c with plausTimer := (m.settle.amu.channel ax).plausTimer } := by
  refine ⟨.of_settle _ clp eq (by simp) (Amu.channel_setChannel_other ..) fun runs => ?_, ?_, ?_⟩
  · rw [Amu.channel_setChannel] at runs ⊢
    by_cases zero : c.cls = .zero
    · exact own zero
    · rw [implausible_of_cls zero] at runs
      cases runs
  · rw [m.settle_spec.2.1, eq, Amu.setChannel_axles]
  · rw [m.settle_channel, eq, Amu.channel_setChannel]

/-! ## The fault set -/

theorem Clp.clearFault_inactive (code : FaultCode) (index : Nat) (c : Clp) :
    ∀ e ∈ (c.clearFault code index).faults, e.code = code → e.index = index → e.active = false := by
  intro e he hc hi
  obtain ⟨e₀, -, rfl⟩ := List.mem_map.mp he
  by_cases told : e₀.isFor code index = true
  · simp only [if_pos told]
  · simp only [if_neg told] at hc hi
    exact absurd (by simp [FaultEntry.isFor, hc, hi]) told

/-- R179: a latch that cannot be recorded sets the overflow flag. -/
theorem Clp.latch_overflow {code : FaultCode} {index odometer : Nat} {c : Clp}
    (room : ¬ (c.faults.length < 32 ∨ ∃ e ∈ c.faults, e.code = code ∧ e.index = index)) :
    (c.latch code index odometer).overflow = true := by
  obtain ⟨full, absent⟩ := not_or.mp room
  have unheld : ¬ c.faults.any (FaultEntry.isFor code index) = true := by
    simpa [FaultEntry.isFor] using absent
  simp [Clp.latch, unheld, Config.faultSlots, full]

theorem State.tellLeft_eq (ax : Axle) (before : AxleClass) (s : State) :
    s.tellLeft ax before = { s with clp := (s.tellLeft ax before).clp } := by
  unfold State.tellLeft; split <;> rfl

theorem State.latchEntered_eq (ax : Axle) (before : AxleClass) (s : State) :
    s.latchEntered ax before = { s with clp := (s.latchEntered ax before).clp } := by
  unfold State.latchEntered; split <;> rfl

/-- R10: an axle that has left FAULT has no active AXLE_FAULT. -/
theorem State.tellLeft_settle_inactive {ax : Axle} {before : AxleClass} {s : State} (was : before = .fault)
    (left : (s.amu.channel ax).cls ≠ .fault) :
    ∀ e ∈ (s.tellLeft ax before).settle.clp.faults, e.code = .axleFault → e.index = axleIndex ax → e.active = false := by
  rw [State.settle_spec _ |>.2.2.2.1, State.tellLeft, if_pos ⟨was, left⟩]
  exact Clp.clearFault_inactive _ _ _

/-- R10: an axle that enters FAULT latches AXLE_FAULT, where the set has room. -/
theorem State.latchEntered_settle_latched {ax : Axle} {before : AxleClass} {s : State} (was : before ≠ .fault)
    (entered : (s.amu.channel ax).cls = .fault) (room : HasRoom .axleFault (axleIndex ax) s) :
    Latched .axleFault (axleIndex ax) (s.latchEntered ax before).settle := by
  rw [Latched, State.settle_spec _ |>.2.2.2.1, State.latchEntered, if_pos ⟨was, entered⟩]
  exact Clp.latch_holds _ _ _ _ room

theorem State.latchEntered_settle_overflow {ax : Axle} {before : AxleClass} {s : State} (was : before ≠ .fault)
    (entered : (s.amu.channel ax).cls = .fault) (full : ¬ HasRoom .axleFault (axleIndex ax) s) :
    (s.latchEntered ax before).settle.clp.overflow = true := by
  rw [State.settle_spec _ |>.2.2.2.2.1, State.latchEntered, if_pos ⟨was, entered⟩]
  exact Clp.latch_overflow full

theorem State.latchEntered_settle_faults {ax : Axle} {before : AxleClass} {s : State} (was : before = .fault) :
    (s.latchEntered ax before).settle.clp.faults = s.clp.faults := by
  rw [State.settle_spec _ |>.2.2.2.1, State.latchEntered, if_neg (by simp [was])]

/-! ## The channel after an edge -/

section
variable {p : Params} {circ now v : Nat} {c other : AxleChannel} {w : Window}

/-- R1: which edges are taken. -/
theorem AxleChannel.takes_iff :
    c.takes now = true ↔ c.healthOpen = false ∧ ∀ e, c.lastEdge = some e → e + 50 ≤ now := by
  unfold AxleChannel.takes
  cases c.lastEdge with
  | none => simp
  | some e =>
    have late : decide (e + Config.edgeFilter ≤ now) = true ↔ e + 50 ≤ now := decide_eq_true_iff
    simp [late]

/-- R2, R3: the channel with a taken edge at the moment `now` that opens a window. -/
def AxleChannel.opens (now : Nat) (c : AxleChannel) : AxleChannel :=
  { c with lastEdge := some now, noEdge := some now, window := some { opened := now, count := 0 } }

theorem AxleChannel.edge_opens (closed : c.window = none) : c.edge p circ now other = c.opens now := by
  simp [AxleChannel.edge, AxleChannel.opens, closed]

theorem AxleChannel.edge_closes (window : c.window = some w) (full : 16 ≤ w.count + 1 ∨ 250000 ≤ now - w.opened) :
    c.edge p circ now other = (c.opens now).evaluate p (windowSpeed (w.count + 1) circ (now - w.opened)) other := by
  simp only [AxleChannel.edge, window, Config.windowCount, Config.windowLimit]
  exact if_pos full

theorem AxleChannel.edge_counts (window : c.window = some w) (partly : ¬ (16 ≤ w.count + 1 ∨ 250000 ≤ now - w.opened)) :
    c.edge p circ now other = { c with lastEdge := some now, noEdge := some now
                                       window := some { opened := w.opened, count := w.count + 1 } } := by
  simp only [AxleChannel.edge, window, Config.windowCount, Config.windowLimit]
  exact if_neg partly

/-! ## The judgement of a closed window (R4, R9, R10) -/

theorem AxleChannel.evaluate_sound (sound : c.cls ≠ .fault) :
    c.evaluate p v other = { c with speed := v, cls := .good } := by
  simp [AxleChannel.evaluate, sound]

theorem AxleChannel.evaluate_recovers (fault : c.cls = .fault) (cause : c.plausCause = true)
    (agree : agrees p v other = true) (last : 4 ≤ c.recovery + 1) : c.evaluate p v other =
      { c with speed := v, cls := .good, plausCause := false, recovery := 0, plausTimer := none } := by
  simp [AxleChannel.evaluate, fault, cause, agree, Config.recoveryWindows, last]

theorem AxleChannel.evaluate_counts (fault : c.cls = .fault) (cause : c.plausCause = true)
    (agree : agrees p v other = true) (early : ¬ 4 ≤ c.recovery + 1) : c.evaluate p v other =
      { c with speed := v, recovery := c.recovery + 1 } := by
  simp [AxleChannel.evaluate, fault, cause, agree, Config.recoveryWindows, early]

theorem AxleChannel.evaluate_disagrees (fault : c.cls = .fault) (cause : c.plausCause = true)
    (disagree : ¬ agrees p v other = true) : c.evaluate p v other = { c with speed := v, recovery := 0 } := by
  simp [AxleChannel.evaluate, fault, cause, disagree]

theorem AxleChannel.evaluate_faulty (fault : c.cls = .fault) (sensor : c.plausCause ≠ true) :
    c.evaluate p v other = c := by
  simp [AxleChannel.evaluate, fault, sensor]

/-- R9: the condition of agreement. -/
theorem agrees_iff : agrees p v other = true ↔ other.cls = .good ∧
    max v other.speed - min v other.speed ≤ max p.slipMin.toNat (other.speed * p.slipPermille.toNat / 1000) := by
  simp [agrees, slipThreshold]

/-- R4: the speed of a window that an axle which takes it has closed. -/
theorem AxleChannel.evaluate_speed (takes : c.cls ≠ .fault ∨ c.plausCause = true) : (c.evaluate p v other).speed = v := by
  unfold AxleChannel.evaluate
  (repeat' split) <;> simp_all

/-- What the judgement of a window leaves alone. -/
theorem AxleChannel.evaluate_frame :
    c.evaluate p v other = { c with speed := (c.evaluate p v other).speed, cls := (c.evaluate p v other).cls
                                    plausCause := (c.evaluate p v other).plausCause
                                    recovery := (c.evaluate p v other).recovery
                                    plausTimer := (c.evaluate p v other).plausTimer } := by
  unfold AxleChannel.evaluate
  (repeat' split) <;> rfl

theorem AxleChannel.evaluate_plausTimer (zero : (c.evaluate p v other).cls = .zero) :
    (c.evaluate p v other).plausTimer = c.plausTimer := by
  unfold AxleChannel.evaluate at zero ⊢
  (repeat' split at zero) <;> simp_all

end

/-! ## A taken edge -/

/-- The channel of the axle after a taken edge, before the timers settle. -/
def State.edgeChannel (ax : Axle) (s : State) : AxleChannel :=
  (s.amu.channel ax).edge s.params (circumference s.params ax) s.now (s.amu.channel (otherAxle ax))

/-- The AMU after a taken edge, before the timers settle. -/
def State.edgeAmu (ax : Axle) (s : State) : Amu :=
  if s.amu.odometerAxle = some ax then
    (s.amu.setChannel ax (s.edgeChannel ax)).count (circumference s.params ax)
      (edgeDirection s.drc.reverser s.amu.direction)
  else s.amu.setChannel ax (s.edgeChannel ax)

theorem State.edgeAmu_channel (ax : Axle) (s : State) : (s.edgeAmu ax).channel ax = s.edgeChannel ax := by
  unfold State.edgeAmu; split <;> cases ax <;> rfl

theorem State.edgeAmu_other (ax : Axle) (s : State) :
    (s.edgeAmu ax).channel (otherAxle ax) = s.amu.channel (otherAxle ax) := by
  unfold State.edgeAmu; split <;> cases ax <;> rfl

theorem State.edgeAmu_direction (ax : Axle) (s : State) : (s.edgeAmu ax).direction = s.amu.direction := by
  unfold State.edgeAmu; split <;> cases ax <;> rfl

/-- A taken edge: the AMU moves, the fault set is told, and the timers settle. -/
theorem State.tachoEdge_taken {ax : Axle} {s : State} (taken : (s.amu.channel ax).takes s.now = true) :
    s.tachoEdge ax = (State.tellLeft ax (s.amu.channel ax).cls { s with amu := s.edgeAmu ax }).settle := by
  simp only [State.tachoEdge, if_pos taken, State.edgeAmu]
  split <;> rfl

theorem State.tachoEdge_ignored {ax : Axle} {s : State} (ignored : ¬ (s.amu.channel ax).takes s.now = true) :
    s.tachoEdge ax = s := by
  simp only [State.tachoEdge, if_neg ignored]

/-- The edge of an axle changes its plausibility timer only as it becomes GOOD. -/
theorem State.edgeChannel_plausTimer {ax : Axle} {s : State} (zero : (s.edgeChannel ax).cls = .zero) :
    (s.edgeChannel ax).plausTimer = (s.amu.channel ax).plausTimer := by
  unfold State.edgeChannel at zero ⊢
  cases window : (s.amu.channel ax).window with
  | none => rw [AxleChannel.edge_opens window]; rfl
  | some w =>
    by_cases full : 16 ≤ w.count + 1 ∨ 250000 ≤ s.now - w.opened
    · rw [AxleChannel.edge_closes window full] at zero ⊢
      exact AxleChannel.evaluate_plausTimer zero
    · rw [AxleChannel.edge_counts window full]

section
variable {ax : Axle} {s : State} (taken : (s.amu.channel ax).takes s.now = true)
include taken

theorem State.tachoEdge_channel : (s.tachoEdge ax).amu.channel ax =
    { s.edgeChannel ax with plausTimer := ((s.tachoEdge ax).amu.channel ax).plausTimer } := by
  rw [State.tachoEdge_taken taken, State.settle_channel]
  simp only [State.tellLeft_frame, State.edgeAmu_channel]

theorem State.tachoEdge_odometer_eq : (s.tachoEdge ax).amu.odometer = (s.edgeAmu ax).odometer := by
  rw [State.tachoEdge_taken taken, State.settle_odometer]
  simp only [State.tellLeft_frame]

theorem State.tachoEdge_track_eq : (s.tachoEdge ax).amu.track = (s.edgeAmu ax).track := by
  rw [State.tachoEdge_taken taken, State.settle_spec _ |>.2.1]
  simp only [State.tellLeft_frame]

end

theorem State.tachoEdge_axleFrame {t : Nat} {ax : Axle} {s : State}
    (taken : (s.amu.channel ax).takes (max s.now t) = true) : AxleFrame t ax s ((s.atTime t).tachoEdge ax) := by
  rw [State.tachoEdge_taken (s := s.atTime t) taken, State.tellLeft_eq]
  refine .of_settle ((s.atTime t).edgeAmu ax) _ rfl (State.edgeAmu_direction ..) (State.edgeAmu_other ..) fun runs => ?_
  rw [State.edgeAmu_channel] at runs ⊢
  by_cases zero : ((s.atTime t).edgeChannel ax).cls = .zero
  · exact State.edgeChannel_plausTimer zero
  · rw [implausible_of_cls zero] at runs
    cases runs

end Sys2Proof.Machine
end

section
/-! The obligations of the axle measurement: O11 to O15. -/

namespace Sys2Proof.Machine

/-! ## The standstill state (R11) -/

theorem Axle.forall_iff {p : Axle → Prop} : (∀ ax, p ax) ↔ p .A ∧ p .B :=
  ⟨fun h => ⟨h .A, h .B⟩, fun h ax => match ax with | .A => h.1 | .B => h.2⟩

theorem Axle.exists_iff {p : Axle → Prop} : (∃ ax, p ax) ↔ p .A ∨ p .B := by
  constructor
  · rintro ⟨_ | _, h⟩
    · exact .inl h
    · exact .inr h
  · rintro (h | h)
    · exact ⟨.A, h⟩
    · exact ⟨.B, h⟩

/-- R11, over the nine pairs of classes. -/
theorem standstillOf_iff (x y : AxleClass) :
    (standstillOf x y = .standstill ↔
      (x ≠ .fault ∨ y ≠ .fault) ∧ (x ≠ .fault → x = .zero) ∧ (y ≠ .fault → y = .zero)) ∧
    (standstillOf x y = .moving ↔ x = .good ∨ y = .good) ∧
    (standstillOf x y = .unknown ↔ x = .fault ∧ y = .fault) := by
  cases x <;> cases y <;> decide

/-- Settles O15, from the table of the pairs of classes. -/
theorem standstillState : Obligations.StandstillState := by
  intro a
  simp only [Axle.forall_iff, Axle.exists_iff, Amu.channel]
  obtain ⟨standstill, moving, unknown⟩ := standstillOf_iff a.a.cls a.b.cls
  exact ⟨standstill, moving, unknown, decide_eq_true_iff⟩

/-! ## Edges (R1 to R4, R9 to R15) -/

theorem exec_tachoEdge (t : Nat) (ax : Axle) (s : State) :
    exec (.tachoEdge t ax) s = .next ((s.atTime t).tachoEdge ax) := rfl

/-- Settles O11, by the window that the edge finds: none, one that it closes, one that it counts in. -/
theorem edgeTaken : Obligations.EdgeTaken := by
  refine ⟨?_, ?_⟩
  · rintro t now ax s c rfl rfl healthy spaced
    have taken := AxleChannel.takes_iff.mpr ⟨healthy, spaced⟩
    refine ⟨_, exec_tachoEdge t ax s, State.tachoEdge_axleFrame taken, ?_⟩
    rw [State.tachoEdge_channel (s := s.atTime t) taken]
    simp only [State.edgeChannel, State.atTime]
    cases window : (s.amu.channel ax).window with
    | none =>
      rw [AxleChannel.edge_opens window]
      simp [AxleChannel.opens, healthy]
    | some w =>
      by_cases full : 16 ≤ w.count + 1 ∨ 250000 ≤ max s.now t - w.opened
      · rw [AxleChannel.edge_closes window full, AxleChannel.evaluate_frame]
        simp [AxleChannel.opens, healthy]
        omega
      · rw [AxleChannel.edge_counts window full]
        simp [healthy]
        omega
  · intro t ax s ignored
    rw [exec_tachoEdge, State.tachoEdge_ignored]
    · rfl
    · intro taken
      obtain ⟨healthy, spaced⟩ := AxleChannel.takes_iff.mp taken
      rcases ignored with isOpen | ⟨e, last, early⟩
      · exact absurd (healthy.symm.trans isOpen) (by decide)
      · exact absurd (spaced e last) (by simpa [State.atTime] using early)

/-- R4: the channel that an edge leaves which closes a window. -/
theorem State.edgeChannel_closes {t : Nat} {ax : Axle} {s : State} {w : Window}
    (window : (s.amu.channel ax).window = some w) (full : 16 ≤ w.count + 1 ∨ 250000 ≤ max s.now t - w.opened) :
    ((s.atTime t).edgeChannel ax) = ((s.amu.channel ax).opens (max s.now t)).evaluate s.params
      (min 3000 ((w.count + 1) * circumference s.params ax * 3125 / (2 * (max s.now t - w.opened))))
      (s.amu.channel (otherAxle ax)) :=
  AxleChannel.edge_closes window full

/-- R10: as an axle becomes GOOD from FAULT, its plausibility timer stops and its AXLE_FAULT is no longer active. -/
theorem State.tachoEdge_recovered {ax : Axle} {s : State} (taken : (s.amu.channel ax).takes s.now = true)
    (fault : (s.amu.channel ax).cls = .fault) (good : (s.edgeChannel ax).cls = .good) :
    ((s.tachoEdge ax).amu.channel ax).plausTimer = none ∧
      ∀ e ∈ (s.tachoEdge ax).clp.faults, e.code = .axleFault → e.index = axleIndex ax → e.active = false := by
  rw [State.tachoEdge_taken taken]
  exact ⟨State.settle_plausTimer_none (by simp [State.edgeAmu_channel, good]),
    State.tellLeft_settle_inactive fault (by simp [State.edgeAmu_channel, good])⟩

/-- Settles O12, by the class of the axle, the agreement of the window and the run of agreeing windows. -/
theorem Amu.windowSpeed : Obligations.WindowSpeed := by
  refine ⟨?_, ?_⟩
  · rintro t now v ax s c w rfl rfl healthy spaced window - full rfl
    have taken := AxleChannel.takes_iff.mpr ⟨healthy, spaced⟩
    refine ⟨_, exec_tachoEdge t ax s, ?_⟩
    rw [State.tachoEdge_channel (s := s.atTime t) taken, State.edgeChannel_closes window full]
    refine ⟨fun sound => ?_, fun _ cause => AxleChannel.evaluate_speed (.inr cause)⟩
    rw [AxleChannel.evaluate_sound (c := AxleChannel.opens _ _) sound]
    exact ⟨rfl, rfl⟩
  · rintro t now v w ax s c win rfl rfl healthy spaced window - full fault cause rfl rfl
    have taken := AxleChannel.takes_iff.mpr ⟨healthy, spaced⟩
    have channel := State.tachoEdge_channel (s := s.atTime t) taken
    have edge := State.edgeChannel_closes window full
    refine ⟨_, exec_tachoEdge t ax s, ?_, ?_⟩
    · rw [channel, edge]
      exact AxleChannel.evaluate_speed (.inr cause)
    · split
      · next agree =>
        split
        · next last =>
          rw [AxleChannel.evaluate_recovers (c := AxleChannel.opens _ _) fault cause (agrees_iff.mpr agree) last] at edge
          have told := State.tachoEdge_recovered (s := s.atTime t) taken fault (by rw [edge])
          rw [edge] at channel
          exact ⟨by rw [channel], by rw [channel], by rw [channel], told⟩
        · next early =>
          rw [AxleChannel.evaluate_counts (c := AxleChannel.opens _ _) fault cause (agrees_iff.mpr agree) early] at edge
          rw [channel, edge]
          exact ⟨cause, fault, rfl⟩
      · next disagree =>
        rw [AxleChannel.evaluate_disagrees (c := AxleChannel.opens _ _) fault cause (mt agrees_iff.mp disagree)] at edge
        rw [channel, edge]
        exact ⟨cause, fault, rfl⟩

/-! ## Distance (R12 to R15) -/

/-- R12: the odometer axle. -/
theorem Amu.odometerAxle_iff (a : Amu) (ax : Axle) : a.odometerAxle = some ax ↔
    (ax = .B ∧ a.b.cls ≠ .fault) ∨ (ax = .A ∧ a.b.cls = .fault ∧ a.a.cls ≠ .fault) := by
  unfold Amu.odometerAxle
  cases a.b.cls <;> cases a.a.cls <;> cases ax <;> decide

/-- R13: the direction of an edge, by the reverser and at NEUTRAL by the memory. -/
theorem edgeDirection_eq {r : Reverser} {memory d : Direction}
    (h : r = (match d with | .forward => .forward | .reverse => .reverse) ∨ r = .neutral ∧ memory = d) :
    edgeDirection r memory = d := by
  rcases h with rfl | ⟨rfl, rfl⟩
  · cases d <;> rfl
  · rfl

theorem circumference_lt (p : Params) (ax : Axle) : circumference p ax < 2 ^ 16 := by
  cases ax
  · exact p.circA.isLt
  · exact p.circB.isLt

/-- A circumference is a value of the 38-bit accumulator. -/
theorem toInt_circumference {circ : Nat} (small : circ < 2 ^ 16) : (BitVec.ofNat 38 circ).toInt = circ := by
  rw [BitVec.toInt_eq_toNat_of_lt] <;> rw [BitVec.toNat_ofNat] <;> omega

section
variable {ax : Axle} {s : State}

theorem State.edgeAmu_counts (counts : s.amu.odometerAxle = some ax) : s.edgeAmu ax =
    (s.amu.setChannel ax (s.edgeChannel ax)).count (circumference s.params ax)
      (edgeDirection s.drc.reverser s.amu.direction) :=
  if_pos counts

theorem State.edgeAmu_passes (passes : ¬ s.amu.odometerAxle = some ax) :
    s.edgeAmu ax = s.amu.setChannel ax (s.edgeChannel ax) :=
  if_neg passes

/-- R15: an edge forward adds the circumference to the track position, which wraps. -/
theorem State.edgeAmu_track_forward (counts : s.amu.odometerAxle = some ax)
    (dir : edgeDirection s.drc.reverser s.amu.direction = .forward) :
    (s.edgeAmu ax).track.toInt = (s.amu.track.toInt + circumference s.params ax).bmod (2 ^ 38) := by
  rw [State.edgeAmu_counts counts, dir]
  simp only [Amu.count, Amu.setChannel_track]
  rw [BitVec.toInt_add, toInt_circumference (circumference_lt ..)]

theorem State.edgeAmu_track_reverse (counts : s.amu.odometerAxle = some ax)
    (dir : edgeDirection s.drc.reverser s.amu.direction = .reverse) :
    (s.edgeAmu ax).track.toInt = (s.amu.track.toInt - circumference s.params ax).bmod (2 ^ 38) := by
  rw [State.edgeAmu_counts counts, dir]
  simp only [Amu.count, Amu.setChannel_track]
  rw [BitVec.toInt_sub, toInt_circumference (circumference_lt ..)]

end

/-- Settles O13, by whether the edge is of the odometer axle. -/
theorem edgeDistance : Obligations.EdgeDistance := by
  intro t ax s healthy spaced
  have taken : ((s.atTime t).amu.channel ax).takes (s.atTime t).now = true := AxleChannel.takes_iff.mpr ⟨healthy, spaced⟩
  refine ⟨_, exec_tachoEdge t ax s, ?_⟩
  rw [State.tachoEdge_odometer_eq taken, State.tachoEdge_track_eq taken]
  split
  · next counts =>
    have counts : (s.atTime t).amu.odometerAxle = some ax := (s.amu.odometerAxle_iff ax).mpr counts
    refine ⟨?_, fun dir => ?_, fun dir => ?_⟩
    · rw [State.edgeAmu_counts counts]
      simp [Amu.count, Config.odometerTop, State.atTime]
    · exact State.edgeAmu_track_forward counts (edgeDirection_eq dir)
    · exact State.edgeAmu_track_reverse counts (edgeDirection_eq dir)
  · next passes =>
    rw [State.edgeAmu_passes (s := s.atTime t) (mt (s.amu.odometerAxle_iff ax).mp passes)]
    exact ⟨Amu.setChannel_odometer .., Amu.setChannel_track ..⟩

/-! ## No-edge expiry, sensor health and plausibility expiry (R5 to R8, R10) -/

theorem expired_iff {start : Option Nat} {limit now : Nat} :
    expired start limit now = true ↔ ∃ st, start = some st ∧ st + limit ≤ now := by
  cases start with
  | none => simp [expired]
  | some st => simp [expired]

theorem not_expired {start : Option Nat} {limit now : Nat} (early : ∀ st, start = some st → now < st + limit) :
    ¬ expired start limit now = true := by
  intro due
  obtain ⟨st, running, reached⟩ := expired_iff.mp due
  exact absurd (early st running) (by omega)

section
variable {ax : Axle} {s : State}

theorem State.noEdgeExpiry_due (due : expired (s.amu.channel ax).noEdge Config.noEdgeLimit s.now = true) :
    s.noEdgeExpiry ax = (s.setAxle ax (s.amu.channel ax).noEdges).settle := if_pos due

theorem State.noEdgeExpiry_early (early : ¬ expired (s.amu.channel ax).noEdge Config.noEdgeLimit s.now = true) :
    s.noEdgeExpiry ax = s := if_neg early

theorem State.sensorOpen_healthy (healthy : (s.amu.channel ax).healthOpen = false) : s.sensorOpen ax =
    ((s.setAxle ax (s.amu.channel ax).sensorOpen).latchEntered ax (s.amu.channel ax).cls).settle := by
  simp [State.sensorOpen, healthy]

theorem State.sensorOk_open (isOpen : (s.amu.channel ax).healthOpen = true) : s.sensorOk ax =
    ((s.setAxle ax (s.amu.channel ax).sensorOk).tellLeft ax (s.amu.channel ax).cls).settle := if_pos isOpen

theorem State.plausibilityExpiry_due
    (due : expired (s.amu.channel ax).plausTimer Config.plausibilityLimit s.now = true) : s.plausibilityExpiry ax =
    ((s.setAxle ax (s.amu.channel ax).implausible).latchEntered ax (s.amu.channel ax).cls).settle := if_pos due

theorem State.plausibilityExpiry_early
    (early : ¬ expired (s.amu.channel ax).plausTimer Config.plausibilityLimit s.now = true) :
    s.plausibilityExpiry ax = s := if_neg early

end

/-! The channel after the no-edge expiry and after the return of the sensor health, whatever its plausibility timer. -/

theorem AxleChannel.noEdges_with (c : AxleChannel) (timer : Option Nat) :
    { c.noEdges with plausTimer := timer } = { c with
      window := none, speed := 0, noEdge := none, cls := if c.cls = .good then .zero else c.cls
      recovery := if c.cls = .fault ∧ c.plausCause then 0 else c.recovery, plausTimer := timer } := by
  cases cls : c.cls <;> cases cause : c.plausCause <;> simp [AxleChannel.noEdges, cls, cause]

theorem AxleChannel.sensorOk_with (c : AxleChannel) (timer : Option Nat) :
    { c.sensorOk with plausTimer := timer } = { c with
      healthOpen := false, sensorCause := false, window := none, cls := if c.plausCause then c.cls else .zero
      speed := if c.plausCause then c.speed else 0, recovery := if c.plausCause then 0 else c.recovery
      plausTimer := timer } := by
  cases cause : c.plausCause <;> simp [AxleChannel.sensorOk, cause]

@[simp] theorem AxleChannel.noEdges_plausTimer (c : AxleChannel) : c.noEdges.plausTimer = c.plausTimer := by
  simp only [AxleChannel.noEdges]; (repeat' split) <;> rfl

@[simp] theorem AxleChannel.sensorOk_plausTimer (c : AxleChannel) : c.sensorOk.plausTimer = c.plausTimer := by
  simp only [AxleChannel.sensorOk]; split <;> rfl

/-- R7: without the cause PLAUSIBILITY the axle is ZERO as its sensor health returns. -/
theorem AxleChannel.sensorOk_zero {c : AxleChannel} (sole : c.plausCause = false) : c.sensorOk.cls = .zero := by
  simp [AxleChannel.sensorOk, sole]

theorem State.setAxle_channel (ax : Axle) (c : AxleChannel) (s : State) : (s.setAxle ax c).amu.channel ax = c :=
  Amu.channel_setChannel ..

theorem hasRoom_setAxle (code : FaultCode) (index t : Nat) (ax : Axle) (c : AxleChannel) (s : State) :
    HasRoom code index ((s.atTime t).setAxle ax c) ↔ HasRoom code index s := by
  unfold HasRoom
  exact Iff.rfl

/-- An axle event that enters FAULT: the channel after it stands as set, its plausibility timer stopped. -/
theorem State.settle_setChannel_fault {t : Nat} {ax : Axle} {s m : State} (c : AxleChannel) (clp : Clp)
    (eq : m = { s with now := max s.now t, amu := s.amu.setChannel ax c, clp := clp }) (fault : c.cls = .fault)
    (stopped : c.plausTimer = none) :
    AxleFrame t ax s m.settle ∧ m.settle.amu = { s.amu with a := m.settle.amu.a, b := m.settle.amu.b } ∧
      m.settle.amu.channel ax = c := by
  obtain ⟨frame, amu, channel⟩ := State.settle_setChannel c clp eq (by simp [fault])
  have stop : (m.settle.amu.channel ax).plausTimer = none :=
    State.settle_plausTimer_none (by rw [eq, Amu.channel_setChannel, fault]; decide)
  refine ⟨frame, amu, ?_⟩
  rw [channel, stop, ← stopped]

/-- Settles O14, event by event. -/
theorem axleEvents : Obligations.AxleEvents := by
  refine ⟨?_, ?_, ?_⟩
  · rintro t ax s c rfl
    refine ⟨fun due => ⟨_, rfl, ?_⟩, fun early => congrArg _ (State.noEdgeExpiry_early (not_expired early))⟩
    rw [State.noEdgeExpiry_due (s := s.atTime t) (expired_iff.mpr due)]
    obtain ⟨frame, amu, channel⟩ := State.settle_setChannel (t := t) (ax := ax) (s := s) (s.amu.channel ax).noEdges
      s.clp rfl (fun _ => AxleChannel.noEdges_plausTimer _)
    exact ⟨frame, amu, channel.trans (AxleChannel.noEdges_with ..), State.settle_spec _ |>.2.2.2.1⟩
  · rintro t ax s c rfl
    refine ⟨fun healthy => ⟨_, rfl, ?_⟩, fun isOpen => ⟨_, rfl, ?_⟩⟩
    · rw [State.sensorOpen_healthy (s := s.atTime t) healthy]
      obtain ⟨frame, amu, channel⟩ := State.settle_setChannel_fault (t := t) (ax := ax) (s := s) _ _
        (State.latchEntered_eq ax (s.amu.channel ax).cls ((s.atTime t).setAxle ax (s.amu.channel ax).sensorOpen)) rfl rfl
      have entered := congrArg AxleChannel.cls ((s.atTime t).setAxle_channel ax (s.amu.channel ax).sensorOpen)
      have room := hasRoom_setAxle .axleFault (axleIndex ax) t ax (s.amu.channel ax).sensorOpen s
      exact ⟨frame, amu, channel,
        fun sound space => State.latchEntered_settle_latched sound entered (room.mpr space),
        fun sound full => State.latchEntered_settle_overflow sound entered (mt room.mp full),
        State.latchEntered_settle_faults⟩
    · rw [State.sensorOk_open (s := s.atTime t) isOpen]
      obtain ⟨frame, amu, channel⟩ := State.settle_setChannel (t := t) (ax := ax) (s := s) (s.amu.channel ax).sensorOk _
        (State.tellLeft_eq ax (s.amu.channel ax).cls ((s.atTime t).setAxle ax (s.amu.channel ax).sensorOk))
        (fun _ => AxleChannel.sensorOk_plausTimer _)
      refine ⟨frame, amu, channel.trans (AxleChannel.sensorOk_with ..),
        fun fault cause => State.tellLeft_settle_inactive fault ?_⟩
      rw [State.setAxle_channel, AxleChannel.sensorOk_zero (c := (s.atTime t).amu.channel ax) cause]
      decide
  · rintro t ax s c rfl
    refine ⟨fun due => ⟨_, rfl, ?_⟩, fun early => congrArg _ (State.plausibilityExpiry_early (not_expired early))⟩
    rw [State.plausibilityExpiry_due (s := s.atTime t) (expired_iff.mpr due)]
    obtain ⟨frame, amu, channel⟩ := State.settle_setChannel_fault (t := t) (ax := ax) (s := s) _ _
      (State.latchEntered_eq ax (s.amu.channel ax).cls ((s.atTime t).setAxle ax (s.amu.channel ax).implausible)) rfl rfl
    have entered := congrArg AxleChannel.cls ((s.atTime t).setAxle_channel ax (s.amu.channel ax).implausible)
    exact ⟨frame, amu, channel, fun sound space => State.latchEntered_settle_latched sound entered
      ((hasRoom_setAxle ..).mpr space)⟩

end Sys2Proof.Machine
end

section
/-! O16: the effective ceiling (R31). -/

namespace Sys2Proof.Machine

/-- R31: what one entry makes of a ceiling. -/
theorem effectiveCeiling_one (v : Nat) (e : Entry) : effectiveCeiling v [e] =
    if e.phase = .active ∧ e.kind = .hold then 0
    else if e.phase = .active ∧ e.kind = .ceiling then min v e.ceiling else v := by
  obtain ⟨kind, ceiling, reason, start, stop, phase⟩ := e
  cases phase <;> cases kind <;> rfl

/-- R31: the entries bear on the ceiling one after another. -/
theorem effectiveCeiling_cons (v : Nat) (e : Entry) (es : List Entry) :
    effectiveCeiling v (e :: es) = effectiveCeiling (effectiveCeiling v [e]) es := rfl

theorem le_effectiveCeiling_one {n v : Nat} {e : Entry} : n ≤ effectiveCeiling v [e] ↔
    n ≤ v ∧ (e.phase = .active → (e.kind = .hold → n = 0) ∧ (e.kind = .ceiling → n ≤ e.ceiling)) := by
  rw [effectiveCeiling_one]
  split
  · next h => simp only [h.1, h.2]; simp; omega
  · next hold =>
    split
    · next h => simp [h.1, h.2]
    · next ceiling => grind

/-- R31: the speeds that the effective ceiling allows are those that the vehicle maximum and every ACTIVE entry allow.
-/
theorem le_effectiveCeiling {n v : Nat} {es : List Entry} : n ≤ effectiveCeiling v es ↔
    n ≤ v ∧ ∀ e ∈ es, e.phase = .active → (e.kind = .hold → n = 0) ∧ (e.kind = .ceiling → n ≤ e.ceiling) := by
  induction es generalizing v with
  | nil => simp [effectiveCeiling]
  | cons e es ih => rw [effectiveCeiling_cons, ih, le_effectiveCeiling_one, List.forall_mem_cons, and_assoc]

/-- R31: without a HOLD the effective ceiling is one of the ceilings that it is the smallest of. -/
theorem effectiveCeiling_attained {v : Nat} {es : List Entry} (free : ∀ e ∈ es, e.phase = .active → e.kind ≠ .hold) :
    effectiveCeiling v es = v ∨
      ∃ e ∈ es, e.phase = .active ∧ e.kind = .ceiling ∧ effectiveCeiling v es = e.ceiling := by
  induction es generalizing v with
  | nil => exact .inl rfl
  | cons e es ih =>
    rw [List.forall_mem_cons] at free
    obtain ⟨notHold, free⟩ := free
    rw [effectiveCeiling_cons]
    rcases ih free (v := effectiveCeiling v [e]) with whole | ⟨x, mem, active, ceiling, least⟩
    · rw [whole, effectiveCeiling_one, if_neg fun h => notHold h.1 h.2]
      split
      · next h =>
        rcases Nat.le_total v e.ceiling with le | le
        · exact .inl (Nat.min_eq_left le)
        · exact .inr ⟨e, List.mem_cons_self, h.1, h.2, Nat.min_eq_right le⟩
      · exact .inl rfl
    · exact .inr ⟨x, List.mem_cons_of_mem _ mem, active, ceiling, least⟩

/-- R31: the effective ceiling depends on which entries there are, and not on their order. -/
theorem effectiveCeiling_congr {v : Nat} {es es' : List Entry} (same : ∀ e, e ∈ es ↔ e ∈ es') :
    effectiveCeiling v es = effectiveCeiling v es' := by
  refine eq_of_forall_le_iff fun n => ?_
  simp only [le_effectiveCeiling, same]

/-- Settles O16, from the speeds that the effective ceiling allows and the ceiling that it attains. -/
theorem effectiveCeiling_spec : Obligations.EffectiveCeiling := by
  intro vmax es
  obtain ⟨vehicle, entries⟩ := le_effectiveCeiling.mp (Nat.le_refl (effectiveCeiling vmax es))
  refine ⟨?_, fun free => ⟨vehicle, fun e mem active => (entries e mem active).2, effectiveCeiling_attained free⟩, ?_⟩
  · rintro ⟨e, mem, active, hold⟩
    exact (entries e mem active).1 hold
  · exact effectiveCeiling_congr fun e => List.mem_reverse

end Sys2Proof.Machine
end

section
/-! O17: what the posts and lifts at the restriction table write (R21, R22, R24, R25, R29). -/

namespace Sys2Proof.Machine

/-! ## The entries of the restriction table (R20) -/

theorem mem_allSlots (slot : Slot) : slot ∈ allSlots := by
  cases slot with
  | link i => exact (by decide : ∀ i : Fin 6, Slot.link i ∈ allSlots) i
  | _ => decide

theorem Table.mem_entries {t : Table} {e : Entry} : e ∈ t.entries ↔ ∃ slot, t.get slot = some e := by
  simp [Table.entries, mem_allSlots]

/-- R20: an entry of kind INHIBIT or HOLD has the ceiling 0. -/
def Table.Stored (t : Table) : Prop := ∀ e ∈ t.entries, e.kind ≠ .ceiling → e.ceiling = 0

/-- R20: a slot that is emptied, or takes an entry whose ceiling is stored, leaves the table so. -/
theorem Table.Stored.set {t : Table} (h : t.Stored) (slot : Slot) {x : Option Entry}
    (stored : ∀ e, x = some e → e.kind ≠ .ceiling → e.ceiling = 0) : (t.set slot x).Stored := by
  intro e mem
  obtain ⟨at_, held⟩ := Table.mem_entries.mp mem
  by_cases same : at_ = slot
  · subst same
    exact stored e ((t.get_set at_ x).symm.trans held)
  · rw [t.get_set_other _ _ _ same] at held
    exact h e (Table.mem_entries.mpr ⟨at_, held⟩)

theorem storedCeiling_zero {kind : Kind} (ceiling : Nat) (h : kind ≠ .ceiling) : storedCeiling kind ceiling = 0 :=
  if_neg h

/-! ## Posts and lifts -/

/-- R31, R34: the drive once a slot has its new contents: V_ceil is recomputed and V_sup raised to it. -/
def Drc.rewritten (vmax : Nat) (slot : Slot) (x : Option Entry) (d : Drc) : Drc :=
  { d with table := d.table.set slot x, vCeil := effectiveCeiling vmax (d.table.set slot x).entries
           vSup := max d.vSup (effectiveCeiling vmax (d.table.set slot x).entries) }

/-- R29: the drive once an entry has become ACTIVE. -/
def Drc.clipped (e : Entry) (d : Drc) : Drc :=
  { d with u := if e.inhibits ∧ 0 < d.u then 0 else d.u, buffer := if e.inhibits ∧ 0 < d.u then 0 else d.buffer }

theorem State.writeSlot_eq (slot : Slot) (x : Option Entry) (s : State) :
    s.writeSlot slot x = { s with drc := s.drc.rewritten s.params.vehicleMax.toNat slot x } := rfl

theorem State.clip_eq (e : Entry) (s : State) : s.clip e = { s with drc := s.drc.clipped e } := by
  unfold State.clip Drc.clipped
  split <;> rfl

/-- R24, R29, R30: an entry is written, clips a u above 0 where it forbids traction, and is reported. -/
def State.posted (replaced : Bool) (slot : Slot) (e : Entry) (s : State) : State :=
  { s with
    drc := (s.drc.rewritten s.params.vehicleMax.toNat slot (some e)).clipped e
    clp := s.clp.raise (.restriction (.posted replaced) slot e
      (s.drc.rewritten s.params.vehicleMax.toNat slot (some e)).vCeil
      (s.drc.rewritten s.params.vehicleMax.toNat slot (some e)).vSup) }

theorem State.reportEntry_posted (replaced : Bool) (slot : Slot) (e : Entry) (s : State) :
    ((s.writeSlot slot (some e)).clip e).reportEntry (.posted replaced) slot e = s.posted replaced slot e := by
  rw [State.clip_eq, State.writeSlot_eq]
  rfl

/-- R22, R25: a slot is emptied, and its entry as it stood is reported. -/
def State.lifted (slot : Slot) (e : Entry) (s : State) : State :=
  { s with
    drc := s.drc.rewritten s.params.vehicleMax.toNat slot none
    clp := s.clp.raise (.restriction .lifted slot e (s.drc.rewritten s.params.vehicleMax.toNat slot none).vCeil
      (s.drc.rewritten s.params.vehicleMax.toNat slot none).vSup) }

theorem State.reportEntry_lifted (slot : Slot) (e : Entry) (s : State) :
    (s.writeSlot slot none).reportEntry .lifted slot e = s.lifted slot e := rfl

/-- R21: a post of what already stands is without effect. -/
theorem State.post_standing {slot : Slot} {kind : Kind} {ceiling : Nat} {reason : Byte} {s : State} {old : Entry}
    (held : s.drc.table.get slot = some old)
    (same : old.kind = kind ∧ old.ceiling = storedCeiling kind ceiling ∧ old.reason = reason) :
    s.post slot kind ceiling reason = s := by
  simp only [State.post, held]
  exact if_pos same

/-- R21, R30: a post that changes no more than the ceiling of an entry is not reported. -/
theorem State.post_recast {slot : Slot} {kind : Kind} {ceiling : Nat} {reason : Byte} {s : State} {old : Entry}
    (held : s.drc.table.get slot = some old) (changed : old.ceiling ≠ storedCeiling kind ceiling)
    (same : old.kind = kind ∧ old.reason = reason) :
    s.post slot kind ceiling reason =
      { s.posted true slot (internalEntry kind ceiling reason) with clp := s.clp } := by
  simp only [State.post, held]
  rw [if_neg fun h => changed h.2.1, State.clip_eq, State.writeSlot_eq]
  exact if_pos same

/-- R21: every other post is written and reported. -/
theorem State.post_posted {slot : Slot} {kind : Kind} {ceiling : Nat} {reason : Byte} {s : State}
    (changed : ∀ old, s.drc.table.get slot = some old → ¬(old.kind = kind ∧ old.reason = reason)) :
    s.post slot kind ceiling reason =
      s.posted (s.drc.table.get slot).isSome slot (internalEntry kind ceiling reason) := by
  unfold State.post
  cases held : s.drc.table.get slot with
  | none => exact State.reportEntry_posted _ _ _ _
  | some old =>
    have differs := changed old held
    dsimp only
    rw [if_neg fun h => differs ⟨h.1, h.2.2⟩]
    exact (if_neg differs).trans (State.reportEntry_posted _ _ _ _)

theorem State.lift_empty {slot : Slot} {s : State} (held : s.drc.table.get slot = none) : s.lift slot = s := by
  simp only [State.lift, held]

theorem State.lift_held {slot : Slot} {s : State} {e : Entry} (held : s.drc.table.get slot = some e) :
    s.lift slot = s.lifted slot e := by
  simp only [State.lift, held]
  rfl

/-- An internal entry forbids traction by its kind: it is ACTIVE from its post on. -/
theorem internalEntry_inhibits (kind : Kind) (ceiling : Nat) (reason : Byte) :
    (internalEntry kind ceiling reason).inhibits = true ↔ kind ≠ .ceiling :=
  decide_eq_true_iff

/-- Settles O17: a post stands already, changes the ceiling alone, or is written and reported. -/
theorem internalPosts : Obligations.InternalPosts := by
  refine ⟨fun slot kind ceiling reason s e same he => ?_, ?_⟩
  · have he : e = internalEntry kind ceiling reason := he
    subst he
    refine ⟨fun ⟨old, held, stands⟩ => State.post_standing held stands, fun changed recast => ?_⟩
    simp only [← internalEntry_inhibits kind ceiling reason]
    cases same with
    | true =>
      obtain ⟨old, held, equal⟩ := recast.mp rfl
      rw [State.post_recast held (fun h => changed old held ⟨equal.1, h, equal.2⟩) equal]
      exact ⟨rfl, rfl, rfl, rfl, rfl, rfl⟩
    | false =>
      rw [State.post_posted fun old held equal => Bool.false_ne_true (recast.mpr ⟨old, held, equal⟩)]
      exact ⟨rfl, rfl, rfl, rfl, rfl, rfl⟩
  · rintro slot s vc rfl
    exact ⟨State.lift_empty, fun e held => State.lift_held held⟩

end Sys2Proof.Machine
end

section
/-! SUPPORT. A command of the cab link on a ready link (R174), and the restriction commands at their owner (R23 to R25).
-/

namespace Sys2Proof.Machine

/-! ## A command on a ready link -/

/-- R174: on a ready link the reply joins behind the reports that the command's owner has raised. -/
theorem State.command_replied {s m : State} {t : Nat} {kind tag : Byte} {c : LinkCommand} {v : Verdict}
    (ready : LinkReady s) (run : (s.atTime t).runCommand c = (m, v))
    (replies : replyCount m.clp.outbound = replyCount s.clp.outbound) :
    s.command t kind tag c =
      { m with clp := { m.clp with outbound := m.clp.outbound ++ [replyFrame kind tag v] } } := by
  have room : replyCount m.clp.outbound < 8 := by
    have := ready.replies
    omega
  rw [State.command_ready ready, run]
  exact State.pushReply_room kind tag v m room

/-- R174: a command that changes no state but is answered. -/
theorem State.command_answered {s : State} {t : Nat} {kind tag : Byte} {c : LinkCommand} {v : Verdict}
    (ready : LinkReady s) (run : (s.atTime t).runCommand c = (s.atTime t, v)) :
    s.command t kind tag c = s.answered t kind tag v :=
  State.command_replied ready run rfl

/-- A row of the opcode table that is a command of the cab link, and changes no state. -/
theorem exec_answered {i : Instr} {s : State} {t : Nat} {kind tag : Byte} {c : LinkCommand} {v : Verdict}
    (row : exec i s = .next (s.command t kind tag c)) (ready : LinkReady s)
    (run : (s.atTime t).runCommand c = (s.atTime t, v)) : exec i s = .next (s.answered t kind tag v) :=
  row.trans (congrArg _ (State.command_answered ready run))

/-- A row of the opcode table that is a command of the cab link, and takes effect at its owner. -/
theorem exec_replied {i : Instr} {s m : State} {t : Nat} {kind tag : Byte} {c : LinkCommand} {v : Verdict}
    (row : exec i s = .next (s.command t kind tag c)) (ready : LinkReady s)
    (run : (s.atTime t).runCommand c = (m, v)) (replies : replyCount m.clp.outbound = replyCount s.clp.outbound) :
    exec i s = .next { m with clp := { m.clp with outbound := m.clp.outbound ++ [replyFrame kind tag v] } } :=
  row.trans (congrArg _ (State.command_replied ready run replies))

/-! ## The operands of the restriction commands -/

theorem linkSlot_none {b : Byte} (h : b.toNat < 1 ∨ 6 < b.toNat) : linkSlot b = none :=
  dif_neg (by omega)

theorem linkSlot_some {b : Byte} {id : Fin 6} (h : b.toNat = id.val + 1) : linkSlot b = some (.link id) := by
  unfold linkSlot
  rw [dif_pos (by omega)]
  simp only [h, Nat.add_sub_cancel, Fin.eta]

theorem linkSlot_isSome {b : Byte} (h : 1 ≤ b.toNat ∧ b.toNat ≤ 6) : ∃ id : Fin 6, linkSlot b = some (.link id) :=
  ⟨_, dif_pos h⟩

theorem kindOf_eq_some {b : Byte} {k : Kind} : kindOf b = some k ↔
    (b.toNat = 1 ∧ k = .ceiling ∨ b.toNat = 2 ∧ k = .inhibit ∨ b.toNat = 3 ∧ k = .hold) := by
  unfold kindOf
  generalize b.toNat = n
  match n with
  | 0 | 1 | 2 | 3 | n + 4 => simp [eq_comm]

theorem kindOf_none {b : Byte} (h : b.toNat < 1 ∨ 3 < b.toNat) : kindOf b = none := by
  refine Option.eq_none_iff_forall_ne_some.mpr fun k hk => ?_
  have := kindOf_eq_some.mp hk
  omega

theorem kindOf_isSome {b : Byte} (h : 1 ≤ b.toNat ∧ b.toNat ≤ 3) : ∃ k, kindOf b = some k := by
  obtain code | code | code : b.toNat = 1 ∨ b.toNat = 2 ∨ b.toNat = 3 := by omega
  · exact ⟨.ceiling, kindOf_eq_some.mpr (.inl ⟨code, rfl⟩)⟩
  · exact ⟨.inhibit, kindOf_eq_some.mpr (.inr (.inl ⟨code, rfl⟩))⟩
  · exact ⟨.hold, kindOf_eq_some.mpr (.inr (.inr ⟨code, rfl⟩))⟩

theorem kindOf_ceiling {b : Byte} : kindOf b = some .ceiling ↔ b.toNat = 1 := by
  simp [kindOf_eq_some]

/-- R23 check 4. -/
theorem emptyStretch_iff {p : RestrictPost} : emptyStretch p = true ↔
    ∃ a, p.start = some a ∧ ∃ b, p.stop = some b ∧ distance a b ≤ 0 := by
  unfold emptyStretch
  split
  · next ha hb => simp [ha, hb]
  · next h =>
    simp only [Bool.false_eq_true, false_iff]
    rintro ⟨a, ha, b, hb, -⟩
    exact h a b ha hb

/-- R24: the entry is ARMED with its start ahead of the track position, and ACTIVE otherwise. -/
theorem linkEntry_armed {track : Pos} {kind : Kind} {p : RestrictPost} :
    (linkEntry track kind p).phase = .armed ↔ ∃ a, p.start = some a ∧ 0 < distance track a := by
  unfold linkEntry
  cases p.start with
  | none => simp
  | some a => simp

theorem Phase.eq_of_armed_iff {a b : Phase} (h : a = .armed ↔ b = .armed) : a = b := by
  cases a <;> cases b <;> simp_all

/-- R24: the fields of the entry of a RESTRICT_POST fix it. -/
theorem eq_linkEntry {track : Pos} {kind : Kind} {p : RestrictPost} {e : Entry} (he : e.kind = kind)
    (ceiling : e.ceiling = storedCeiling kind p.ceiling.toNat) (reason : e.reason = p.reason)
    (start : e.start = p.start) (stop : e.stop = p.stop)
    (armed : e.phase = .armed ↔ ∃ a, p.start = some a ∧ 0 < distance track a) : e = linkEntry track kind p := by
  have phase := Phase.eq_of_armed_iff (armed.trans (linkEntry_armed (kind := kind)).symm)
  obtain ⟨_, _, _, _, _, _⟩ := e
  simp only at he ceiling reason start stop phase
  rw [phase, he, ceiling, reason, start, stop]
  rfl

/-! ## RESTRICT_POST at its owner (R23, R24) -/

variable {s : State} {p : RestrictPost} {slot : Slot} {kind : Kind}

theorem State.restrictPost_badLink (link : linkSlot p.linkId = none) : s.restrictPost p = (s, .range 1) := by
  simp only [State.restrictPost, link]

theorem State.restrictPost_badKind (link : linkSlot p.linkId = some slot) (code : kindOf p.kind = none) :
    s.restrictPost p = (s, .range 2) := by
  simp only [State.restrictPost, link, code]

theorem State.restrictPost_badCeiling (link : linkSlot p.linkId = some slot) (code : kindOf p.kind = some .ceiling)
    (high : 3000 < p.ceiling.toNat) : s.restrictPost p = (s, .range 3) := by
  simp only [State.restrictPost, link, code]
  exact if_pos ⟨trivial, high⟩

theorem State.restrictPost_badStretch (link : linkSlot p.linkId = some slot) (code : kindOf p.kind = some kind)
    (low : kind = .ceiling → p.ceiling.toNat ≤ 3000) (empty : emptyStretch p = true) :
    s.restrictPost p = (s, .range 4) := by
  simp only [State.restrictPost, link, code]
  rw [if_neg fun h => absurd h.2 (by have := low h.1; omega), if_pos empty]

theorem State.restrictPost_posted (link : linkSlot p.linkId = some slot) (code : kindOf p.kind = some kind)
    (low : kind = .ceiling → p.ceiling.toNat ≤ 3000) (stretch : ¬emptyStretch p = true) :
    s.restrictPost p =
      (s.posted (s.drc.table.get slot).isSome slot (linkEntry s.amu.trackMm kind p),
        .ok (.posted (linkEntry s.amu.trackMm kind p).phase
          (s.drc.rewritten s.params.vehicleMax.toNat slot (some (linkEntry s.amu.trackMm kind p))).vCeil
          (s.drc.rewritten s.params.vehicleMax.toNat slot (some (linkEntry s.amu.trackMm kind p))).vSup)) := by
  simp only [State.restrictPost, link, code, State.reportEntry_posted]
  rw [if_neg fun h => absurd h.2 (by have := low h.1; omega), if_neg stretch]
  rfl

/-- R23, R24: a RESTRICT_POST changes nothing or writes the entry that it carries. -/
theorem State.restrictPost_cases (p : RestrictPost) (s : State) : (s.restrictPost p).1 = s ∨
    ∃ replaced slot kind, (s.restrictPost p).1 = s.posted replaced slot (linkEntry s.amu.trackMm kind p) := by
  cases link : linkSlot p.linkId with
  | none => rw [State.restrictPost_badLink link]; exact .inl rfl
  | some slot =>
    cases code : kindOf p.kind with
    | none => rw [State.restrictPost_badKind link code]; exact .inl rfl
    | some kind =>
      by_cases low : kind = .ceiling → p.ceiling.toNat ≤ 3000
      · by_cases empty : emptyStretch p = true
        · rw [State.restrictPost_badStretch link code low empty]; exact .inl rfl
        · rw [State.restrictPost_posted link code low empty]; exact .inr ⟨_, slot, kind, rfl⟩
      · obtain ⟨rfl, high⟩ := Classical.not_imp.mp low
        rw [State.restrictPost_badCeiling link code (Nat.not_le.mp high)]; exact .inl rfl

/-! ## RESTRICT_LIFT at its owner (R25) -/

theorem State.restrictLift_internal {owner : Byte} (linkId : Byte) (internal : owner.toNat ≤ 2) :
    s.restrictLift owner linkId = (s, .plain .notOwner) := by
  obtain code | code | code : owner.toNat = 0 ∨ owner.toNat = 1 ∨ owner.toNat = 2 := by omega
  all_goals simp only [State.restrictLift, code]

theorem State.restrictLift_unnamed {owner : Byte} (linkId : Byte) (unnamed : 3 < owner.toNat) :
    s.restrictLift owner linkId = (s, .rangeUnnamed 0x0B 1) := by
  unfold State.restrictLift
  generalize owner.toNat = n at unnamed
  match n, unnamed with
  | n + 4, _ => rfl

variable {owner linkId : Byte}

theorem State.restrictLift_badLink (link : owner.toNat = 3) (none : linkSlot linkId = none) :
    s.restrictLift owner linkId = (s, .rangeUnnamed 0x0B 2) := by
  simp only [State.restrictLift, link, none]

theorem State.restrictLift_empty (link : owner.toNat = 3) (named : linkSlot linkId = some slot)
    (held : s.drc.table.get slot = none) : s.restrictLift owner linkId = (s, .plain .notFound) := by
  simp only [State.restrictLift, link, named, held]

theorem State.restrictLift_held {e : Entry} (link : owner.toNat = 3) (named : linkSlot linkId = some slot)
    (held : s.drc.table.get slot = some e) : s.restrictLift owner linkId =
      (s.lifted slot e, .ok (.lifted (s.drc.rewritten s.params.vehicleMax.toNat slot none).vCeil
        (s.drc.rewritten s.params.vehicleMax.toNat slot none).vSup)) := by
  simp only [State.restrictLift, link, named, held]
  rfl

/-- R25: a RESTRICT_LIFT changes nothing or empties an occupied slot. -/
theorem State.restrictLift_cases (owner linkId : Byte) (s : State) : (s.restrictLift owner linkId).1 = s ∨
    ∃ slot e, (s.restrictLift owner linkId).1 = s.lifted slot e := by
  rcases Nat.lt_trichotomy owner.toNat 3 with internal | code | unnamed
  · rw [State.restrictLift_internal linkId (Nat.le_of_lt_succ internal)]; exact .inl rfl
  · cases link : linkSlot linkId with
    | none => rw [State.restrictLift_badLink code link]; exact .inl rfl
    | some slot =>
      cases held : s.drc.table.get slot with
      | none => rw [State.restrictLift_empty code link held]; exact .inl rfl
      | some e => rw [State.restrictLift_held code link held]; exact .inr ⟨slot, e, rfl⟩
  · rw [State.restrictLift_unnamed linkId unnamed]; exact .inl rfl

end Sys2Proof.Machine
end
section
/-! O18: RESTRICT_POST and RESTRICT_LIFT. -/

namespace Sys2Proof.Machine

/-- Reports take no reply's place in the outbound queue. -/
theorem Clp.raise_replies (r : Report) (c : Clp) : replyCount (c.raise r).outbound = replyCount c.outbound := by
  obtain ⟨-, -, -, -, -, -, -, replies, -⟩ := Clp.raise_frame r c
  exact replies

/-- The drive's view of an accepted RESTRICT_POST, with the clip told by a flag. -/
theorem Drc.clipped_eq {e : Entry} {d : Drc} {clips : Bool} (h : clips = true ↔ e.inhibits = true ∧ 0 < d.u) :
    d.clipped e = { d with u := if clips then 0 else d.u, buffer := if clips then 0 else d.buffer } := by
  simp only [Drc.clipped, h]

theorem Entry.inhibits_iff {e : Entry} : e.inhibits = true ↔ e.phase = .active ∧ e.kind ≠ .ceiling := by
  simp [Entry.inhibits]

/-- Settles O18: each check of the two commands, then the entry that a command writes or empties. -/
theorem restrictCommands : Obligations.RestrictCommands := by
  refine ⟨fun t tag p s ready => ⟨fun link => ?_, fun link code => ?_, fun link code high => ?_,
    fun link code low empty => ?_⟩, ?_, fun t tag owner linkId s ready => ⟨fun unnamed => ?_, fun internal => ?_,
    fun code link => ?_, fun id code link => ⟨fun held => ?_, ?_⟩⟩⟩
  · exact exec_answered rfl ready (State.restrictPost_badLink (linkSlot_none link))
  · obtain ⟨id, slot⟩ := linkSlot_isSome link
    exact exec_answered rfl ready (State.restrictPost_badKind slot (kindOf_none code))
  · obtain ⟨id, slot⟩ := linkSlot_isSome link
    exact exec_answered rfl ready (State.restrictPost_badCeiling slot (kindOf_ceiling.mpr code) high)
  · obtain ⟨id, slot⟩ := linkSlot_isSome link
    obtain ⟨kind, named⟩ := kindOf_isSome code
    exact exec_answered rfl ready (State.restrictPost_badStretch slot named
      (fun h => low (kindOf_ceiling.mp (h ▸ named))) (emptyStretch_iff.mpr empty))
  · rintro t tag p s id kind e vc clips ready link code low stretch he ceiling reason start stop armed rfl clipped
    obtain rfl := eq_linkEntry he ceiling reason start stop armed
    have along : ¬emptyStretch p = true := fun h => by
      obtain ⟨a, ha, b, hb, behind⟩ := emptyStretch_iff.mp h
      exact absurd (stretch a ha b hb) (by omega)
    have post := exec_replied (i := .restrictPost t tag p) rfl ready
      (State.restrictPost_posted (linkSlot_some link) (kindOf_eq_some.mpr code) low along) (Clp.raise_replies ..)
    rw [post, State.posted, Drc.clipped_eq (clips := clips) (clipped.trans ?_)]
    · rfl
    · rw [Entry.inhibits_iff, and_assoc]
      rfl
  · exact ⟨_, exec_answered rfl ready (State.restrictLift_unnamed linkId unnamed)⟩
  · exact exec_answered rfl ready (State.restrictLift_internal linkId internal)
  · exact ⟨_, exec_answered rfl ready (State.restrictLift_badLink code (linkSlot_none link))⟩
  · exact exec_answered rfl ready (State.restrictLift_empty code (linkSlot_some link) held)
  · rintro e held vc rfl
    exact exec_replied (i := .restrictLift t tag owner linkId) rfl ready
      (State.restrictLift_held (s := s.atTime t) code (linkSlot_some link) held) (Clp.raise_replies ..)

end Sys2Proof.Machine
end

section
/-! SUPPORT. What moves the restriction table, its ceilings and the reference speed, and what leaves them alone. -/

namespace Sys2Proof.Machine

/-! ## The speeds that the drive is held to -/

/-- Of the drive: the restriction table, its two ceilings, and the reference speed that they are set against. -/
structure SpeedView where
  table    : Table
  vCeil    : Nat
  vSup     : Nat
  refClass : RefClass
  ref      : Nat

def Drc.speeds (d : Drc) : SpeedView where
  table := d.table
  vCeil := d.vCeil
  vSup := d.vSup
  refClass := d.refClass
  ref := d.ref

variable (s : State)

@[simp] theorem State.settle_speeds : s.settle.drc.speeds = s.drc.speeds := by
  obtain ⟨-, -, drive, -⟩ := s.settle_spec
  rw [drive]
  rfl

@[simp] theorem State.settleVigilance_speeds : s.settleVigilance.drc.speeds = s.drc.speeds := by
  obtain ⟨drive, -⟩ := s.settleVigilance_spec
  rw [drive]
  rfl

@[simp] theorem State.setU_speeds (u : Int) : (s.setU u).drc.speeds = s.drc.speeds := rfl

@[simp] theorem State.clip_speeds (e : Entry) : (s.clip e).drc.speeds = s.drc.speeds := by
  rw [State.clip_eq]
  rfl

/-- R38: a trip does not reach the ceilings. -/
@[simp] theorem State.trip_speeds (c : TripReason) : (s.trip c).drc.speeds = s.drc.speeds := by
  unfold State.trip
  split
  · rfl
  all_goals rw [State.handOnTrip_drc]; rfl

/-! ## The stages of the control interval that do not reach them (R59) -/

@[simp] theorem State.handleStage_speeds : s.handleStage.drc.speeds = s.drc.speeds := by
  simp only [State.handleStage]
  (repeat' split) <;> rfl

@[simp] theorem Drc.judgeAdhesion_speeds (threshold diff : Nat) (d : Drc) :
    (d.judgeAdhesion threshold diff).speeds = d.speeds := by
  simp only [Drc.judgeAdhesion]
  (repeat' split) <;> rfl

@[simp] theorem State.adhesionStage_speeds : s.adhesionStage.drc.speeds = s.drc.speeds := by
  simp only [State.adhesionStage, Drc.judgeAdhesion_speeds, Drc.relax]
  split <;> rfl

@[simp] theorem State.setBand_speeds (b : Band) : (s.setBand b).drc.speeds = s.drc.speeds := by
  simp only [State.setBand]
  split
  · rw [State.endDriveWarning_drc]; rfl
  · split
    · simp [Drc.speeds]
    · rfl

@[simp] theorem State.resetStage_speeds : s.resetStage.drc.speeds = s.drc.speeds := by
  simp only [State.resetStage]
  (repeat' split) <;> rfl

@[simp] theorem State.bandStage_speeds : s.bandStage.drc.speeds = s.drc.speeds := by
  simp only [State.bandStage]
  (repeat' split) <;> simp

@[simp] theorem State.outputStage_speeds : s.outputStage.drc.speeds = s.drc.speeds := by
  unfold State.outputStage
  split <;> rfl

/-! ## The axles (R1 to R10) -/

@[simp] theorem State.tachoEdge_speeds (ax : Axle) : (s.tachoEdge ax).drc.speeds = s.drc.speeds := by
  simp only [State.tachoEdge]
  (repeat' split) <;> simp

@[simp] theorem State.noEdgeExpiry_speeds (ax : Axle) : (s.noEdgeExpiry ax).drc.speeds = s.drc.speeds := by
  simp only [State.noEdgeExpiry]
  split <;> simp

@[simp] theorem State.sensorOpen_speeds (ax : Axle) : (s.sensorOpen ax).drc.speeds = s.drc.speeds := by
  simp only [State.sensorOpen]
  split <;> simp

@[simp] theorem State.sensorOk_speeds (ax : Axle) : (s.sensorOk ax).drc.speeds = s.drc.speeds := by
  simp only [State.sensorOk]
  split <;> simp

@[simp] theorem State.plausibilityExpiry_speeds (ax : Axle) :
    (s.plausibilityExpiry ax).drc.speeds = s.drc.speeds := by
  simp only [State.plausibilityExpiry]
  split <;> simp

/-! ## The cab contacts, the handle signal and the demand line -/

@[simp] theorem State.closeDetent_speeds : s.closeDetent.drc.speeds = s.drc.speeds := by
  simp only [State.closeDetent]
  split
  · rfl
  · rw [State.trip_speeds]; rfl

@[simp] theorem Drc.handleFall_speeds (now : Nat) (d : Drc) : (d.handleFall now).speeds = d.speeds := by
  unfold Drc.handleFall
  split <;> rfl

@[simp] theorem State.demandPeriod_speeds : s.demandPeriod.drc.speeds = s.drc.speeds := by
  unfold State.demandPeriod
  split <;> rfl

@[simp] theorem State.emergencyStop_speeds (tag : Byte) : (s.emergencyStop tag).drc.speeds = s.drc.speeds := by
  unfold State.emergencyStop
  split <;> simp

end Sys2Proof.Machine
end

section
/-! SUPPORT. The drive after posts and lifts of the internal owners (R21, R22), and the events that reach it by them
alone. -/

namespace Sys2Proof.Machine

/-- R21: of the drive, a post changes nothing or writes its entry. -/
theorem State.post_drc (slot : Slot) (kind : Kind) (ceiling : Nat) (reason : Byte) (s : State) :
    (s.post slot kind ceiling reason).drc = s.drc ∨
    (s.post slot kind ceiling reason).drc =
      (s.drc.rewritten s.params.vehicleMax.toNat slot (some (internalEntry kind ceiling reason))).clipped
        (internalEntry kind ceiling reason) := by
  by_cases stands : ∃ old, s.drc.table.get slot = some old ∧ old.kind = kind ∧ old.reason = reason
  · obtain ⟨old, held, same⟩ := stands
    by_cases ceilings : old.ceiling = storedCeiling kind ceiling
    · rw [State.post_standing held ⟨same.1, ceilings, same.2⟩]
      exact .inl rfl
    · rw [State.post_recast held ceilings same]
      exact .inr rfl
  · rw [State.post_posted fun old held same => stands ⟨old, held, same⟩]
    exact .inr rfl

/-- R22: of the drive, a lift changes nothing or empties its slot. -/
theorem State.lift_drc (slot : Slot) (s : State) :
    (s.lift slot).drc = s.drc ∨ (s.lift slot).drc = s.drc.rewritten s.params.vehicleMax.toNat slot none := by
  cases held : s.drc.table.get slot with
  | none => exact .inl (congrArg State.drc (State.lift_empty held))
  | some e => exact .inr (congrArg State.drc (State.lift_held held))

/-- What posts and lifts by internal owners make of a drive, with the vehicle maximum `v`. -/
inductive Reposted (v : Nat) (d : Drc) : Drc → Prop
  | refl : Reposted v d d
  | written {m : Drc} (slot : Slot) (kind : Kind) (ceiling : Nat) (reason : Byte) : Reposted v d m →
      Reposted v d ((m.rewritten v slot (some (internalEntry kind ceiling reason))).clipped
        (internalEntry kind ceiling reason))
  | emptied {m : Drc} (slot : Slot) : Reposted v d m → Reposted v d (m.rewritten v slot none)

namespace Reposted

variable {v : Nat} {d : Drc} {s : State} (vmax : s.params.vehicleMax.toNat = v) (drive : Reposted v d s.drc)
include vmax drive

@[simp] theorem post (slot : Slot) (kind : Kind) (ceiling : Nat) (reason : Byte) :
    Reposted v d (s.post slot kind ceiling reason).drc := by
  subst vmax
  rcases s.post_drc slot kind ceiling reason with h | h <;> rw [h]
  · exact drive
  · exact .written _ _ _ _ drive

@[simp] theorem lift (slot : Slot) : Reposted v d (s.lift slot).drc := by
  subst vmax
  rcases s.lift_drc slot with h | h <;> rw [h]
  · exact drive
  · exact .emptied _ drive

/-! ## The doors (Chapter 8) -/

@[simp] theorem postHold : Reposted v d s.postHold.drc := post vmax drive ..

@[simp] theorem postBypass : Reposted v d s.postBypass.drc := post vmax drive ..

@[simp] theorem enterBypassed : Reposted v d s.enterBypassed.drc := by
  simp only [State.enterBypassed]
  simp [vmax, drive]

@[simp] theorem enterUnsafe (doors : List (Fin 8)) : Reposted v d (s.enterUnsafe doors).drc := by
  simp only [State.enterUnsafe]
  split <;> simp [vmax, drive]

@[simp] theorem completeClosing : Reposted v d s.completeClosing.drc := by
  simp only [State.completeClosing]
  split <;> simp [vmax, drive]

@[simp] theorem returnToNone : Reposted v d s.returnToNone.drc := by
  simp [State.returnToNone, vmax, drive]

@[simp] theorem releaseRequest (side : Side) : Reposted v d (s.releaseRequest side).drc := by
  simp only [State.releaseRequest, State.release]
  (repeat' split) <;> simp [vmax, drive]

@[simp] theorem closeRequest : Reposted v d s.closeRequest.drc := by
  simp only [State.closeRequest]
  (repeat' split) <;> simp [vmax, drive]

@[simp] theorem doorLocks (door : Fin 8) : Reposted v d (s.doorLocks door).drc := by
  simp only [State.doorLocks]
  split
  · split
    · exact completeClosing vmax drive
    · exact drive
  · split
    · exact returnToNone vmax drive
    · exact drive
  all_goals exact drive

@[simp] theorem doorUnlocks (door : Fin 8) : Reposted v d (s.doorUnlocks door).drc := by
  simp only [State.doorUnlocks]
  (repeat' split) <;> simp [vmax, drive]

@[simp] theorem doorInput (door : Fin 8) (locked : Bool) : Reposted v d (s.doorInput door locked).drc := by
  simp only [State.doorInput]
  (repeat' split) <;> simp [vmax, drive]

@[simp] theorem examineDoors : Reposted v d s.examineDoors.drc := by
  unfold State.examineDoors
  split <;> simp [vmax, drive]

@[simp] theorem bypassOn : Reposted v d s.bypassOn.drc := by
  simp only [State.bypassOn]
  (repeat' split) <;> simp [vmax, drive]

@[simp] theorem leaveBypassed : Reposted v d s.leaveBypassed.drc := by
  simp only [State.leaveBypassed]
  split
  · exact returnToNone vmax drive
  · simp only [State.setDoor_frame, State.latchUnlocked_frame]
    exact postHold vmax drive

@[simp] theorem bypassOff : Reposted v d s.bypassOff.drc := by
  simp only [State.bypassOff]
  (repeat' split) <;> simp [vmax, drive]

/-! ## The Route Manager (R126) -/

@[simp] theorem handOn (e : Emit) : Reposted v d (s.handOn e).drc := by
  simp only [State.handOn]
  (repeat' split) <;> simp [vmax, drive]

@[simp] theorem exchange (b : Beacon) (e : Emit) : Reposted v d (s.exchange b e).drc := by
  simp only [State.exchange, State.firstContact, State.enterUnknown, State.beaconMoves, State.handOnBeacon]
  (repeat' split) <;> simp [vmax, drive]

@[simp] theorem loopPage (page : List Byte) : Reposted v d (s.loopPage page).drc := by
  simp only [State.loopPage, State.takePage, State.validBeacon]
  (repeat' split) <;> simp [vmax, drive]

@[simp] theorem contactLost : Reposted v d s.contactLost.drc := by
  simp only [State.contactLost, State.loseContact]
  (repeat' split) <;> simp [vmax, drive]

@[simp] theorem approachInterval : Reposted v d s.approachInterval.drc := by
  simp only [State.approachInterval, State.approachSteps, State.passHead, State.superviseHead]
  (repeat' split) <;> simp [vmax, drive]

@[simp] theorem selectorPress (sel : Selection) : Reposted v d (s.selectorPress sel).drc := by
  simp only [State.selectorPress, State.selectHead, State.replaceSelection, State.reRequest]
  (repeat' split) <;> simp [vmax, drive]

@[simp] theorem restartRoute : Reposted v d s.restartRoute.drc := by
  simp only [State.restartRoute]
  split <;> simp [vmax, drive]

/-! ## The reverser (R49) -/

@[simp] theorem reverseEntry (r : Reverser) : Reposted v d (s.reverseEntry r).drc := by
  cases r <;> simp [State.reverseEntry, vmax, drive]

end Reposted
end Sys2Proof.Machine
end

section
/-! O22: the reference and the ceilings of a control interval (R27, R28, R31, R33, R51, R59). -/

namespace Sys2Proof.Machine

/-! ## The judgement of the slots (R27, R28) -/

theorem Table.set_get (t : Table) (slot : Slot) : t.set slot (t.get slot) = t := by
  cases slot with
  | link i => simp [Table.set, Table.get]
  | _ => rfl

/-- The state after a judgement, without the reports that it gives. -/
theorem State.judgeSlots_fst (judge : Slot → State → State × List (RestrictEvent × Slot × Entry)) (slots : List Slot)
    (s : State) : (s.judgeSlots judge slots).1 = slots.foldl (fun s slot => (judge slot s).1) s :=
  (List.foldl_hom Prod.fst fun _ _ => rfl).symm

/-- A judgement that passes its slot's contents through `f`, made once for each of some slots, passes these through `f`
and leaves the others. -/
theorem State.judgeSlots_get {judge : Slot → State → State × List (RestrictEvent × Slot × Entry)}
    {f : Option Entry → Option Entry}
    (table : ∀ slot s, (judge slot s).1.drc.table = s.drc.table.set slot (f (s.drc.table.get slot)))
    {slots : List Slot} (once : slots.Nodup) (x : Slot) (s : State) :
    (s.judgeSlots judge slots).1.drc.table.get x =
      if x ∈ slots then f (s.drc.table.get x) else s.drc.table.get x := by
  rw [State.judgeSlots_fst]
  induction slots generalizing s with
  | nil => rfl
  | cons slot rest ih =>
    obtain ⟨apart, once⟩ := List.nodup_cons.mp once
    rw [List.foldl_cons, ih once, table]
    by_cases same : x = slot
    · subst same
      rw [if_neg apart, if_pos List.mem_cons_self, Table.get_set]
    · simp [same, Table.get_set_other _ _ _ _ same]

/-- R27: an ARMED entry whose start the tram has reached becomes ACTIVE. -/
def Entry.activated (track : Pos) (e : Entry) : Entry := if e.starts track then { e with phase := .active } else e

theorem State.activateSlot_table (track : Pos) (slot : Slot) (s : State) :
    (s.activateSlot track slot).1.drc.table =
      s.drc.table.set slot ((s.drc.table.get slot).map (Entry.activated track)) := by
  unfold State.activateSlot
  split
  · next e held =>
    rw [held, Option.map_some, Entry.activated]
    split
    · simp only [State.clip_eq]
      rfl
    · rw [← held, Table.set_get]
  · next held => rw [held, Option.map_none, ← held, Table.set_get]

/-- R28: an ACTIVE entry whose end the tram has reached leaves its slot. -/
theorem State.expireSlot_table (track : Pos) (slot : Slot) (s : State) :
    (s.expireSlot track slot).1.drc.table =
      s.drc.table.set slot ((s.drc.table.get slot).filter fun e => !e.ends track) := by
  unfold State.expireSlot
  split
  · next e held =>
    split
    · next ends => rw [held, Option.filter_some_neg (by simpa using ends)]
    · next ends => rw [held, Option.filter_some_pos (by simpa using ends), ← held, Table.set_get]
  · next held => rw [held, Option.filter_none, ← held, Table.set_get]

/-- Of the speeds, the judgements of stage 4 reach the table alone. -/
structure SameBeyondTable (d d' : Drc) : Prop where
  vSup     : d'.vSup = d.vSup
  refClass : d'.refClass = d.refClass
  ref      : d'.ref = d.ref

theorem SameBeyondTable.refl (d : Drc) : SameBeyondTable d d := ⟨rfl, rfl, rfl⟩

theorem SameBeyondTable.trans {a b c : Drc} (h : SameBeyondTable a b) (h' : SameBeyondTable b c) :
    SameBeyondTable a c :=
  ⟨h'.vSup.trans h.vSup, h'.refClass.trans h.refClass, h'.ref.trans h.ref⟩

theorem State.activateSlot_beyondTable (track : Pos) (slot : Slot) (s : State) :
    SameBeyondTable s.drc (s.activateSlot track slot).1.drc := by
  simp only [State.activateSlot, State.clip_eq]
  (repeat' split) <;> exact ⟨rfl, rfl, rfl⟩

theorem State.expireSlot_beyondTable (track : Pos) (slot : Slot) (s : State) :
    SameBeyondTable s.drc (s.expireSlot track slot).1.drc := by
  unfold State.expireSlot
  (repeat' split) <;> exact ⟨rfl, rfl, rfl⟩

theorem State.judgeSlots_beyondTable {judge : Slot → State → State × List (RestrictEvent × Slot × Entry)}
    (h : ∀ (slot : Slot) (s : State), SameBeyondTable s.drc (judge slot s).1.drc) (slots : List Slot) (s : State) :
    SameBeyondTable s.drc (s.judgeSlots judge slots).1.drc :=
  State.judgeSlots_frame s judge (fun a b => SameBeyondTable a.drc b.drc) (fun _ => .refl _)
    (fun _ _ _ => .trans) h slots

/-! ## Stage 4 -/

/-- R27, R28: stage 4 up to the ceilings. -/
def State.judged (s : State) : State :=
  ((s.judgeSlots (State.activateSlot s.amu.trackMm) linkSlots).1.judgeSlots (State.expireSlot s.amu.trackMm)
    linkSlots).1

/-- R31, R33: then V_ceil is recomputed and V_sup follows it; the reports change nothing of the drive. -/
theorem State.ceilingStage_drc (s : State) : s.ceilingStage.drc =
    (s.judged.drc.recompute s.params.vehicleMax.toNat).superviseCeiling s.params.descentStep.toNat := by
  simp only [State.ceilingStage, State.entries_frame]
  simp [State.judged, State.recompute]

theorem State.judged_beyondTable (s : State) : SameBeyondTable s.drc s.judged.drc := by
  unfold State.judged
  have activated := State.judgeSlots_beyondTable (State.activateSlot_beyondTable s.amu.trackMm) linkSlots s
  exact activated.trans (State.judgeSlots_beyondTable (State.expireSlot_beyondTable _) _ _)

/-- R27, R28: the link slots after both judgements; the internal owners' slots are not judged. -/
theorem State.judged_get (s : State) (slot : Slot) : s.judged.drc.table.get slot =
    if slot ∈ linkSlots then
      ((s.drc.table.get slot).map (Entry.activated s.amu.trackMm)).filter fun e => !e.ends s.amu.trackMm
    else s.drc.table.get slot := by
  rw [State.judged, State.judgeSlots_get (f := Option.filter fun e => !e.ends s.amu.trackMm) (State.expireSlot_table _)
    (by decide), State.judgeSlots_get (State.activateSlot_table _) (by decide)]
  split <;> rfl

/-! ## The interval -/

/-- Stages 1 to 3: the handle, the reference and the adhesion. -/
def State.measured (s : State) : State := s.handleStage.referenceStage.adhesionStage

theorem State.handleStage_u (s : State) : s.handleStage.drc.u = s.drc.u := by
  simp only [State.handleStage]
  (repeat' split) <;> rfl

/-- R51: of the speeds, stages 1 to 3 set the reference alone, from the u that the interval finds. -/
theorem State.measured_speeds (s : State) : s.measured.drc.speeds = { s.drc.speeds with
    refClass := (reference s.drc.u s.amu.a s.amu.b).1, ref := (reference s.drc.u s.amu.a s.amu.b).2 } := by
  have handle := s.handleStage_speeds
  rw [State.measured, State.adhesionStage_speeds]
  simp only [State.referenceStage, State.handleStage_u, State.handleStage_frame]
  simp only [Drc.speeds, SpeedView.mk.injEq] at handle ⊢
  obtain ⟨table, vCeil, vSup, -, -⟩ := handle
  exact ⟨table, vCeil, vSup, trivial, trivial⟩

/-- R59: of the stages after the fourth, none reaches the speeds. -/
theorem State.controlStages_speeds (s : State) :
    s.controlStages.drc.speeds = s.measured.ceilingStage.drc.speeds := by
  simp [State.controlStages, State.measured]

/-- R59: a due interval runs its stages at once. -/
theorem State.controlInterval_due {s : State} (due : s.drc.intervalDue ≤ s.now) : s.controlInterval =
    (State.controlStages
      { s with drc := { s.drc with intervalDue := s.drc.intervalDue + Config.intervalLength } }).settle :=
  if_pos (decide_eq_true due)

/-- The speeds after a control interval: the reference of R51, the table of R27 and R28, the ceilings of R31 and R33. -/
structure IntervalSpeeds (s : State) (x : SpeedView) : Prop where
  reference : (x.refClass, x.ref) = reference s.drc.u s.amu.a s.amu.b
  table     : ∀ slot, x.table.get slot = if slot ∈ linkSlots then
      ((s.drc.table.get slot).map (Entry.activated s.amu.trackMm)).filter fun e => !e.ends s.amu.trackMm
    else s.drc.table.get slot
  vCeil     : x.vCeil = effectiveCeiling s.params.vehicleMax.toNat x.table.entries
  vSup      : x.vSup = if s.drc.vSup ≤ x.vCeil then x.vCeil
    else max x.vCeil (min s.drc.vSup x.ref - s.params.descentStep.toNat)

/-- R31, R33, R34: V_sup raised to V_ceil and then supervised is V_sup supervised. -/
theorem supervise_raised (v c r n : Nat) : (if max v c ≤ c then c else max c (min (max v c) r - n)) =
    if v ≤ c then c else max c (min v r - n) := by
  by_cases le : v ≤ c
  · simp [le]
  · rw [Nat.max_eq_left (by omega)]

theorem State.controlStages_intervalSpeeds (s : State) : IntervalSpeeds s s.controlStages.drc.speeds := by
  have params : s.measured.params = s.params := by simp [State.measured]
  have amu : s.measured.amu = s.amu := by simp [State.measured]
  have before := s.measured_speeds
  simp only [Drc.speeds, SpeedView.mk.injEq] at before
  obtain ⟨table, -, vSup, refClass, ref⟩ := before
  have beyond := s.measured.judged_beyondTable
  have get := s.measured.judged_get
  rw [s.controlStages_speeds, State.ceilingStage_drc, params]
  rw [table, amu] at get
  generalize s.measured.judged.drc = d at beyond get ⊢
  refine ⟨?_, get, rfl, ?_⟩
  · exact Prod.ext (beyond.refClass.trans refClass) (beyond.ref.trans ref)
  · rw [← vSup, ← beyond.vSup]
    exact supervise_raised ..

theorem State.controlInterval_intervalSpeeds {s : State} (due : s.drc.intervalDue ≤ s.now) :
    IntervalSpeeds s s.controlInterval.drc.speeds := by
  rw [State.controlInterval_due due, State.settle_speeds]
  obtain ⟨reference, table, vCeil, vSup⟩ := State.controlStages_intervalSpeeds
    { s with drc := { s.drc with intervalDue := s.drc.intervalDue + Config.intervalLength } }
  exact ⟨reference, table, vCeil, vSup⟩

/-! ## The reference (R51) -/

variable {u : Int} {a b : AxleChannel}

theorem reference_good (ha : a.cls ≠ .fault) (hb : b.cls ≠ .fault) :
    reference u a b = (.good, if 0 ≤ u then min a.counted b.counted else max a.counted b.counted) :=
  if_pos ⟨ha, hb⟩

theorem reference_singleA (ha : a.cls ≠ .fault) (hb : b.cls = .fault) : reference u a b = (.single, a.counted) := by
  simp [reference, ha, hb]

theorem reference_singleB (ha : a.cls = .fault) (hb : b.cls ≠ .fault) : reference u a b = (.single, b.counted) := by
  simp [reference, ha, hb]

theorem reference_lost (ha : a.cls = .fault) (hb : b.cls = .fault) : reference u a b = (.lost, 0) := by
  simp [reference, ha, hb]

theorem link_mem_linkSlots (i : Fin 6) : Slot.link i ∈ linkSlots :=
  (by decide : ∀ i : Fin 6, Slot.link i ∈ linkSlots) i

/-- Settles O22, from the speeds after the interval. -/
theorem intervalCeilings : Obligations.IntervalCeilings := by
  intro t s due
  obtain ⟨refs, table, vCeil, vSup⟩ := State.controlInterval_intervalSpeeds (s := s.atTime t) due
  simp only [State.atTime_drc, State.atTime_amu, State.atTime_params] at refs table vCeil vSup
  refine ⟨_, rfl, fun ha hb => ?_, fun ha hb => ?_, fun ha hb => ?_, fun ha hb => ?_,
    table .route, table .doors, table .reverse, fun i empty => ?_, fun i e held active judged => ?_, vCeil,
    fun above => vSup.trans (if_pos above), fun below => vSup.trans (if_neg (Nat.not_le.mpr below))⟩
  · rw [reference_good ha hb] at refs
    exact Prod.mk.inj refs
  · rw [reference_singleA ha hb] at refs
    exact Prod.mk.inj refs
  · rw [reference_singleB ha hb] at refs
    exact Prod.mk.inj refs
  · rw [reference_lost ha hb] at refs
    exact Prod.mk.inj refs
  · refine (table _).trans ?_
    rw [if_pos (link_mem_linkSlots i), empty]
    rfl
  · obtain rfl : active = e.activated s.amu.trackMm := judged
    refine (table _).trans ?_
    rw [if_pos (link_mem_linkSlots i), held, Option.map_some, Option.filter_some]
    cases Entry.ends s.amu.trackMm (e.activated s.amu.trackMm) <;> rfl

end Sys2Proof.Machine
end

section
/-! O5: V_ceil and V_sup over every command. -/

namespace Sys2Proof.Machine

/-- A property that POWER_ON leaves, and that `Kept` says every other command keeps, is kept by every step. -/
theorem Kept.step {P : State → Prop} (k : Kept P) (queue : ∀ q s, P s → P { s with pending := q })
    (poweredOn : ∀ now q inputs, P (State.poweredOn now q inputs)) {s s' : State} (h : P s)
    (hstep : Machine.step s = .next s') : P s' := by
  unfold Machine.step at hstep
  split at hstep
  · cases hstep
    exact h
  · next c rest _ =>
    by_cases hc : ∃ t inputs, c = .powerOn t inputs
    · obtain ⟨t, inputs, rfl⟩ := hc
      rw [exec_powerOn] at hstep
      cases hstep
      exact poweredOn _ _ _
    · obtain ⟨m, he, hm⟩ := k.exec (fun t inputs e => hc ⟨t, inputs, e⟩) (queue rest s h)
      rw [he] at hstep
      cases hstep
      exact hm

/-- R20, R31, R34: `CeilingSound`, read off the speeds of the drive and the vehicle maximum. -/
structure SpeedView.Sound (v : Nat) (x : SpeedView) : Prop where
  ceiling    : x.vCeil = effectiveCeiling v x.table.entries
  supervised : x.vCeil ≤ x.vSup
  stored     : x.table.Stored

theorem ceilingSound_iff {s : State} : CeilingSound s ↔ s.drc.speeds.Sound s.params.vehicleMax.toNat :=
  ⟨fun h => ⟨h.ceiling, h.supervised, h.stored⟩, fun h => ⟨h.ceiling, h.supervised, h.stored⟩⟩

/-- R31, R34: a slot written leaves the ceilings sound, whatever they were, with the ceilings of the entries stored. -/
theorem SpeedView.Sound.rewritten {d : Drc} (v : Nat) (slot : Slot) (x : Option Entry)
    (stored : (d.table.set slot x).Stored) : (d.rewritten v slot x).speeds.Sound v :=
  ⟨rfl, Nat.le_max_right _ _, stored⟩

/-- R21: the entry of an internal owner has its ceiling stored. -/
theorem internalEntry_stored {kind : Kind} {ceiling : Nat} {reason : Byte} :
    ∀ e, some (internalEntry kind ceiling reason) = some e → e.kind ≠ .ceiling → e.ceiling = 0 := by
  rintro e he
  cases he
  exact fun h => storedCeiling_zero ceiling h

/-- R21, R22: posts and lifts of the internal owners keep the ceilings sound. -/
theorem SpeedView.Sound.reposted {v : Nat} {d m : Drc} (r : Reposted v d m) (h : d.speeds.Sound v) :
    m.speeds.Sound v := by
  induction r with
  | refl => exact h
  | written slot kind ceiling reason _ ih => exact .rewritten v slot _ (ih.stored.set slot internalEntry_stored)
  | emptied slot _ ih => exact .rewritten v slot none (ih.stored.set slot nofun)

/-- R27, R28: an entry that a control interval activates keeps its ceiling, and no entry joins the table. -/
theorem IntervalSpeeds.stored {s : State} {x : SpeedView} (i : IntervalSpeeds s x) (h : s.drc.table.Stored) :
    x.table.Stored := by
  intro e mem
  obtain ⟨slot, held⟩ := Table.mem_entries.mp mem
  rw [i.table] at held
  split at held
  · obtain ⟨old, found, rfl⟩ := Option.map_eq_some_iff.mp (Option.filter_eq_some_iff.mp held).1
    have stored := h old (Table.mem_entries.mpr ⟨slot, found⟩)
    unfold Entry.activated
    split <;> exact stored
  · exact h e (Table.mem_entries.mpr ⟨slot, held⟩)

/-- R31, R33: a control interval leaves V_sup at V_ceil or above it. -/
theorem IntervalSpeeds.sound {s : State} {x : SpeedView} (i : IntervalSpeeds s x) (h : s.drc.table.Stored) :
    x.Sound s.params.vehicleMax.toNat := by
  refine ⟨i.vCeil, ?_, i.stored h⟩
  rw [i.vSup]
  split
  · exact le_rfl
  · exact Nat.le_max_left _ _

namespace CeilingSound

variable {s s' : State}

/-- An operation that reaches neither the speeds nor the record. -/
theorem of_speeds (h : CeilingSound s) (speeds : s'.drc.speeds = s.drc.speeds) (params : s'.params = s.params) :
    CeilingSound s' := by
  rw [ceilingSound_iff, speeds, params]
  exact ceilingSound_iff.mp h

/-- The state is written out: nothing that the speeds are read from is among its changes. -/
theorem of_eq {m : State} (h : CeilingSound s) (eq : s' = m) (speeds : m.drc.speeds = s.drc.speeds)
    (params : m.params = s.params) : CeilingSound s' := eq ▸ h.of_speeds speeds params

/-- An operation that reaches the drive by posts and lifts of the internal owners alone. -/
theorem of_reposted (h : CeilingSound s) (r : Reposted s.params.vehicleMax.toNat s.drc s'.drc)
    (params : s'.params = s.params) : CeilingSound s' := by
  rw [ceilingSound_iff, params]
  exact .reposted r (ceilingSound_iff.mp h)

theorem controlInterval (h : CeilingSound s) : CeilingSound s.controlInterval := by
  by_cases due : s.drc.intervalDue ≤ s.now
  · have params : s.controlInterval.params = s.params := by simp
    rw [ceilingSound_iff, params]
    exact (State.controlInterval_intervalSpeeds due).sound h.stored
  · rw [State.controlInterval, if_neg (by simpa [controlDue] using due)]
    exact h

theorem either {a b : State} {p : Prop} [Decidable p] (ha : CeilingSound a) (hb : CeilingSound b) :
    CeilingSound (if p then a else b) := by
  split
  · exact ha
  · exact hb

theorem reverseEntry (h : CeilingSound s) (r : Reverser) : CeilingSound (s.reverseEntry r) :=
  h.of_reposted (.reverseEntry rfl .refl r) (by simp)

theorem trip (h : CeilingSound s) (c : TripReason) : CeilingSound (s.trip c) := h.of_speeds (by simp) (by simp)

theorem setU (h : CeilingSound s) (u : Int) : CeilingSound (s.setU u) := h.of_speeds rfl rfl

/-- R49: a reverser change reaches the ceilings by the REVERSE entry alone. -/
theorem takeReverser (h : CeilingSound s) (r : Reverser) : CeilingSound (s.takeReverser r) := by
  have moved : CeilingSound { s with
      drc := { s.drc with reverser := r }, amu := { s.amu with direction := directionAfter r s.amu.direction } } :=
    h.of_speeds rfl rfl
  have clips : ∀ m : State, CeilingSound m → CeilingSound (if r = .neutral ∧ 0 < m.drc.u then m.setU 0 else m) :=
    fun m hm => either (hm.setU 0) hm
  have clipped := clips _ (moved.reverseEntry r)
  exact either h (either clipped (clipped.trip _))

/-- R142: a press of a cab door button. -/
theorem doorPress (h : CeilingSound s) (b : DoorButton) {act : State → State}
    (acts : ∀ s, CeilingSound s → CeilingSound (act s)) : CeilingSound (s.doorPress b act) := by
  have disarmed : CeilingSound { s with sdu := s.sdu.arm b false } := h.of_speeds rfl rfl
  rcases s.doorPress_cases b act with e | e | e <;> rw [e]
  · exact h
  · exact disarmed
  · exact acts _ disarmed

/-- No event of a block breaks it. -/
theorem event (h : CeilingSound s) (e : Event s s') : CeilingSound s' := by
  cases e with
  | nothing => exact h
  | controlInterval => exact h.controlInterval
  | handleRise | detentOpen | selectorRelease | buttonInactive => exact h.of_speeds rfl rfl
  | reverser r => exact (h.takeReverser r).of_speeds (by simp) (by simp)
  | deadman pressed => exact h.of_speeds (by simp; rfl) (by simp)
  | vigilanceWarning => exact h.of_speeds (by simp; rfl) (by simp)
  | selectorPress sel => exact h.of_reposted (.selectorPress rfl .refl sel) (by simp)
  | approachInterval => exact h.of_reposted (.approachInterval rfl .refl) (by simp)
  | loopPage page => exact h.of_reposted (.loopPage rfl .refl page) (by simp)
  | contactLost => exact h.of_reposted (.contactLost rfl .refl) (by simp)
  | releasePress side => exact h.doorPress _ fun s h => h.of_reposted (.releaseRequest rfl .refl side) (by simp)
  | closePress => exact h.doorPress _ fun s h => h.of_reposted (.closeRequest rfl .refl) (by simp)
  | doorInput door locked => exact h.of_reposted (.doorInput rfl .refl door locked) (by simp)
  | bypassOn => exact h.of_reposted (.bypassOn rfl .refl) (by simp)
  | bypassOff => exact h.of_reposted (.bypassOff rfl .refl) (by simp)
  | _ => exact h.of_speeds (by simp) (by simp)

/-! ## The commands of the cab link -/

/-- R24: the entry of a RESTRICT_POST has its ceiling stored. -/
theorem posted (h : CeilingSound s) (replaced : Bool) (slot : Slot) (kind : Kind) (p : RestrictPost) :
    CeilingSound (s.posted replaced slot (linkEntry s.amu.trackMm kind p)) := by
  refine ceilingSound_iff.mpr (.rewritten _ slot _ (Table.Stored.set h.stored slot ?_))
  rintro e he
  cases he
  exact fun hk => storedCeiling_zero _ hk

theorem restrictPost (h : CeilingSound s) (p : RestrictPost) : CeilingSound (s.restrictPost p).1 := by
  rcases s.restrictPost_cases p with e | ⟨replaced, slot, kind, e⟩ <;> rw [e]
  · exact h
  · exact h.posted ..

theorem restrictLift (h : CeilingSound s) (owner linkId : Byte) : CeilingSound (s.restrictLift owner linkId).1 := by
  rcases s.restrictLift_cases owner linkId with e | ⟨slot, entry, e⟩ <;> rw [e]
  · exact h
  · exact ceilingSound_iff.mpr (.rewritten _ slot none (Table.Stored.set h.stored slot nofun))

/-- R185: the drive's part of CONFIGURE recomputes the ceilings, whatever the vehicle maximum was. -/
theorem configureDrc (h : s.drc.table.Stored) (first : Bool) : CeilingSound (s.configureDrc first) := by
  have recomputed : CeilingSound s.recompute := ⟨rfl, Nat.le_max_right _ _, h⟩
  unfold State.configureDrc
  have reposted := either (p := s.recompute.drc.table.reverse.isSome = true) (recomputed.of_reposted
    (.post rfl .refl .reverse .ceiling s.recompute.params.reverseCeil.toNat reasonReversing) (by simp)) recomputed
  exact either (reposted.of_speeds rfl rfl) reposted

theorem configureSdu (h : CeilingSound s) (first : Bool) : CeilingSound (s.configureSdu first) := by
  have remapped : CeilingSound s.remapButtons := h.of_speeds (by simp) (by simp)
  exact either (remapped.of_reposted (.examineDoors rfl .refl) (by simp)) remapped

theorem takeConfigure (h : CeilingSound s) (p : Params) : CeilingSound (s.takeConfigure p) := by
  have drive := configureDrc (s := { s with params := storedParams p, configured := true }) h.stored (!s.configured)
  exact (drive.configureSdu _).of_speeds (State.settle_speeds _) (by simp [State.takeConfigure])

/-- R20, R181: RESTART empties the link slots. -/
theorem dropLinkEntries (h : CeilingSound s) : CeilingSound s.dropLinkEntries := by
  refine ⟨rfl, Nat.le_max_right _ _, fun e mem => ?_⟩
  obtain ⟨slot, held⟩ := Table.mem_entries.mp mem
  refine h.stored e (Table.mem_entries.mpr ⟨slot, ?_⟩)
  cases slot with
  | link i => simp [State.dropLinkEntries, State.recompute, Drc.recompute, Table.get] at held
  | _ => exact held

theorem restartCommand (h : CeilingSound s) : CeilingSound s.restartCommand.1 := by
  unfold State.restartCommand
  split
  · exact (h.dropLinkEntries.of_reposted (.restartRoute rfl .refl) (by simp)).of_speeds rfl rfl
  · exact h

/-- No command of the cab link breaks it. -/
theorem runCommand (h : CeilingSound s) (c : LinkCommand) : CeilingSound (s.runCommand c).1 := by
  cases c with
  | configure p =>
    change CeilingSound (s.configure p).1
    rcases s.configure_cases p with e | e <;> rw [e]
    · exact h
    · exact h.takeConfigure p
  | restrictPost post => exact h.restrictPost post
  | restrictLift owner id => exact h.restrictLift owner id
  | restart => exact h.restartCommand
  | junctionLoad load => exact h.of_eq (s.junctionLoad_frame load) rfl rfl
  | junctionDrop id => exact h.of_eq (s.junctionDrop_frame id) rfl rfl
  | routeAppend id sel => exact h.of_eq (s.routeAppend_frame id sel) rfl rfl
  | routeClear => exact h.of_eq s.routeClear_frame rfl rfl
  | patternLoad load => exact h.of_eq (s.patternLoad_frame load) rfl rfl
  | stopClear target => exact h.of_eq (s.stopClear_frame target) rfl rfl
  | buttonIsolate i a => exact h.of_eq (s.buttonIsolate_frame i a) rfl rfl
  | reportRate r => exact h.of_eq (s.reportRate_frame r) rfl rfl
  | faultsRead n => exact h.of_eq (s.faultsRead_frame n) rfl rfl
  | _ => exact h.of_speeds (by simp [State.runCommand]) (by simp [State.runCommand])

theorem kept : Kept CeilingSound where
  time _ _ h := h.of_speeds rfl rfl
  clp _ _ h := h.of_speeds rfl rfl
  event _ _ e h := h.event e
  run c _ h := h.runCommand c

end CeilingSound

/-- R20, R31, R49: after POWER_ON the table is empty but for a REVERSE entry. -/
theorem CeilingSound.poweredOn (now : Nat) (q : List Instr) (p : PowerInputs) :
    CeilingSound (State.poweredOn now q p) := by
  have drive : ∀ r : Reverser, (Drc.withReverser 0 r).speeds.Sound Config.initialParams.vehicleMax.toNat := by
    intro r
    cases r <;> exact ⟨by decide, by decide, by unfold Table.Stored; decide⟩
  exact ceilingSound_iff.mpr (drive (reverserOf p.forward p.reverse))

/-- Settles O5: every command but POWER_ON keeps the ceilings sound, and after POWER_ON they are sound anyway. -/
theorem ceilingKept : Obligations.CeilingKept := fun _ _ =>
  CeilingSound.kept.step (fun _ _ h => h.of_speeds rfl rfl) .poweredOn

end Sys2Proof.Machine
end

section
/-! O54: what the reading commands carry (R26, R73, R78, R137, R158, R176, R177, R187). -/

namespace Sys2Proof.Machine

variable {s : State} {code number first : Byte} {id : Half}

/-! ## STATUS_READ (R177) -/

theorem State.statusRead_drive (h : code.toNat = 0) : s.statusRead code = .ok (.drive s.driveView) := by
  simp only [State.statusRead, h]

theorem State.statusRead_loop (h : code.toNat = 1) : s.statusRead code = .ok (.loop s.lpt.view) := by
  simp only [State.statusRead, h]

theorem State.statusRead_doors (h : code.toNat = 2) :
    s.statusRead code = .ok (.doors s.sdu.view s.sdu.stopLamp s.sdu.rampLamp) := by
  simp only [State.statusRead, h]

theorem State.statusRead_channel {ch : ChannelId}
    (h : code.toNat = 3 ∧ ch = .bell ∨ code.toNat = 4 ∧ ch = .horn ∨ code.toNat = 5 ∧ ch = .cab) :
    s.statusRead code = .ok (.channel (Channel.view s.tnu s.now (s.tnu.channel ch))) := by
  rcases h with ⟨h, rfl⟩ | ⟨h, rfl⟩ | ⟨h, rfl⟩ <;> simp only [State.statusRead, h] <;> rfl

theorem State.statusRead_unnamed (h : 5 < code.toNat) : s.statusRead code = .rangeUnnamed 0x14 1 := by
  unfold State.statusRead
  generalize code.toNat = n at h
  match n, h with
  | n + 6, _ => rfl

/-! ## ROUTE_READ (R78) -/

theorem State.routeRead_plan (h : code.toNat = 0) :
    s.routeRead code = .ok (.plan s.rtm.plan.length s.rtm.pendingSel s.rtm.plan) := by
  simp only [State.routeRead, h]

theorem State.routeRead_empty (h : code.toNat = 1) (empty : s.rtm.plan = []) :
    s.routeRead code = .plain .notFound := by
  simp only [State.routeRead, h, empty]

theorem State.routeRead_head {e : PlanEntry} (h : code.toNat = 1) (head : s.rtm.plan.head? = some e) :
    s.routeRead code = .ok (.head e (s.rtm.record e.id).isSome s.rtm.context) := by
  obtain ⟨rest, plan⟩ := List.head?_eq_some_iff.mp head
  simp only [State.routeRead, h, plan]

theorem State.routeRead_unnamed (h : 1 < code.toNat) : s.routeRead code = .rangeUnnamed 0x09 1 := by
  unfold State.routeRead
  generalize code.toNat = n at h
  match n, h with
  | n + 2, _ => rfl

/-! ## JUNCTION_READ (R73) -/

theorem badJunctionId_iff : badJunctionId id = true ↔ id.toNat < 1 ∨ 4095 < id.toNat := by
  simp [badJunctionId]

/-- R69: an id is in use as the head's alone, once the head is beyond WAITING. -/
theorem Rtm.inUse_eq (r : Rtm) (id : Half) :
    r.inUse id = decide (∃ h ∈ r.plan.head?, h.id = id ∧ h.state ≠ .waiting) := by
  unfold Rtm.inUse
  cases r.plan with
  | nil => rfl
  | cons h rest => simp

theorem State.junctionRead_unnamed (h : id.toNat < 1 ∨ 4095 < id.toNat) :
    s.junctionRead id = .rangeUnnamed 0x06 1 :=
  if_pos (badJunctionId_iff.mpr h)

theorem State.junctionRead_empty (h : 1 ≤ id.toNat ∧ id.toNat ≤ 4095) (empty : s.rtm.record id = none) :
    s.junctionRead id = .mk .notFound none (.junctionCount s.rtm.junctions.length) := by
  unfold State.junctionRead
  rw [if_neg (by rw [badJunctionId_iff]; omega), empty]

theorem State.junctionRead_loaded {j : JunctionRecord} (h : 1 ≤ id.toNat ∧ id.toNat ≤ 4095)
    (loaded : s.rtm.record id = some j) : s.junctionRead id = .ok (.junctionRecord j.id j.setCount
      (j.left.map padRequirements) (j.straight.map padRequirements) (j.right.map padRequirements) j.dflt j.loopToPoint
      j.clearing j.stopMargin j.approachCeil j.passingCeil
      (decide (∃ h ∈ s.rtm.plan.head?, h.id = id ∧ h.state ≠ .waiting)) s.rtm.junctions.length) := by
  unfold State.junctionRead
  rw [if_neg (by rw [badJunctionId_iff]; omega), loaded, Rtm.inUse_eq]

/-! ## RESTRICT_READ (R26) -/

theorem slotNamed_error (h : 3 < code.toNat ∨ code.toNat = 3 ∧ (number.toNat < 1 ∨ 6 < number.toNat)) :
    ∃ clause, slotNamed code number = .error clause := by
  rcases h with h | ⟨h, link⟩
  · refine ⟨1, ?_⟩
    unfold slotNamed
    generalize code.toNat = n at h
    match n, h with
    | n + 4, _ => rfl
  · exact ⟨2, by simp only [slotNamed, h, linkSlot_none link]⟩

theorem slotNamed_ok {slot : Slot} (h : code.toNat = 0 ∧ slot = .route ∨ code.toNat = 1 ∧ slot = .doors ∨
    code.toNat = 2 ∧ slot = .reverse ∨ code.toNat = 3 ∧ ∃ i : Fin 6, number.toNat = i.val + 1 ∧ slot = .link i) :
    slotNamed code number = .ok slot := by
  rcases h with ⟨h, rfl⟩ | ⟨h, rfl⟩ | ⟨h, rfl⟩ | ⟨h, i, link, rfl⟩
  case inr.inr.inr => simp only [slotNamed, h, linkSlot_some link]
  all_goals simp only [slotNamed, h]

theorem State.restrictRead_unnamed {clause : Nat} (h : slotNamed code number = .error clause) :
    s.restrictRead code number = .rangeUnnamed 0x0C clause := by
  simp only [State.restrictRead, h]

theorem State.restrictRead_empty {slot : Slot} (h : slotNamed code number = .ok slot)
    (empty : s.drc.table.get slot = none) :
    s.restrictRead code number = .mk .notFound none (.restriction none s.drc.tableView) := by
  simp only [State.restrictRead, h, empty]

theorem State.restrictRead_held {slot : Slot} {e : Entry} (h : slotNamed code number = .ok slot)
    (held : s.drc.table.get slot = some e) :
    s.restrictRead code number = .ok (.restriction (some (slot, e)) s.drc.tableView) := by
  simp only [State.restrictRead, h, held]

/-! ## PATTERN_READ (R158) -/

/-- R158: a pattern plays, is saved and waits on a channel as the requests there name it. -/
theorem Channel.uses_eq (n : Nat) (c : Channel) : c.uses n =
    (decide (∃ q ∈ c.playing, q.saved.req.pattern = n), decide (∃ q ∈ c.stack, q.req.pattern = n),
      decide (∃ q ∈ c.queue, q.pattern = n)) := by
  simp only [Channel.uses, Prod.mk.injEq]
  refine ⟨?_, ?_, ?_⟩
  · cases c.playing <;> simp
  · rw [Bool.eq_iff_iff]; simp
  · rw [Bool.eq_iff_iff]; simp

theorem State.patternRead_unnamed (h : 23 < number.toNat ∨ first.toNat ≠ 0 ∧ first.toNat ≠ 8) :
    ∃ clause, s.patternRead number first = .rangeUnnamed 0x10 clause := by
  unfold State.patternRead
  by_cases high : 23 < number.toNat
  · exact ⟨1, if_pos high⟩
  · exact ⟨2, (if_neg high).trans (if_pos (h.resolve_left high))⟩

theorem State.patternRead_absent (h : number.toNat ≤ 23) (start : first.toNat = 0 ∨ first.toNat = 8)
    (absent : s.tnu.pattern number.toNat = none) : s.patternRead number first = .plain .notFound := by
  unfold State.patternRead
  dsimp only
  rw [if_neg (by omega), if_neg (by omega), absent]

theorem State.patternRead_present {p : Pattern} (h : number.toNat ≤ 23) (start : first.toNat = 0 ∨ first.toNat = 8)
    (present : s.tnu.pattern number.toNat = some p) :
    s.patternRead number first = .ok (.pattern p.repeats p.steps.length ((p.steps.drop first.toNat).take 8)
      (decide (number.toNat < 8))
      ([ChannelId.bell, .horn, .cab].map fun ch => (s.tnu.channel ch).uses number.toNat)) := by
  unfold State.patternRead
  dsimp only
  rw [if_neg (by omega), if_neg (by omega), present]
  rfl

/-! ## The commands -/

/-- A row that reads: its command answers from the state at its moment, and leaves it. -/
theorem exec_read {i : Instr} {t : Nat} {kind tag : Byte} {c : LinkCommand} {v w : Verdict}
    (row : exec i s = .next (s.command t kind tag c)) (ready : LinkReady s)
    (run : (s.atTime t).runCommand c = (s.atTime t, w)) (reads : w = v) :
    exec i s = .next (s.answered t kind tag v) :=
  exec_answered row ready (run.trans (congrArg _ reads))

/-- Settles O54, command by command. -/
theorem readCommands : Obligations.ReadCommands := by
  rintro t tag code number first id s _ ready rfl
  refine ⟨exec_answered rfl ready rfl, exec_answered rfl ready rfl, exec_answered rfl ready rfl,
    fun h => exec_read rfl ready rfl (State.statusRead_drive h),
    fun h => exec_read rfl ready rfl (State.statusRead_loop h),
    fun h => exec_read rfl ready rfl (State.statusRead_doors h),
    fun ch h => exec_read rfl ready rfl (State.statusRead_channel h),
    fun h => ⟨_, exec_read rfl ready rfl (State.statusRead_unnamed h)⟩,
    fun h => exec_read rfl ready rfl (State.routeRead_plan h),
    fun h empty => exec_read rfl ready rfl (State.routeRead_empty h empty),
    fun h e head => exec_read rfl ready rfl (State.routeRead_head h head),
    fun h => ⟨_, exec_read rfl ready rfl (State.routeRead_unnamed h)⟩,
    fun h => ⟨_, exec_read rfl ready rfl (State.junctionRead_unnamed h)⟩,
    fun low high empty => exec_read rfl ready rfl (State.junctionRead_empty ⟨low, high⟩ empty),
    fun j loaded low high => exec_read rfl ready rfl (State.junctionRead_loaded ⟨low, high⟩ loaded),
    fun h => ?_, fun slot h => ⟨?_, ?_⟩, fun h => ?_, fun h start => ⟨?_, ?_⟩⟩
  · obtain ⟨clause, unnamed⟩ := slotNamed_error h
    exact ⟨_, exec_read rfl ready rfl (State.restrictRead_unnamed unnamed)⟩
  · exact fun empty => exec_read rfl ready rfl (State.restrictRead_empty (slotNamed_ok h) empty)
  · exact fun e held => exec_read rfl ready rfl (State.restrictRead_held (slotNamed_ok h) held)
  · obtain ⟨clause, unnamed⟩ := State.patternRead_unnamed (s := s.atTime t) h
    exact ⟨_, exec_read rfl ready rfl unnamed⟩
  · exact fun absent => exec_read rfl ready rfl (State.patternRead_absent h start absent)
  · intro p present
    simp only [← Channel.uses_eq]
    exact exec_read rfl ready rfl (State.patternRead_present h start present)

end Sys2Proof.Machine
end

section
/-! SUPPORT. The stages of a control interval (R59) as functions of the drive, and what a trip makes of it (R38). -/

namespace Sys2Proof.Machine

variable (s : State)

/-! ## Stages 1 to 3 (R44 to R46, R51, R52 to R56) -/

/-- R44 to R46: the drive after stage 1. -/
def Drc.handled (now : Nat) (d : Drc) : Drc :=
  match d.judgeHandle now with
  | some h =>
    { d with h := h, handleFault := false, brakeHeld := if h = -100 then min 65535 (d.brakeHeld + 20) else 0 }
  | none => { d with h := -100, handleFault := true, brakeHeld := 0 }

theorem State.handleStage_drc : s.handleStage.drc = s.drc.handled s.now := by
  unfold State.handleStage Drc.handled
  cases s.drc.judgeHandle s.now with
  | some h => dsimp only; split <;> rfl
  | none => dsimp only; split <;> rfl

/-- R51: the drive after stage 2. -/
def Drc.referenced (a b : AxleChannel) (d : Drc) : Drc :=
  { d with refClass := (reference d.u a b).1, ref := (reference d.u a b).2 }

theorem State.referenceStage_drc : s.referenceStage.drc = s.drc.referenced s.amu.a s.amu.b := rfl

/-- R52 to R56: the drive after stage 3. -/
def Drc.adhered (p : Params) (a b : AxleChannel) (d : Drc) : Drc :=
  d.relax.judgeAdhesion (slipThreshold p d.relax.ref) (axleDifference a b)

theorem State.adhesionStage_drc : s.adhesionStage.drc = s.drc.adhered s.params s.amu.a s.amu.b := rfl

/-- R59: the drive after stages 1 to 3. -/
theorem State.measured_drc : s.measured.drc =
    ((s.drc.handled s.now).referenced s.amu.a s.amu.b).adhered s.params s.amu.a s.amu.b := by
  rw [State.measured, State.adhesionStage_drc, State.referenceStage_drc, State.handleStage_drc]
  simp

/-- Stage 1 writes the handle alone. -/
theorem Drc.handled_frame (now : Nat) (d : Drc) : d.handled now =
    { d with h := (d.handled now).h, handleFault := (d.handled now).handleFault
             brakeHeld := (d.handled now).brakeHeld } := by
  unfold Drc.handled
  split <;> rfl

theorem Drc.relax_frame (d : Drc) : d.relax =
    { d with tcap := d.relax.tcap, bcap := d.relax.bcap, runOn := d.relax.runOn, sand := d.relax.sand } := by
  unfold Drc.relax
  split <;> rfl

theorem Drc.judgeAdhesion_frame (threshold diff : Nat) (d : Drc) : d.judgeAdhesion threshold diff =
    { d with adhesion := (d.judgeAdhesion threshold diff).adhesion, quiet := (d.judgeAdhesion threshold diff).quiet
             tcap := (d.judgeAdhesion threshold diff).tcap, bcap := (d.judgeAdhesion threshold diff).bcap
             runOn := (d.judgeAdhesion threshold diff).runOn, sand := (d.judgeAdhesion threshold diff).sand
             u := (d.judgeAdhesion threshold diff).u, buffer := (d.judgeAdhesion threshold diff).buffer } := by
  unfold Drc.judgeAdhesion
  (repeat' split) <;> rfl

/-- Stage 3 writes the adhesion, its caps, the sand and u. -/
theorem Drc.adhered_frame (p : Params) (a b : AxleChannel) (d : Drc) : d.adhered p a b =
    { d with adhesion := (d.adhered p a b).adhesion, quiet := (d.adhered p a b).quiet, tcap := (d.adhered p a b).tcap
             bcap := (d.adhered p a b).bcap, runOn := (d.adhered p a b).runOn, sand := (d.adhered p a b).sand
             u := (d.adhered p a b).u, buffer := (d.adhered p a b).buffer } := by
  unfold Drc.adhered
  rw [Drc.judgeAdhesion_frame, d.relax_frame]

/-! ## Stage 4 (R27, R28, R31, R33) -/

/-- The drive without what stage 4 writes: the table, its ceilings and u. -/
def Drc.besidePosts (d : Drc) : Drc := { d with table := .initial, vCeil := 0, vSup := 0, u := 0, buffer := 0 }

theorem Drc.clipped_besidePosts (e : Entry) (d : Drc) : (d.clipped e).besidePosts = d.besidePosts := rfl

theorem State.activateSlot_besidePosts (track : Pos) (slot : Slot) (s : State) :
    (s.activateSlot track slot).1.drc.besidePosts = s.drc.besidePosts := by
  simp only [State.activateSlot, State.clip_eq]
  (repeat' split) <;> rfl

theorem State.expireSlot_besidePosts (track : Pos) (slot : Slot) (s : State) :
    (s.expireSlot track slot).1.drc.besidePosts = s.drc.besidePosts := by
  unfold State.expireSlot
  (repeat' split) <;> rfl

theorem State.judgeSlots_besidePosts {judge : Slot → State → State × List (RestrictEvent × Slot × Entry)}
    (h : ∀ slot s, (judge slot s).1.drc.besidePosts = s.drc.besidePosts) (slots : List Slot) (s : State) :
    (s.judgeSlots judge slots).1.drc.besidePosts = s.drc.besidePosts :=
  State.judgeSlots_frame s judge (fun a b => b.drc.besidePosts = a.drc.besidePosts) (fun _ => rfl)
    (fun _ _ _ hab hbc => hbc.trans hab) h slots

theorem Drc.recompute_besidePosts (v : Nat) (d : Drc) : (d.recompute v).besidePosts = d.besidePosts := rfl

theorem Drc.superviseCeiling_besidePosts (n : Nat) (d : Drc) :
    (d.superviseCeiling n).besidePosts = d.besidePosts := rfl

/-- Stage 4 writes the table, its ceilings and u. -/
theorem State.ceilingStage_besidePosts : s.ceilingStage.drc.besidePosts = s.drc.besidePosts := by
  rw [State.ceilingStage_drc, Drc.superviseCeiling_besidePosts, Drc.recompute_besidePosts, State.judged,
    State.judgeSlots_besidePosts (State.expireSlot_besidePosts _),
    State.judgeSlots_besidePosts (State.activateSlot_besidePosts _)]

/-! ## Trips (R38) -/

variable {s}

theorem State.trip_ready (h : s.drc.driveState = .ready) (cause : TripReason) : s.trip cause =
    State.handOnTrip .ready cause { s with drc := s.drc.enterTripped cause } := by
  simp only [State.trip, h]

theorem State.trip_tripped (h : s.drc.driveState = .tripped) (cause : TripReason) : s.trip cause =
    State.handOnTrip .tripped cause { s with drc := { s.drc with tripReason := some cause, resetCount := 0 } } := by
  simp only [State.trip, h]

theorem State.trip_ready_drc (h : s.drc.driveState = .ready) (cause : TripReason) :
    (s.trip cause).drc = s.drc.trippedBy cause := by
  rw [State.trip_ready h, State.handOnTrip_drc]
  rfl

theorem State.trip_tripped_drc (h : s.drc.driveState = .tripped) (cause : TripReason) : (s.trip cause).drc =
    { s.drc with tripReason := some cause, resetCount := 0, warnVigilance := false, warnDrive := false } := by
  rw [State.trip_tripped h, State.handOnTrip_drc]

/-! ## Stage 5 (R40, R57, R58) -/

/-- R58: the drive once the band has been set. -/
theorem State.setBand_drc (b : Band) (s : State) : (s.setBand b).drc =
    { s.drc with band := b
                 warnDrive := !decide (b = .normal) && (decide (s.drc.band = .normal) || s.drc.warnDrive) } := by
  unfold State.setBand
  dsimp only
  split
  · next hb => rw [State.endDriveWarning_drc, hb]; rfl
  · next hb =>
    split
    · next hp => simp [hb, hp]
    · next hp => simp [hb, hp]

/-- R40: the drive after the reset procedure, which holds or not. -/
def Drc.resetStep (holds : Bool) (d : Drc) : Drc :=
  if holds then
    if resetRequirement d.refClass ≤ min 250 (d.resetCount + 1) then
      { d with driveState := .ready, loop := true, resetCount := 0 }
    else { d with resetCount := min 250 (d.resetCount + 1) }
  else { d with resetCount := 0 }

theorem State.resetStage_drc (s : State) : s.resetStage.drc = s.drc.resetStep (resetHolds s) := by
  unfold State.resetStage Drc.resetStep
  split
  · dsimp only
    split <;> rfl
  · rfl

theorem Drc.resetStep_frame (holds : Bool) (d : Drc) : d.resetStep holds =
    { d with driveState := (d.resetStep holds).driveState, loop := (d.resetStep holds).loop
             resetCount := (d.resetStep holds).resetCount } := by
  unfold Drc.resetStep
  (repeat' split) <;> rfl

theorem State.bandStage_unconfigured (h : s.drc.driveState = .unconfigured) : s.bandStage = s.setBand .normal := by
  simp only [State.bandStage, h]

theorem State.bandStage_tripped (h : s.drc.driveState = .tripped) :
    s.bandStage = (s.setBand .normal).resetStage := by
  simp only [State.bandStage, h]

theorem State.bandStage_lost (h : s.drc.driveState = .ready) (lost : s.drc.refClass = .lost) :
    s.bandStage = s.setBand .normal := by
  simp only [State.bandStage, h, lost, if_true]

theorem State.bandStage_banded {b : Band} (h : s.drc.driveState = .ready) (known : s.drc.refClass ≠ .lost)
    (band : nextBand s.drc.band ((s.drc.ref : Int) - s.drc.vSup) = some b) : s.bandStage = s.setBand b := by
  simp only [State.bandStage, h, known, if_false, band]

theorem State.bandStage_overspeed (h : s.drc.driveState = .ready) (known : s.drc.refClass ≠ .lost)
    (band : nextBand s.drc.band ((s.drc.ref : Int) - s.drc.vSup) = none) : s.bandStage = s.trip .overspeed := by
  simp only [State.bandStage, h, known, if_false, band]

/-- R40, R57: what stage 5 does: in READY it sets a band or trips, in TRIPPED it judges the reset procedure. -/
theorem State.bandStage_cases (s : State) :
    (∃ b, (s.drc.driveState = .unconfigured → b = .normal) ∧ s.drc.driveState ≠ .tripped ∧
      s.bandStage = s.setBand b) ∨
    (s.drc.driveState = .tripped ∧ s.bandStage = (s.setBand .normal).resetStage) ∨
    (s.drc.driveState = .ready ∧ s.bandStage = s.trip .overspeed) := by
  cases h : s.drc.driveState with
  | unconfigured => exact .inl ⟨_, fun _ => rfl, nofun, State.bandStage_unconfigured h⟩
  | tripped => exact .inr (.inl ⟨rfl, State.bandStage_tripped h⟩)
  | ready =>
    by_cases lost : s.drc.refClass = .lost
    · exact .inl ⟨_, nofun, nofun, State.bandStage_lost h lost⟩
    · cases band : nextBand s.drc.band ((s.drc.ref : Int) - s.drc.vSup) with
      | none => exact .inr (.inr ⟨rfl, State.bandStage_overspeed h lost band⟩)
      | some b => exact .inl ⟨b, nofun, nofun, State.bandStage_banded h lost band⟩

/-- Stage 5 writes the drive state with what goes with it, the band and the warnings. -/
theorem State.bandStage_drc_frame (s : State) : s.bandStage.drc =
    { s.drc with driveState := s.bandStage.drc.driveState, tripReason := s.bandStage.drc.tripReason
                 loop := s.bandStage.drc.loop, resetCount := s.bandStage.drc.resetCount, u := s.bandStage.drc.u
                 buffer := s.bandStage.drc.buffer, vigilance := s.bandStage.drc.vigilance
                 warnVigilance := s.bandStage.drc.warnVigilance, warnDrive := s.bandStage.drc.warnDrive
                 band := s.bandStage.drc.band } := by
  rcases s.bandStage_cases with ⟨b, -, -, e⟩ | ⟨-, e⟩ | ⟨ready, e⟩ <;> rw [e]
  · rw [State.setBand_drc]
  · rw [State.resetStage_drc, Drc.resetStep_frame, State.setBand_drc]
  · rw [State.trip_ready_drc ready]
    rfl

/-! ## Stages 6 to 8, and the settling (R60 to R62, R8, R50) -/

/-- R37, R60, R61: u as the last stages of an interval leave it. -/
def State.nextU (s : State) : Int :=
  match s.drc.driveState with
  | .unconfigured => 0
  | .tripped => -100
  | .ready => ramp s.params (s.drc.target s.params.serviceBrake.toInt) s.drc.u

theorem State.outputStage_eq (s : State) : s.outputStage = s.setU s.nextU := by
  unfold State.outputStage State.nextU
  cases s.drc.driveState <;> rfl

/-- R8, R50: of the drive, the settling writes the vigilance timer and its warning. -/
theorem State.settle_drc (s : State) : s.settle.drc =
    { s.drc with vigilance := s.settle.drc.vigilance, warnVigilance := s.settle.drc.warnVigilance } := by
  obtain ⟨-, -, drive, -⟩ := s.settle_spec
  rw [drive]

end Sys2Proof.Machine
end

section
/-! O4: the emergency loop, the demand value and the demand line over every command. -/

namespace Sys2Proof.Machine

/-- Of the drive: what `DriveSafe` and `DemandBounded` read. -/
structure DemandView where
  table      : Table
  driveState : DriveState
  loop       : Bool
  u          : Int
  buffer     : Int
  duty       : Nat
  h          : Int
  tcap       : Option Int
  bcap       : Option Int

def Drc.demands (d : Drc) : DemandView where
  table := d.table
  driveState := d.driveState
  loop := d.loop
  u := d.u
  buffer := d.buffer
  duty := d.duty
  h := d.h
  tcap := d.tcap
  bcap := d.bcap

/-- R29, R42: an entry of the table forbids traction. -/
def Table.Inhibits (t : Table) : Prop := ∃ slot e, t.get slot = some e ∧ e.inhibits = true

theorem Table.inhibits_iff (t : Table) : t.entries.any Entry.inhibits = true ↔ t.Inhibits := by
  simp only [List.any_eq_true, Table.mem_entries, Table.Inhibits]
  exact ⟨fun ⟨e, ⟨slot, held⟩, he⟩ => ⟨slot, e, held, he⟩, fun ⟨slot, e, held, he⟩ => ⟨e, ⟨slot, held⟩, he⟩⟩

/-- A slot that takes new contents forbids traction by these alone. -/
theorem Table.Inhibits.of_set {t : Table} {slot : Slot} {x : Option Entry} (h : (t.set slot x).Inhibits) :
    t.Inhibits ∨ ∃ e, x = some e ∧ e.inhibits = true := by
  obtain ⟨at_, e, held, he⟩ := h
  by_cases same : at_ = slot
  · subst same
    exact .inr ⟨e, (t.get_set at_ x).symm.trans held, he⟩
  · exact .inl ⟨at_, e, (t.get_set_other _ _ _ same).symm.trans held, he⟩

/-- R37, R42, R53, R62: the drive is safe and its demand in bounds. -/
structure DemandView.Held (x : DemandView) : Prop where
  loop         : x.loop = true ↔ x.driveState = .ready
  inhibited    : x.table.Inhibits → x.u ≤ 0
  unconfigured : x.driveState = .unconfigured → x.u = 0
  tripped      : x.driveState = .tripped → x.u = -100
  demand       : -100 ≤ x.u ∧ x.u ≤ 100
  buffer       : x.buffer = x.u
  duty         : x.duty = 0 ∨ (100 ≤ x.duty ∧ x.duty ≤ 900)
  handle       : -100 ≤ x.h ∧ x.h ≤ 100
  tcap         : ∀ c, x.tcap = some c → 0 ≤ c ∧ c ≤ 99
  bcap         : ∀ c, x.bcap = some c → -99 ≤ c ∧ c ≤ 0

theorem DemandView.Held.idle {x : DemandView} (h : x.Held) (out : x.driveState ≠ .ready) : x.u ≤ 0 := by
  cases state : x.driveState with
  | unconfigured => exact (h.unconfigured state).le
  | tripped => rw [h.tripped state]; decide
  | ready => exact absurd state out

/-- What every command keeps of the drive, with the record and the flag that go with it. -/
structure DriveHeld (s : State) : Prop where
  drive      : s.drc.demands.Held
  configured : s.configured = true ↔ s.drc.driveState ≠ .unconfigured
  service    : -100 ≤ s.params.serviceBrake.toInt

theorem driveHeld_iff {s : State} : DriveHeld s ↔ DriveSafe s ∧ DemandBounded s := by
  constructor
  · rintro ⟨drive, configured, service⟩
    refine ⟨⟨drive.loop, configured, ?_, drive.unconfigured, drive.tripped, fun c hc => (drive.bcap c hc).2⟩,
      drive.demand, drive.buffer, drive.duty, drive.handle, drive.tcap, drive.bcap, service⟩
    rintro (inhibited | out)
    · exact drive.inhibited ((Table.inhibits_iff _).mp inhibited)
    · exact drive.idle out
  · rintro ⟨safe, bounded⟩
    exact ⟨⟨safe.loop, fun h => safe.noTraction (.inl ((Table.inhibits_iff _).mpr h)), safe.unconfigured, safe.tripped,
      bounded.demand, bounded.buffer, bounded.duty, bounded.handle, bounded.tcap, bounded.bcap⟩, safe.configured,
      bounded.service⟩

/-! ## What leaves it alone -/

variable (s : State)

@[simp] theorem State.settle_demands : s.settle.drc.demands = s.drc.demands := by
  rw [s.settle_drc]
  rfl

@[simp] theorem State.settleVigilance_demands : s.settleVigilance.drc.demands = s.drc.demands := by
  obtain ⟨drive, -⟩ := s.settleVigilance_spec
  rw [drive]
  rfl

@[simp] theorem State.setBand_demands (b : Band) : (s.setBand b).drc.demands = s.drc.demands := by
  rw [State.setBand_drc]
  rfl

@[simp] theorem State.tachoEdge_demands (ax : Axle) : (s.tachoEdge ax).drc.demands = s.drc.demands := by
  simp only [State.tachoEdge]
  (repeat' split) <;> simp

@[simp] theorem State.noEdgeExpiry_demands (ax : Axle) : (s.noEdgeExpiry ax).drc.demands = s.drc.demands := by
  simp only [State.noEdgeExpiry]
  split <;> simp

@[simp] theorem State.sensorOpen_demands (ax : Axle) : (s.sensorOpen ax).drc.demands = s.drc.demands := by
  simp only [State.sensorOpen]
  split <;> simp

@[simp] theorem State.sensorOk_demands (ax : Axle) : (s.sensorOk ax).drc.demands = s.drc.demands := by
  simp only [State.sensorOk]
  split <;> simp

@[simp] theorem State.plausibilityExpiry_demands (ax : Axle) :
    (s.plausibilityExpiry ax).drc.demands = s.drc.demands := by
  simp only [State.plausibilityExpiry]
  split <;> simp

@[simp] theorem Drc.handleFall_demands (now : Nat) (d : Drc) : (d.handleFall now).demands = d.demands := by
  unfold Drc.handleFall
  split <;> rfl

/-! ## Posts, lifts and clips (R21, R22, R24, R27 to R29) -/

/-- The table takes new contents, and a u above 0 may be set to 0. -/
theorem DemandView.Held.retable {x y : DemandView} (h : x.Held)
    (eq : y = { x with table := y.table, u := y.u, buffer := y.buffer }) (buffer : y.buffer = y.u)
    (clips : y.u = x.u ∨ y.u = 0 ∧ 0 < x.u) (inhibited : y.table.Inhibits → y.u ≤ 0) : y.Held := by
  obtain ⟨t, state, loop, u, _, duty, handle, tcap, bcap⟩ := y
  simp only [DemandView.mk.injEq, true_and] at eq buffer clips inhibited
  obtain ⟨rfl, rfl, rfl, rfl, rfl, rfl⟩ := eq
  have demand := h.demand
  refine ⟨h.loop, inhibited, fun out => ?_, fun out => ?_, ?_, buffer, h.duty, h.handle, h.tcap, h.bcap⟩
  · have := h.unconfigured out
    dsimp only
    omega
  · have := h.tripped out
    dsimp only
    omega
  · dsimp only
    omega

/-- A slot that is emptied forbids nothing. -/
theorem DemandView.Held.emptied {d : Drc} (h : d.demands.Held) (v : Nat) (slot : Slot) :
    (d.rewritten v slot none).demands.Held := by
  refine h.retable rfl h.buffer (.inl rfl) fun inhibits => ?_
  rcases inhibits.of_set with before | ⟨_, joins, _⟩
  · exact h.inhibited before
  · cases joins

/-- R29: a drive is clipped by an entry that forbids traction. -/
theorem Drc.clipped_u (e : Entry) (d : Drc) : (d.clipped e).u = d.u ∧ ¬(e.inhibits = true ∧ 0 < d.u) ∨
    (d.clipped e).u = 0 ∧ e.inhibits = true ∧ 0 < d.u := by
  unfold Drc.clipped
  split
  · next clips => exact .inr ⟨rfl, clips⟩
  · next kept => exact .inl ⟨rfl, kept⟩

theorem Drc.clipped_buffer {e : Entry} {d : Drc} (h : d.buffer = d.u) : (d.clipped e).buffer = (d.clipped e).u := by
  simp only [Drc.clipped, h]

/-- R29: an entry that joins the table clips the u above 0 that it forbids. -/
theorem DemandView.Held.joined {d m : Drc} (h : d.demands.Held) {slot : Slot} {e : Entry}
    (table : m.table = d.table.set slot (some e)) (rest : m.demands = { d.demands with table := m.table }) :
    (m.clipped e).demands.Held := by
  have before : m.u = d.u := congrArg DemandView.u rest
  have buffer : m.buffer = m.u := (congrArg DemandView.buffer rest).trans (h.buffer.trans before.symm)
  have eq : (m.clipped e).demands = { m.demands with u := (m.clipped e).u, buffer := (m.clipped e).buffer } := rfl
  rw [rest] at eq
  refine h.retable eq (Drc.clipped_buffer buffer) ?_ fun inhibits => ?_
  · change (m.clipped e).u = d.u ∨ (m.clipped e).u = 0 ∧ 0 < d.u
    rw [← before]
    exact (m.clipped_u e).imp And.left fun clips => ⟨clips.1, clips.2.2⟩
  · rcases m.clipped_u e with ⟨u, kept⟩ | ⟨u, -⟩
    · refine u.trans_le ?_
      rw [show (m.clipped e).demands.table = _ from table] at inhibits
      rcases inhibits.of_set with held | ⟨_, ⟨⟩, he⟩
      · exact before.trans_le (h.inhibited held)
      · exact not_lt.mp fun above => kept ⟨he, above⟩
    · exact u.le

theorem DemandView.Held.posted {d : Drc} (h : d.demands.Held) (v : Nat) (slot : Slot) (e : Entry) :
    ((d.rewritten v slot (some e)).clipped e).demands.Held :=
  h.joined (m := d.rewritten v slot (some e)) rfl rfl

theorem DemandView.Held.reposted {v : Nat} {d m : Drc} (r : Reposted v d m) (h : d.demands.Held) : m.demands.Held := by
  induction r with
  | refl => exact h
  | written slot kind ceiling reason _ ih => exact ih.posted v slot _
  | emptied slot _ ih => exact ih.emptied v slot

/-! ## The control interval (R59 to R62) -/

/-- R44: the handle value lies within −100..+100. -/
theorem tdiv_four_mem {x : Int} (h : -400 ≤ x ∧ x ≤ 400) : -100 ≤ x.tdiv 4 ∧ x.tdiv 4 ≤ 100 := by
  rw [Int.tdiv_eq_ediv, show (4 : Int).sign = 1 from rfl]
  split <;> omega

theorem handleValue_mem {width period : Nat} {h : Int} (value : handleValue width period = some h) :
    -100 ≤ h ∧ h ≤ 100 := by
  simp only [handleValue] at value
  split at value
  · cases value
  · split at value
    · cases value
    · cases value
      have mem := tdiv_four_mem (x := (min 900 (max 100 (width * 1000 / period)) : Nat) - 500) (by omega)
      split
      · decide
      · exact mem

theorem Drc.judgeHandle_mem {now : Nat} {d : Drc} {h : Int} (value : d.judgeHandle now = some h) :
    -100 ≤ h ∧ h ≤ 100 := by
  unfold Drc.judgeHandle at value
  split at value
  · cases value
  · split at value
    · cases value
    · exact handleValue_mem value

theorem DemandView.Held.handled {d : Drc} (h : d.demands.Held) (now : Nat) : (d.handled now).demands.Held := by
  unfold Drc.handled
  split
  · next value => exact { h with handle := Drc.judgeHandle_mem value }
  · exact { h with handle := (by decide : -100 ≤ (-100 : Int) ∧ (-100 : Int) ≤ 100) }

theorem relaxTcap_mem {t : Option Int} {c : Int} (h : relaxTcap t = some c) (before : ∀ c, t = some c → 0 ≤ c ∧ c ≤ 99) :
    0 ≤ c ∧ c ≤ 99 := by
  cases t with
  | none => cases h
  | some x =>
    have := before x rfl
    simp only [relaxTcap] at h
    split at h <;> cases h
    omega

theorem relaxBcap_mem {t : Option Int} {c : Int} (h : relaxBcap t = some c)
    (before : ∀ c, t = some c → -99 ≤ c ∧ c ≤ 0) : -99 ≤ c ∧ c ≤ 0 := by
  cases t with
  | none => cases h
  | some x =>
    have := before x rfl
    simp only [relaxBcap] at h
    split at h <;> cases h
    omega

/-- R55: caps that relax stay in their ranges. -/
theorem DemandView.Held.relax {d : Drc} (h : d.demands.Held) : d.relax.demands.Held := by
  unfold Drc.relax
  split
  · exact { h with
      tcap := fun c hc => relaxTcap_mem hc h.tcap
      bcap := fun c hc => relaxBcap_mem hc h.bcap }
  · exact h

/-- R52: a slip cuts a traction demand, so in READY alone, and sets a cap within it. -/
theorem DemandView.Held.detectSlip {d : Drc} (h : d.demands.Held) (traction : 0 < d.u) :
    d.detectSlip.demands.Held := by
  have demand : -100 ≤ d.u ∧ d.u ≤ 100 := h.demand
  have ready : d.driveState = .ready := by
    by_contra out
    exact absurd (h.idle out) (not_le.mpr traction)
  have cut : d.detectSlip.u = min d.u (max 0 (d.u - 15)) := rfl
  refine ⟨h.loop, fun inhibits => absurd (h.inhibited inhibits) (not_le.mpr traction), fun out => ?_, fun out => ?_, ?_, rfl, h.duty,
    h.handle, ?_, h.bcap⟩
  · cases ready.symm.trans out
  · cases ready.symm.trans out
  · change -100 ≤ d.detectSlip.u ∧ d.detectSlip.u ≤ 100
    omega
  · rintro _ ⟨⟩
    simp only [Config.adhesionCut]
    omega

/-- R53: so does a slide with a brake demand of READY. -/
theorem DemandView.Held.detectSlide {d : Drc} (h : d.demands.Held) (ready : d.driveState = .ready)
    (braking : d.u < 0) : d.detectSlide.demands.Held := by
  have demand : -100 ≤ d.u ∧ d.u ≤ 100 := h.demand
  have cut : d.detectSlide.u = max d.u (min 0 (d.u + 15)) := rfl
  refine ⟨h.loop, fun _ => ?_, fun out => ?_, fun out => ?_, ?_, rfl, h.duty, h.handle, h.tcap, ?_⟩
  · change d.detectSlide.u ≤ 0
    omega
  · cases ready.symm.trans out
  · cases ready.symm.trans out
  · change -100 ≤ d.detectSlide.u ∧ d.detectSlide.u ≤ 100
    omega
  · rintro _ ⟨⟩
    simp only [Config.adhesionCut]
    omega

theorem DemandView.Held.adhered {d : Drc} (h : d.demands.Held) (p : Params) (a b : AxleChannel) :
    (d.adhered p a b).demands.Held := by
  have h := h.relax
  unfold Drc.adhered
  generalize d.relax = d at h
  unfold Drc.judgeAdhesion
  split
  · next slip => exact h.detectSlip slip.2.1
  · split
    · next slide => exact h.detectSlide slide.1 slide.2.2.1
    · (repeat' split) <;> exact h

theorem State.measured_held {s : State} (h : s.drc.demands.Held) : s.measured.drc.demands.Held := by
  rw [State.measured_drc]
  exact (DemandView.Held.handled h s.now).adhered (d := (s.drc.handled s.now).referenced s.amu.a s.amu.b) ..

theorem State.activateSlot_held (track : Pos) (slot : Slot) {s : State} (h : s.drc.demands.Held) :
    (s.activateSlot track slot).1.drc.demands.Held := by
  unfold State.activateSlot
  split
  · split
    · dsimp only
      rw [State.clip_eq]
      exact h.joined rfl rfl
    · exact h
  · exact h

theorem State.expireSlot_held (track : Pos) (slot : Slot) {s : State} (h : s.drc.demands.Held) :
    (s.expireSlot track slot).1.drc.demands.Held := by
  unfold State.expireSlot
  split
  · split
    · exact h.emptied 0 slot
    · exact h
  · exact h

theorem State.judgeSlots_held {judge : Slot → State → State × List (RestrictEvent × Slot × Entry)}
    (judged : ∀ (slot : Slot) (s : State), s.drc.demands.Held → (judge slot s).1.drc.demands.Held) (slots : List Slot)
    {s : State} (h : s.drc.demands.Held) : (s.judgeSlots judge slots).1.drc.demands.Held :=
  State.judgeSlots_frame s judge (fun a b => a.drc.demands.Held → b.drc.demands.Held) (fun _ => id)
    (fun _ _ _ hab hbc => hbc ∘ hab) judged slots h

theorem Drc.recompute_demands (v : Nat) (d : Drc) : (d.recompute v).demands = d.demands := rfl

theorem Drc.superviseCeiling_demands (n : Nat) (d : Drc) : (d.superviseCeiling n).demands = d.demands := rfl

theorem State.ceilingStage_held {s : State} (h : s.drc.demands.Held) : s.ceilingStage.drc.demands.Held := by
  rw [State.ceilingStage_drc, Drc.superviseCeiling_demands, Drc.recompute_demands, State.judged]
  have activated := State.judgeSlots_held (judge := State.activateSlot s.amu.trackMm)
    (fun slot _ => State.activateSlot_held _ slot) linkSlots h
  exact State.judgeSlots_held (judge := State.expireSlot s.amu.trackMm)
    (fun slot _ => State.expireSlot_held _ slot) linkSlots activated

/-- R38: a trip brakes and opens the loop; in UNCONFIGURED it has no effect. -/
theorem State.trip_held {s : State} (h : s.drc.demands.Held) (cause : TripReason) :
    (s.trip cause).drc.demands.Held := by
  cases state : s.drc.driveState with
  | unconfigured => rw [State.trip_unconfigured state]; exact h
  | tripped => rw [State.trip_tripped_drc state]; exact h
  | ready =>
    rw [State.trip_ready_drc state]
    have brakes : -100 ≤ (-100 : Int) ∧ (-100 : Int) ≤ 100 ∧ (-100 : Int) ≤ 0 := by decide
    exact ⟨⟨nofun, nofun⟩, fun _ => brakes.2.2, nofun, fun _ => rfl, ⟨brakes.1, brakes.2.1⟩, rfl, h.duty, h.handle,
      h.tcap, h.bcap⟩

/-- R40: the reset procedure energises the loop as it enters READY. -/
theorem DemandView.Held.resetStep {d : Drc} (h : d.demands.Held) (holds : Bool) :
    (d.resetStep holds).demands.Held := by
  unfold Drc.resetStep
  split
  · split
    · exact { h with loop := ⟨fun _ => rfl, fun _ => rfl⟩, unconfigured := nofun, tripped := nofun }
    · exact h
  · exact h

theorem State.bandStage_held {s : State} (h : s.drc.demands.Held) : s.bandStage.drc.demands.Held := by
  rcases s.bandStage_cases with ⟨b, -, -, e⟩ | ⟨-, e⟩ | ⟨-, e⟩ <;> rw [e]
  · rw [State.setBand_demands]
    exact h
  · rw [State.resetStage_drc]
    refine DemandView.Held.resetStep ?_ _
    rw [State.setBand_demands]
    exact h
  · exact State.trip_held h _

/-- R61: the ramp stays in a range that holds u, the target and 0. -/
theorem ramp_mem {p : Params} {target u lo hi : Int} (hu : lo ≤ u ∧ u ≤ hi) (ht : lo ≤ target ∧ target ≤ hi)
    (zero : lo ≤ 0 ∧ 0 ≤ hi) : lo ≤ ramp p target u ∧ ramp p target u ≤ hi := by
  unfold ramp
  have goal : ∀ g : Int, lo ≤ g ∧ g ≤ hi →
      lo ≤ (if u < g then min g (u + if 0 ≤ u then (p.tractionRise.toNat : Int) else p.brakeFall.toNat)
        else if g < u then max g (u - if 0 < u then (p.tractionFall.toNat : Int) else p.brakeRise.toNat) else u) ∧
      (if u < g then min g (u + if 0 ≤ u then (p.tractionRise.toNat : Int) else p.brakeFall.toNat)
        else if g < u then max g (u - if 0 < u then (p.tractionFall.toNat : Int) else p.brakeRise.toNat) else u) ≤ hi := by
    intro g hg
    split
    · split <;> omega
    · split
      · split <;> omega
      · exact hu
  exact goal _ (by split <;> assumption)

/-- R60: the first two limits of the target. -/
def Drc.limited (d : Drc) : Int :=
  if d.refClass = .lost then min (if d.inhibited then min d.h 0 else d.h) 30 else if d.inhibited then min d.h 0 else d.h

/-- R60: the last limit of the target, by the band. -/
def Drc.bandLimited (service x : Int) (d : Drc) : Int :=
  if d.band = .warn then min x 0 else if d.band = .intervene then min x service else x

/-- R60: the limits in their order. -/
theorem Drc.target_eq (service : Int) (d : Drc) : d.target service =
    d.bandLimited service (d.bcap.elim (d.tcap.elim d.limited (min d.limited)) (max (d.tcap.elim d.limited (min d.limited)))) := by
  unfold Drc.target Drc.bandLimited
  simp only [Config.lostTarget]
  cases d.band <;> cases d.tcap <;> cases d.bcap <;> rfl

/-- R60: the target lies within −100..+100, and is not above 0 in the traction-inhibited condition. -/
theorem Drc.target_mem {d : Drc} {service : Int} (h : d.demands.Held) (hs : -100 ≤ service) :
    -100 ≤ d.target service ∧ d.target service ≤ 100 ∧ (d.inhibited = true → d.target service ≤ 0) := by
  have handle : -100 ≤ d.h ∧ d.h ≤ 100 := h.handle
  have tcap : ∀ c, d.tcap = some c → 0 ≤ c ∧ c ≤ 99 := h.tcap
  have bcap : ∀ c, d.bcap = some c → -99 ≤ c ∧ c ≤ 0 := h.bcap
  rw [Drc.target_eq]
  have x1 : -100 ≤ d.limited ∧ d.limited ≤ 100 ∧ (d.inhibited = true → d.limited ≤ 0) := by
    unfold Drc.limited
    cases d.inhibited <;> (split <;> simp <;> omega)
  have x3 : -100 ≤ d.tcap.elim d.limited (min d.limited) ∧ d.tcap.elim d.limited (min d.limited) ≤ d.limited := by
    cases cap : d.tcap with
    | none => exact ⟨x1.1, le_rfl⟩
    | some c =>
      have := tcap c cap
      simp only [Option.elim_some]
      omega
  generalize d.tcap.elim d.limited (min d.limited) = x at x3
  have x4 : -100 ≤ d.bcap.elim x (max x) ∧ d.bcap.elim x (max x) ≤ max x 0 := by
    cases cap : d.bcap with
    | none => exact ⟨x3.1, le_max_left _ _⟩
    | some c =>
      have := bcap c cap
      simp only [Option.elim_some]
      omega
  generalize d.bcap.elim x (max x) = y at x4
  have last : -100 ≤ d.bandLimited service y ∧ d.bandLimited service y ≤ y := by
    unfold Drc.bandLimited
    split
    · omega
    · split <;> omega
  obtain ⟨-, high, inhibited⟩ := x1
  refine ⟨last.1, by omega, fun h => ?_⟩
  have := inhibited h
  omega

theorem State.outputStage_held {s : State} (h : s.drc.demands.Held) (service : -100 ≤ s.params.serviceBrake.toInt) :
    s.outputStage.drc.demands.Held := by
  have demand : -100 ≤ s.drc.u ∧ s.drc.u ≤ 100 := h.demand
  have target := Drc.target_mem h service
  have next : -100 ≤ s.nextU ∧ s.nextU ≤ 100 ∧ (s.drc.table.Inhibits → s.nextU ≤ 0) ∧
      (s.drc.driveState = .unconfigured → s.nextU = 0) ∧ (s.drc.driveState = .tripped → s.nextU = -100) := by
    unfold State.nextU
    cases state : s.drc.driveState with
    | unconfigured => simp
    | tripped => simp
    | ready =>
      have mem := ramp_mem (p := s.params) demand ⟨target.1, target.2.1⟩ (by decide)
      refine ⟨mem.1, mem.2, fun inhibits => ?_, nofun, nofun⟩
      have inhibited : s.drc.inhibited = true := by
        simp [Drc.inhibited, (Table.inhibits_iff _).mpr inhibits]
      exact (ramp_mem (p := s.params) ⟨demand.1, h.inhibited inhibits⟩ ⟨target.1, target.2.2 inhibited⟩ (by decide)).2
  obtain ⟨low, high, inhibited, unconfigured, tripped⟩ := next
  rw [State.outputStage_eq]
  exact ⟨h.loop, inhibited, unconfigured, tripped, ⟨low, high⟩, rfl, h.duty, h.handle, h.tcap, h.bcap⟩

/-- R37, R40: stage 5 neither enters nor leaves UNCONFIGURED. -/
theorem State.bandStage_unconfigured_iff (s : State) :
    s.bandStage.drc.driveState = .unconfigured ↔ s.drc.driveState = .unconfigured := by
  rcases s.bandStage_cases with ⟨b, -, -, e⟩ | ⟨tripped, e⟩ | ⟨-, e⟩ <;> rw [e]
  · rw [State.setBand_drc]
  · rw [State.resetStage_drc, State.setBand_drc, tripped]
    unfold Drc.resetStep
    (repeat' split) <;> simp [tripped]
  · exact s.trip_unconfigured_iff _

/-- Before stage 5 the drive state stands as the interval finds it. -/
theorem State.ceilingStage_driveState (s : State) : s.measured.ceilingStage.drc.driveState = s.drc.driveState := by
  have view : s.measured.ceilingStage.drc.bandView = s.drc.bandView := by simp [State.measured]
  exact Drc.driveState_of_bandView view

theorem State.controlStages_eq (s : State) : s.controlStages = s.measured.ceilingStage.bandStage.outputStage := rfl

/-- R37, R40: nor does the interval. -/
theorem State.controlStages_unconfigured_iff (s : State) :
    s.controlStages.drc.driveState = .unconfigured ↔ s.drc.driveState = .unconfigured := by
  rw [State.controlStages_eq, Drc.driveState_of_bandView (State.outputStage_bandView _),
    State.bandStage_unconfigured_iff, State.ceilingStage_driveState]

theorem State.controlStages_held {s : State} (h : s.drc.demands.Held) (service : -100 ≤ s.params.serviceBrake.toInt) :
    s.controlStages.drc.demands.Held := by
  rw [State.controlStages_eq]
  refine State.outputStage_held (State.bandStage_held (State.ceilingStage_held (State.measured_held h))) ?_
  simpa [State.measured] using service

theorem Reposted.driveState {v : Nat} {d m : Drc} (r : Reposted v d m) : m.driveState = d.driveState := by
  induction r with
  | refl => rfl
  | written _ _ _ _ _ ih => exact ih
  | emptied _ _ ih => exact ih

/-! ## CONFIGURE and RESTART (R39, R181, R184, R185) -/

theorem badField_eq_none {p : Params} : badField p = none ↔ ∀ ok ∈ fieldChecks p, ok = true := by
  simp [badField]

/-- R184: field 8 of an accepted record. -/
theorem serviceBrake_of_badField {p : Params} (h : badField p = none) : -100 ≤ p.serviceBrake.toInt := by
  have field := badField_eq_none.mp h (decide (-100 ≤ p.serviceBrake.toInt) && decide (p.serviceBrake.toInt ≤ -30))
    (by simp [fieldChecks])
  simp only [Bool.and_eq_true, decide_eq_true_eq] at field
  exact field.1

/-- R184: CONFIGURE is refused and changes nothing, or its record is in range, no door session stands, and it is taken.
-/
theorem State.configure_taken (p : Params) (s : State) : (s.configure p).1 = s ∨
    badField p = none ∧ (s.configure p).1 = s.takeConfigure p := by
  unfold State.configure
  split
  · exact .inl rfl
  · next accepted =>
    refine .inr ⟨?_, rfl⟩
    unfold refuseConfigure at accepted
    split at accepted
    · cases accepted
    · next range => exact range

theorem DemandView.Held.leavesUnconfigured {s : State} (h : s.drc.demands.Held)
    (unconfigured : s.drc.driveState = .unconfigured) : s.leaveUnconfigured.drc.demands.Held := by
  have brakes : -100 ≤ (-100 : Int) ∧ (-100 : Int) ≤ 100 ∧ (-100 : Int) ≤ 0 := by decide
  refine ⟨⟨fun on => ?_, nofun⟩, fun _ => brakes.2.2, nofun, fun _ => rfl, ⟨brakes.1, brakes.2.1⟩, rfl, h.duty,
    h.handle, h.tcap, h.bcap⟩
  cases unconfigured.symm.trans (h.loop.mp on)

/-- R39, R185: the drive's part of CONFIGURE. -/
theorem State.configureDrc_held {s : State} (h : s.drc.demands.Held) {first : Bool}
    (unconfigured : first = true → s.drc.driveState = .unconfigured) : (s.configureDrc first).drc.demands.Held := by
  have reposted : ∃ m : State, Reposted s.params.vehicleMax.toNat s.recompute.drc m.drc ∧
      s.configureDrc first = if first then m.leaveUnconfigured else m := by
    refine ⟨_, ?_, rfl⟩
    split
    · exact .post (s := s.recompute) rfl .refl ..
    · exact .refl
  obtain ⟨m, reposted, eq⟩ := reposted
  have held : m.drc.demands.Held := .reposted reposted h
  rw [eq]
  split
  · next isFirst => exact held.leavesUnconfigured (reposted.driveState.trans (unconfigured isFirst))
  · exact held

theorem State.configureSdu_held {s : State} (h : s.drc.demands.Held) (first : Bool) :
    (s.configureSdu first).drc.demands.Held := by
  have remapped : s.remapButtons.drc.demands.Held := by rwa [s.remapButtons_frame.2.2.2.2.1]
  unfold State.configureSdu
  dsimp only
  generalize s.remapButtons = m at remapped
  split
  · exact .reposted (v := m.params.vehicleMax.toNat) (.examineDoors rfl .refl) remapped
  · exact remapped

/-- R181: RESTART empties the link slots. -/
theorem State.dropLinkEntries_held {s : State} (h : s.drc.demands.Held) : s.dropLinkEntries.drc.demands.Held := by
  refine h.retable rfl h.buffer (.inl rfl) fun ⟨slot, e, held, he⟩ => h.inhibited ⟨slot, e, ?_, he⟩
  cases slot with
  | link i => simp [State.dropLinkEntries, State.recompute, Drc.recompute, Drc.demands, Table.get] at held
  | _ => exact held

/-! ## The events and the commands -/

namespace DriveHeld

variable {s s' : State}

/-- An operation that reaches neither the demands nor the record. -/
theorem of_demands (h : DriveHeld s) (demands : s'.drc.demands = s.drc.demands) (params : s'.params = s.params)
    (configured : s'.configured = s.configured) : DriveHeld s' where
  drive := demands ▸ h.drive
  configured := by
    have state : s'.drc.driveState = s.drc.driveState := congrArg DemandView.driveState demands
    rw [configured, state]
    exact h.configured
  service := params ▸ h.service

/-- The state is written out: nothing that the demands are read from is among its changes. -/
theorem of_eq {m : State} (h : DriveHeld s) (eq : s' = m) (demands : m.drc.demands = s.drc.demands)
    (params : m.params = s.params) (configured : m.configured = s.configured) : DriveHeld s' :=
  eq ▸ h.of_demands demands params configured

/-- An operation that keeps the drive safe, and stays in or out of UNCONFIGURED. -/
theorem of_held (h : DriveHeld s) (drive : s'.drc.demands.Held)
    (state : s'.drc.driveState = .unconfigured ↔ s.drc.driveState = .unconfigured) (params : s'.params = s.params)
    (configured : s'.configured = s.configured) : DriveHeld s' :=
  ⟨drive, by rw [configured, h.configured, ne_eq, ne_eq, state], params ▸ h.service⟩

/-- An operation that reaches the drive by posts and lifts of the internal owners alone. -/
theorem of_reposted (h : DriveHeld s) (r : Reposted s.params.vehicleMax.toNat s.drc s'.drc)
    (params : s'.params = s.params) (configured : s'.configured = s.configured) : DriveHeld s' :=
  h.of_held (.reposted r h.drive) (by rw [r.driveState]) params configured

theorem trip (h : DriveHeld s) (cause : TripReason) : DriveHeld (s.trip cause) :=
  h.of_held (State.trip_held h.drive cause) (s.trip_unconfigured_iff cause) (by simp) (by simp)

theorem settle (h : DriveHeld s) : DriveHeld s.settle := h.of_demands (by simp) (by simp) (by simp)

theorem controlInterval (h : DriveHeld s) : DriveHeld s.controlInterval := by
  have due : DriveHeld { s with drc := { s.drc with intervalDue := s.drc.intervalDue + Config.intervalLength } } :=
    h.of_demands rfl rfl rfl
  unfold State.controlInterval
  split
  · exact (due.of_held (State.controlStages_held due.drive due.service) (State.controlStages_unconfigured_iff _)
      (by simp) (by simp)).settle
  · exact h

/-- R49: a u above 0 that is set to 0 forbids nothing more. -/
theorem setU_zero (h : DriveHeld s) (above : 0 < s.drc.u) : DriveHeld (s.setU 0) :=
  h.of_held (h.drive.retable rfl rfl (.inr ⟨rfl, above⟩) fun _ => le_rfl) .rfl rfl rfl

/-- R49: a reverser change moves the REVERSE entry, may set u to 0, and may trip. -/
theorem takeReverser (h : DriveHeld s) (r : Reverser) : DriveHeld (s.takeReverser r) := by
  have moved : DriveHeld { s with
      drc := { s.drc with reverser := r }, amu := { s.amu with direction := directionAfter r s.amu.direction } } :=
    h.of_demands rfl rfl rfl
  have entry := moved.of_reposted (.reverseEntry rfl .refl r) (by simp) (by simp)
  unfold State.takeReverser
  split
  · exact h
  · dsimp only
    generalize State.reverseEntry r _ = m at entry
    have clipped : DriveHeld (if r = .neutral ∧ 0 < m.drc.u then m.setU 0 else m) := by
      split
      · next above => exact entry.setU_zero above.2
      · exact entry
    generalize (if r = .neutral ∧ 0 < m.drc.u then m.setU 0 else m) = n at clipped
    split
    · exact clipped
    · exact clipped.trip _

/-- R142: a press of a cab door button. -/
theorem doorPress (h : DriveHeld s) (b : DoorButton) {act : State → State}
    (acts : ∀ s, DriveHeld s → DriveHeld (act s)) : DriveHeld (s.doorPress b act) := by
  have disarmed : DriveHeld { s with sdu := s.sdu.arm b false } := h.of_demands rfl rfl rfl
  rcases s.doorPress_cases b act with e | e | e <;> rw [e]
  · exact h
  · exact disarmed
  · exact acts _ disarmed

/-- R62: the duty of a demand-line period follows the buffer. -/
theorem demandPeriod (h : DriveHeld s) : DriveHeld s.demandPeriod := by
  unfold State.demandPeriod
  split
  · refine h.of_held { h.drive with duty := ?_ } .rfl rfl rfl
    have demand : -100 ≤ s.drc.u ∧ s.drc.u ≤ 100 := h.drive.demand
    have buffer : s.drc.buffer = s.drc.u := h.drive.buffer
    change s.drc.periodDuty = 0 ∨ 100 ≤ s.drc.periodDuty ∧ s.drc.periodDuty ≤ 900
    simp only [Drc.periodDuty, buffer]
    split
    · exact .inl rfl
    · exact .inr (by omega)
  · exact h

/-- No event of a block breaks it. -/
theorem event (h : DriveHeld s) (e : Event s s') : DriveHeld s' := by
  cases e with
  | nothing => exact h
  | controlInterval => exact h.controlInterval
  | handleRise | detentOpen | selectorRelease | buttonInactive => exact h.of_demands rfl rfl rfl
  | reverser r => exact (h.takeReverser r).settle
  | detentClose =>
    unfold State.closeDetent
    split
    · exact h.settle
    · exact ((h.of_demands (s' := { s with drc := { s.drc with detent := true } }) rfl rfl rfl).trip _).settle
  | vigilanceTrip => exact (h.trip _).settle
  | emergencyStop tag =>
    unfold State.emergencyStop
    split
    · exact h.of_demands rfl rfl rfl
    · exact (h.trip _).settle.of_demands rfl rfl rfl
  | demandPeriod => exact h.demandPeriod
  | deadman pressed => exact h.of_demands (by simp; rfl) (by simp) (by simp)
  | vigilanceWarning => exact h.of_demands (by simp; rfl) (by simp) (by simp)
  | selectorPress sel => exact h.of_reposted (.selectorPress rfl .refl sel) (by simp) (by simp)
  | approachInterval => exact h.of_reposted (.approachInterval rfl .refl) (by simp) (by simp)
  | loopPage page => exact h.of_reposted (.loopPage rfl .refl page) (by simp) (by simp)
  | contactLost => exact h.of_reposted (.contactLost rfl .refl) (by simp) (by simp)
  | releasePress side =>
    exact h.doorPress _ fun s h => h.of_reposted (.releaseRequest rfl .refl side) (by simp) (by simp)
  | closePress => exact h.doorPress _ fun s h => h.of_reposted (.closeRequest rfl .refl) (by simp) (by simp)
  | doorInput door locked => exact h.of_reposted (.doorInput rfl .refl door locked) (by simp) (by simp)
  | bypassOn => exact h.of_reposted (.bypassOn rfl .refl) (by simp) (by simp)
  | bypassOff => exact h.of_reposted (.bypassOff rfl .refl) (by simp) (by simp)
  | _ => exact h.of_demands (by simp) (by simp) (by simp)

theorem restrictPost (h : DriveHeld s) (p : RestrictPost) : DriveHeld (s.restrictPost p).1 := by
  rcases s.restrictPost_cases p with e | ⟨replaced, slot, kind, e⟩ <;> rw [e]
  · exact h
  · exact h.of_held (h.drive.posted ..) .rfl rfl rfl

theorem restrictLift (h : DriveHeld s) (owner linkId : Byte) : DriveHeld (s.restrictLift owner linkId).1 := by
  rcases s.restrictLift_cases owner linkId with e | ⟨slot, entry, e⟩ <;> rw [e]
  · exact h
  · exact h.of_held (h.drive.emptied _ slot) .rfl rfl rfl

/-- R39, R185: an accepted CONFIGURE, whose record is in range. -/
theorem takeConfigure (h : DriveHeld s) {p : Params} (range : badField p = none) : DriveHeld (s.takeConfigure p) := by
  have first : (!s.configured) = true → s.drc.driveState = .unconfigured := by
    intro hc
    by_contra state
    simp [h.configured.mpr state] at hc
  obtain ⟨-, -, -, -, -, params, configured⟩ := s.takeConfigure_frame p
  have state : (s.takeConfigure p).drc.driveState = if !s.configured then .tripped else s.drc.driveState := by
    refine (congrArg DemandView.driveState (State.settle_demands _)).trans ?_
    refine (Drc.driveState_of_bandView (State.configureSdu_bandView ..)).trans ?_
    exact congrArg Prod.fst (State.configureDrc_bandView ..)
  refine ⟨?_, ?_, ?_⟩
  · rw [State.takeConfigure, State.settle_demands]
    exact State.configureSdu_held (State.configureDrc_held
      (s := { s with params := storedParams p, configured := true }) h.drive first) _
  · rw [configured, state]
    cases was : s.configured with
    | false => simp
    | true => simp [h.configured.mp was]
  · rw [params]
    exact serviceBrake_of_badField (p := p) range

theorem restartCommand (h : DriveHeld s) : DriveHeld s.restartCommand.1 := by
  unfold State.restartCommand
  split
  · have dropped : DriveHeld s.dropLinkEntries := h.of_held (State.dropLinkEntries_held h.drive) .rfl rfl rfl
    exact (dropped.of_reposted (.restartRoute rfl .refl) (by simp) (by simp)).of_demands rfl rfl rfl
  · exact h

/-- No command of the cab link breaks it. -/
theorem runCommand (h : DriveHeld s) (c : LinkCommand) : DriveHeld (s.runCommand c).1 := by
  cases c with
  | configure p =>
    change DriveHeld (s.configure p).1
    rcases s.configure_taken p with e | ⟨range, e⟩ <;> rw [e]
    · exact h
    · exact h.takeConfigure range
  | restrictPost post => exact h.restrictPost post
  | restrictLift owner id => exact h.restrictLift owner id
  | restart => exact h.restartCommand
  | junctionLoad load => exact h.of_eq (s.junctionLoad_frame load) rfl rfl rfl
  | junctionDrop id => exact h.of_eq (s.junctionDrop_frame id) rfl rfl rfl
  | routeAppend id sel => exact h.of_eq (s.routeAppend_frame id sel) rfl rfl rfl
  | routeClear => exact h.of_eq s.routeClear_frame rfl rfl rfl
  | patternLoad load => exact h.of_eq (s.patternLoad_frame load) rfl rfl rfl
  | stopClear target => exact h.of_eq (s.stopClear_frame target) rfl rfl rfl
  | buttonIsolate i a => exact h.of_eq (s.buttonIsolate_frame i a) rfl rfl rfl
  | reportRate r => exact h.of_eq (s.reportRate_frame r) rfl rfl rfl
  | faultsRead n => exact h.of_eq (s.faultsRead_frame n) rfl rfl rfl
  | _ => exact h.of_demands (by simp [State.runCommand]) (by simp [State.runCommand]) (by simp [State.runCommand])

theorem kept : Kept DriveHeld where
  time _ _ h := h.of_demands rfl rfl rfl
  clp _ _ h := h.of_demands rfl rfl rfl
  event _ _ e h := h.event e
  run c _ h := h.runCommand c

/-- R35, R37, R65: the drive that POWER_ON leaves. -/
theorem poweredOn (now : Nat) (q : List Instr) (p : PowerInputs) : DriveHeld (State.poweredOn now q p) where
  drive := by
    refine ⟨⟨nofun, nofun⟩, fun _ => le_rfl, fun _ => rfl, nofun, ?_, rfl, .inl rfl, ?_, nofun, nofun⟩ <;>
      exact (by decide : -100 ≤ (0 : Int) ∧ (0 : Int) ≤ 100)
  configured := ⟨nofun, fun h => absurd rfl h⟩
  service := (by decide : -100 ≤ (BitVec.ofInt 8 (-60)).toInt)

end DriveHeld

/-- Settles O4: every command but POWER_ON keeps the drive safe, and after POWER_ON it is safe anyway. -/
theorem driveKept : Obligations.DriveKept := fun _ _ safe bounded hstep =>
  driveHeld_iff.mp (DriveHeld.kept.step (fun _ _ h => h.of_demands rfl rfl rfl) DriveHeld.poweredOn
    (driveHeld_iff.mpr ⟨safe, bounded⟩) hstep)

end Sys2Proof.Machine
end

section
/-! O19, O25 and O31: the handle's capture, the ramp and the demand-line period. -/

namespace Sys2Proof.Machine

/-! ## The capture of a handle cycle (R43) -/

theorem Drc.handleRise_started {d : Drc} {st : Nat} (start : d.cycleStart = some st) (now : Nat) :
    d.handleRise now = { d with
      cycleStart := some now, cycleWidth := none
      lastCycle := some { width := d.cycleWidth.getD (now - st), period := now - st, doneAt := now } } := by
  simp [Drc.handleRise, start]

theorem Drc.handleRise_first {d : Drc} (start : d.cycleStart = none) (now : Nat) :
    d.handleRise now = { d with cycleStart := some now, cycleWidth := none } := by
  simp [Drc.handleRise, start]

theorem Drc.handleFall_first {d : Drc} {st : Nat} (start : d.cycleStart = some st) (width : d.cycleWidth = none)
    (now : Nat) : d.handleFall now = { d with cycleWidth := some (now - st) } := by
  simp [Drc.handleFall, start, width]

theorem Drc.handleFall_ignored {d : Drc} (h : d.cycleStart = none ∨ d.cycleWidth ≠ none) (now : Nat) :
    d.handleFall now = d := by
  unfold Drc.handleFall
  split
  · next start width => simp [start, width] at h
  · rfl

/-- Settles O19. -/
theorem handleCapture : Obligations.HandleCapture := by
  rintro t now s rfl
  have rise : exec (.handleCycle t) s = .next { s with now := max s.now t, drc := s.drc.handleRise (max s.now t) } := rfl
  have fall : exec (.handleFallingEdge t) s =
      .next { s with now := max s.now t, drc := s.drc.handleFall (max s.now t) } := rfl
  refine ⟨fun st start => ?_, fun start => ?_, fun st start width => ?_, fun ignored => ?_, rfl, rfl⟩
  · rw [rise, Drc.handleRise_started start]
  · rw [rise, Drc.handleRise_first start]
  · rw [fall, Drc.handleFall_first start width]
  · rw [fall, Drc.handleFall_ignored ignored]

/-! ## The ramp (R61) -/

/-- R61: the value the ramp moves toward. -/
def rampGoal (target u : Int) : Int := if u ≠ 0 ∧ target.sign ≠ u.sign then 0 else target

/-- R61: the step of Table 3-6. -/
def rampBy (p : Params) (goal u : Int) : Int :=
  if u < goal then (if 0 ≤ u then (p.tractionRise.toNat : Int) else p.brakeFall.toNat)
  else if 0 < u then (p.tractionFall.toNat : Int) else p.brakeRise.toNat

theorem ramp_eq (p : Params) (target u : Int) : ramp p target u =
    if u < rampGoal target u then min (rampGoal target u) (u + rampBy p (rampGoal target u) u)
    else if rampGoal target u < u then max (rampGoal target u) (u - rampBy p (rampGoal target u) u)
    else u := by
  have goal : (if target.sign ≠ u.sign ∧ u ≠ 0 then 0 else target) = rampGoal target u := by
    simp only [rampGoal, and_comm]
  unfold ramp
  simp only [goal, rampBy]
  split <;> rfl

/-- R61: the ramp moves toward no value beyond 0. -/
theorem rampGoal_side (target u : Int) : (0 < u → 0 ≤ rampGoal target u) ∧ (u < 0 → rampGoal target u ≤ 0) := by
  unfold rampGoal
  split
  · simp
  · next same =>
    constructor <;> intro side
    · have : target.sign = 1 := by rw [← Int.sign_eq_one_of_pos side]; by_contra h; exact same ⟨by omega, h⟩
      exact (Int.sign_eq_one_iff_pos.mp this).le
    · have : target.sign = -1 := by rw [← Int.sign_eq_neg_one_of_neg side]; by_contra h; exact same ⟨by omega, h⟩
      exact (Int.sign_eq_neg_one_iff_neg.mp this).le

/-- Settles O25: the goal lies on the side of u, and the step ends at the goal at the latest. -/
theorem rampStep : Obligations.RampStep := by
  rintro p target u goal step rfl rfl
  obtain ⟨above, below⟩ := rampGoal_side target u
  change (u < rampGoal target u → ramp p target u = min (rampGoal target u) (u + rampBy p (rampGoal target u) u)) ∧
    (rampGoal target u < u → ramp p target u = max (rampGoal target u) (u - rampBy p (rampGoal target u) u)) ∧
    (u = rampGoal target u → ramp p target u = u) ∧ _
  have step : 0 ≤ rampBy p (rampGoal target u) u := by
    unfold rampBy
    (repeat' split) <;> exact Int.natCast_nonneg _
  rw [ramp_eq]
  generalize rampGoal target u = goal at *
  refine ⟨fun lt => if_pos lt, fun gt => ?_, fun eq => ?_, fun pos => ?_, fun neg => ?_⟩
  · rw [if_neg (by omega), if_pos gt]
  · rw [if_neg (by omega), if_neg (by omega)]
  · have := above pos
    (repeat' split) <;> omega
  · have := below neg
    (repeat' split) <;> omega

/-! ## The demand-line period (R62) -/

theorem State.demandPeriod_due {s : State} (due : s.drc.periodDue ≤ s.now) : s.demandPeriod =
    { s with drc := { s.drc with duty := s.drc.periodDuty, periodDue := s.drc.periodDue + Config.demandPeriod } } :=
  if_pos due

theorem State.demandPeriod_early {s : State} (early : s.now < s.drc.periodDue) : s.demandPeriod = s :=
  if_neg (Nat.not_le.mpr early)

theorem Drc.periodDuty_unconfigured {d : Drc} (state : d.driveState = .unconfigured) : d.periodDuty = 0 := if_pos state

theorem Drc.periodDuty_driven {d : Drc} (state : d.driveState ≠ .unconfigured) (low : -100 ≤ d.buffer) :
    (d.periodDuty : Int) = 500 + 4 * d.buffer := by
  rw [Drc.periodDuty, if_neg state, Int.toNat_of_nonneg (by omega)]

/-- Settles O31. -/
theorem demandPeriod : Obligations.DemandPeriod := by
  refine fun t s => ⟨fun due => ⟨_, rfl, ?_⟩, fun early => ?_⟩
  · rw [State.demandPeriod_due (s := s.atTime t) due]
    refine ⟨rfl, Drc.periodDuty_unconfigured, fun state low => ?_⟩
    have duty : (s.drc.periodDuty : Int) = 500 + 4 * s.drc.buffer := Drc.periodDuty_driven state low
    refine ⟨duty, ?_⟩
    change ((2 * s.drc.periodDuty : Nat) : Int) = _
    rw [← duty]
    rfl
  · exact congrArg Host.Outcome.next (State.demandPeriod_early (s := s.atTime t) early)

end Sys2Proof.Machine
end

section
/-! SUPPORT. What latches and reports leave of the fault set (R179) and of the outbound queue (R175). -/

namespace Sys2Proof.Machine

/-! ## Latches of some codes -/

/-- R179: from one fault set to another by at most n latches, of codes that `codes` allows. -/
structure Latchings (codes : FaultCode → Prop) (n : Nat) (f f' : List FaultEntry) : Prop where
  kept   : ∀ e ∈ f, ∃ e' ∈ f', e'.code = e.code ∧ e'.index = e.index ∧ (e.active = true → e'.active = true)
  length : f'.length ≤ f.length + n
  other  : ∀ e ∈ f', ¬ codes e.code → e ∈ f

namespace Latchings

variable {codes codes' : FaultCode → Prop} {n k : Nat} {f g h : List FaultEntry}

theorem refl : Latchings codes n f f := ⟨fun e he => ⟨e, he, rfl, rfl, id⟩, Nat.le_add_right _ _, fun _ he _ => he⟩

theorem of_eq (eq : g = f) : Latchings codes n f g := eq ▸ refl

theorem trans (a : Latchings codes n f g) (b : Latchings codes k g h) : Latchings codes (n + k) f h where
  kept e he := by
    obtain ⟨e₁, he₁, code₁, index₁, active₁⟩ := a.kept e he
    obtain ⟨e₂, he₂, code₂, index₂, active₂⟩ := b.kept e₁ he₁
    exact ⟨e₂, he₂, code₂.trans code₁, index₂.trans index₁, active₂ ∘ active₁⟩
  length := by have := a.length; have := b.length; omega
  other e he beyond := a.other e (b.other e he beyond) beyond

theorem mono (a : Latchings codes n f g) (sub : ∀ c, codes c → codes' c) (le : n ≤ k) : Latchings codes' k f g :=
  ⟨a.kept, a.length.trans (Nat.add_le_add_left le _), fun e he beyond => a.other e he (beyond ∘ sub _)⟩

/-- A pair that is latched stays latched. -/
theorem latched {s s' : State} (a : Latchings codes n s.clp.faults s'.clp.faults) {code : FaultCode} {index : Nat}
    (h : Latched code index s) : Latched code index s' := by
  obtain ⟨e, he, rfl, rfl, active⟩ := h
  obtain ⟨e', he', code, index, stays⟩ := a.kept e he
  exact ⟨e', he', code, index, stays active⟩

/-- A pair of another code that is not active stays so. -/
theorem inactive (a : Latchings codes n f g) {code : FaultCode} {index : Nat} (beyond : ¬ codes code)
    (h : ∀ e ∈ f, e.code = code → e.index = index → e.active = false) :
    ∀ e ∈ g, e.code = code → e.index = index → e.active = false :=
  fun e he hc => h e (a.other e he (hc ▸ beyond)) hc

end Latchings

theorem Clp.latch_latchings {codes : FaultCode → Prop} {code : FaultCode} (allowed : codes code)
    (index odometer : Nat) (c : Clp) : Latchings codes 1 c.faults (c.latch code index odometer).faults := by
  unfold Clp.latch
  split
  · refine ⟨fun e he => ⟨_, List.mem_map_of_mem he, ?_⟩, by simp, fun e he beyond => ?_⟩
    · split
      · exact ⟨rfl, rfl, fun _ => rfl⟩
      · exact ⟨rfl, rfl, id⟩
    · obtain ⟨e₀, he₀, rfl⟩ := List.mem_map.mp he
      split at beyond
      · next told =>
        simp only [FaultEntry.isFor, Bool.and_eq_true, decide_eq_true_eq] at told
        exact absurd (told.1 ▸ allowed) beyond
      · next untold => rwa [if_neg untold]
  · split
    · dsimp only
      rw [(Clp.raise_frame _ _).2.2.1]
      refine ⟨fun e he => ⟨e, List.mem_append_left _ he, rfl, rfl, id⟩, by simp, fun e he beyond => ?_⟩
      rcases List.mem_append.mp he with old | new
      · exact old
      · obtain rfl := List.mem_singleton.mp new
        exact absurd allowed beyond
    · exact .refl

variable (s : State)

/-- R169: of the fault set, a request of a sound latches SOUND_DROPPED at most. -/
theorem State.sound_latchings (ch : ChannelId) (pattern priority : Nat) (source : Source) (mode : Mode) :
    Latchings (· = .soundDropped) 1 s.clp.faults (s.sound ch pattern priority source mode).clp.faults := by
  have exit : ∀ (e : Exit) (m : State), (m.reportExit ch e).clp.faults = m.clp.faults := fun e m =>
    (State.reportExits_faults m ch [e]).1
  unfold State.sound State.requestSound
  dsimp only
  split
  · rw [exit]
    split
    · rw [exit]
      exact Clp.latch_latchings (codes := (· = .soundDropped)) rfl ..
    · exact .refl
  · split
    · rw [exit]
      exact Clp.latch_latchings (codes := (· = .soundDropped)) rfl ..
    · exact .refl

theorem State.endDriveWarning_faults : s.endDriveWarning.clp.faults = s.clp.faults := by
  unfold State.endDriveWarning
  split
  · exact (State.endSound_faults ..).1
  · rfl

/-- R38: the fault set after a trip: the alarm may latch SOUND_DROPPED, and the cause is latched last. -/
theorem State.handOnTrip_faults (before : DriveState) (cause : TripReason) :
    ∃ m : Clp, Latchings (· = .soundDropped) 1 s.clp.faults m.faults ∧
      (s.handOnTrip before cause).clp.faults = (match tripFault cause with
        | some code => (m.latch code 0 s.amu.odometerMm).faults
        | none => m.faults) := by
  refine ⟨(s.endVigilanceWarning.endDriveWarning.requestAlarm.reportEmergency before).clp, ?_, ?_⟩
  · have alarm := s.endVigilanceWarning.endDriveWarning.sound_latchings .cab cabAlarm 7 .drive (.count 3)
    rw [State.endDriveWarning_faults, s.endVigilanceWarning_spec.2.1] at alarm
    exact ((Clp.raise_frame _ s.endVigilanceWarning.endDriveWarning.requestAlarm.clp).2.2.1).symm ▸ alarm
  · unfold State.handOnTrip
    cases tripFault cause with
    | none => rfl
    | some code =>
      have amu : (s.endVigilanceWarning.endDriveWarning.requestAlarm.reportEmergency before).amu = s.amu := by simp
      dsimp only
      rw [← amu]
      rfl

/-- R38: a trip latches the fault of its cause, with room for it and for the alarm's SOUND_DROPPED. -/
theorem State.handOnTrip_latched {before : DriveState} {cause : TripReason} {code : FaultCode}
    (fault : tripFault cause = some code) (room : s.clp.faults.length < 31) :
    Latched code 0 (s.handOnTrip before cause) := by
  obtain ⟨m, alarm, eq⟩ := s.handOnTrip_faults before cause
  rw [fault] at eq
  have length := alarm.length
  unfold Latched
  rw [eq]
  exact Clp.latch_holds _ _ _ _ (.inl (by omega))

/-- R58: setting the band latches SOUND_DROPPED at most. -/
theorem State.setBand_latchings (b : Band) :
    Latchings (· = .soundDropped) 1 s.clp.faults (s.setBand b).clp.faults := by
  unfold State.setBand
  dsimp only
  split
  · exact .of_eq (State.endDriveWarning_faults _)
  · split
    · exact State.sound_latchings { s with drc := { s.drc with band := b, warnDrive := true } } ..
    · exact .refl

/-! ## The outbound queue -/

/-- A frame that stands in the outbound queue stays there while a report is raised. -/
theorem Clp.raise_outbound (r : Report) {c : Clp} : ∀ f ∈ c.outbound, f ∈ (c.raise r).outbound := by
  intro f hf
  unfold Clp.raise Clp.join
  dsimp only
  split
  · split
    · next empty => simp [empty] at hf
    · exact List.mem_append_left _ hf
  · exact hf

/-- R175: with room in the report share the report joins the queue. -/
theorem Clp.raise_joined (r : Report) {c : Clp} (room : reportCount c.outbound < 12) :
    ∃ tag lost, .report tag lost r ∈ (c.raise r).outbound := by
  have room : reportCount c.outbound < Config.reportSlots := room
  unfold Clp.raise Clp.join
  dsimp only
  rw [if_pos room]
  split
  · exact ⟨_, _, List.mem_singleton_self _⟩
  · exact ⟨_, _, List.mem_append_right _ (List.mem_singleton_self _)⟩

theorem State.reportExits_outbound (ch : ChannelId) (es : List Exit) {s : State} :
    ∀ f ∈ s.clp.outbound, f ∈ (s.reportExits ch es).clp.outbound := by
  unfold State.reportExits
  induction es generalizing s with
  | nil => exact fun _ => id
  | cons e es ih =>
    intro f hf
    refine ih f ?_
    change f ∈ (s.reportExit ch e).clp.outbound
    unfold State.reportExit
    split
    · exact Clp.raise_outbound _ f hf
    · exact hf

theorem State.endSound_outbound (ch : ChannelId) (source : Source) (pattern : Nat) {s : State} :
    ∀ f ∈ s.clp.outbound, f ∈ (s.endSound ch source pattern).clp.outbound :=
  fun f hf => State.reportExits_outbound ch _ f hf

theorem State.settle_outbound {s : State} : ∀ f ∈ s.clp.outbound, f ∈ s.settle.clp.outbound := by
  intro f hf
  have clp : ((s.settlePlausibility .A).settlePlausibility .B).clp = s.clp := by simp
  unfold State.settle
  generalize (s.settlePlausibility .A).settlePlausibility .B = m at clp
  rw [← clp] at hf
  unfold State.settleVigilance
  split
  · split <;> exact hf
  · unfold State.endVigilanceWarning
    split
    · exact State.endSound_outbound _ _ _ f hf
    · exact hf

end Sys2Proof.Machine
end

section
/-! SUPPORT. A control interval that is due (R59): what it takes from its first stages, and what it leaves alone. -/

namespace Sys2Proof.Machine

variable {s : State}

/-- R59: the interval has become due, and the next one is set. -/
def State.begun (s : State) : State :=
  { s with drc := { s.drc with intervalDue := s.drc.intervalDue + Config.intervalLength } }

theorem State.controlInterval_stages (due : s.drc.intervalDue ≤ s.now) :
    s.controlInterval = s.begun.measured.ceilingStage.bandStage.outputStage.settle :=
  State.controlInterval_due due

theorem State.controlInterval_early (early : s.now < s.drc.intervalDue) : s.controlInterval = s :=
  if_neg (by simpa [controlDue] using early)

/-! ## The drive of stages 1 to 3 -/

/-- R44, R51: the drive after stages 1 and 2 of the interval. -/
def State.found (s : State) : Drc := (s.begun.drc.handled s.now).referenced s.amu.a s.amu.b

theorem State.begun_measured_drc (s : State) : s.begun.measured.drc = s.found.adhered s.params s.amu.a s.amu.b :=
  s.begun.measured_drc

/-- What stage 1 writes, it writes from the cycle, the fault flag and the brake-held time alone. -/
theorem State.begun_handled (s : State) : (s.begun.drc.handled s.now).h = (s.drc.handled s.now).h ∧
    (s.begun.drc.handled s.now).handleFault = (s.drc.handled s.now).handleFault ∧
    (s.begun.drc.handled s.now).brakeHeld = (s.drc.handled s.now).brakeHeld := by
  have judged : s.begun.drc.judgeHandle s.now = s.drc.judgeHandle s.now := rfl
  unfold Drc.handled
  rw [judged]
  cases s.drc.judgeHandle s.now <;> exact ⟨rfl, rfl, rfl⟩

/-- What the first two stages leave as the interval finds it. -/
@[simp] theorem State.found_kept (s : State) : s.found.u = s.drc.u ∧ s.found.driveState = s.drc.driveState ∧
    s.found.adhesion = s.drc.adhesion ∧ s.found.quiet = s.drc.quiet ∧ s.found.tcap = s.drc.tcap ∧
    s.found.bcap = s.drc.bcap ∧ s.found.runOn = s.drc.runOn ∧ s.found.sand = s.drc.sand := by
  unfold State.found
  rw [Drc.handled_frame]
  exact ⟨rfl, rfl, rfl, rfl, rfl, rfl, rfl, rfl⟩

theorem State.found_vigilance (s : State) :
    s.found.vigilance = s.drc.vigilance ∧ s.found.warnVigilance = s.drc.warnVigilance := by
  unfold State.found
  rw [Drc.handled_frame]
  exact ⟨rfl, rfl⟩

/-- R51: the reference that stage 2 forms. -/
theorem State.found_reference (s : State) : s.found.refClass = (reference s.drc.u s.amu.a s.amu.b).1 ∧
    s.found.ref = (reference s.drc.u s.amu.a s.amu.b).2 := by
  have u : (s.begun.drc.handled s.now).u = s.drc.u := by rw [Drc.handled_frame]; rfl
  unfold State.found Drc.referenced
  rw [u]
  exact ⟨rfl, rfl⟩

/-! ## What the later stages leave of it -/

/-- The drive without what the stages from 4 on and the settling write. -/
def Drc.early (d : Drc) : Drc :=
  { d.besidePosts with driveState := .ready, tripReason := none, resetCount := 0, loop := false, vigilance := none
                       warnVigilance := false, warnDrive := false, band := .normal }

theorem State.settle_early (s : State) : s.settle.drc.early = s.drc.early := by
  rw [State.settle_drc]
  rfl

theorem State.outputStage_early (s : State) : s.outputStage.drc.early = s.drc.early := by
  rw [State.outputStage_eq]
  rfl

theorem State.bandStage_early (s : State) : s.bandStage.drc.early = s.drc.early := by
  rw [State.bandStage_drc_frame]
  rfl

theorem State.ceilingStage_early (s : State) : s.ceilingStage.drc.early = s.drc.early := by
  have beside := s.ceilingStage_besidePosts
  unfold Drc.early
  rw [beside]

theorem State.controlInterval_drc_early (due : s.drc.intervalDue ≤ s.now) :
    s.controlInterval.drc.early = (s.found.adhered s.params s.amu.a s.amu.b).early := by
  rw [State.controlInterval_stages due, State.settle_early, State.outputStage_early, State.bandStage_early,
    State.ceilingStage_early, State.begun_measured_drc]

/-- R44 to R46: the handle after an interval. -/
theorem State.controlInterval_handle (due : s.drc.intervalDue ≤ s.now) :
    s.controlInterval.drc.h = (s.drc.handled s.now).h ∧
    s.controlInterval.drc.handleFault = (s.drc.handled s.now).handleFault ∧
    s.controlInterval.drc.brakeHeld = (s.drc.handled s.now).brakeHeld := by
  obtain ⟨h, fault, held⟩ := s.begun_handled
  have e := State.controlInterval_drc_early due
  rw [Drc.adhered_frame] at e
  exact ⟨(congrArg Drc.h e :).trans h, (congrArg Drc.handleFault e :).trans fault, (congrArg Drc.brakeHeld e :).trans held⟩

/-- R51: the reference after an interval. -/
theorem State.controlInterval_reference (due : s.drc.intervalDue ≤ s.now) :
    s.controlInterval.drc.refClass = (reference s.drc.u s.amu.a s.amu.b).1 ∧
    s.controlInterval.drc.ref = (reference s.drc.u s.amu.a s.amu.b).2 := by
  obtain ⟨cls, ref⟩ := s.found_reference
  have e := State.controlInterval_drc_early due
  rw [Drc.adhered_frame] at e
  exact ⟨(congrArg Drc.refClass e :).trans cls, (congrArg Drc.ref e :).trans ref⟩

/-- R52 to R56: the adhesion, the caps and the sand after an interval are those of stage 3. -/
theorem State.controlInterval_adhesion (due : s.drc.intervalDue ≤ s.now) {d : Drc}
    (stage : s.found.adhered s.params s.amu.a s.amu.b = d) :
    s.controlInterval.drc.adhesion = d.adhesion ∧ s.controlInterval.drc.quiet = d.quiet ∧
    s.controlInterval.drc.tcap = d.tcap ∧ s.controlInterval.drc.bcap = d.bcap ∧
    s.controlInterval.drc.runOn = d.runOn ∧ s.controlInterval.drc.sand = d.sand := by
  have e := stage ▸ State.controlInterval_drc_early due
  exact ⟨(congrArg Drc.adhesion e :), (congrArg Drc.quiet e :), (congrArg Drc.tcap e :), (congrArg Drc.bcap e :),
    (congrArg Drc.runOn e :), (congrArg Drc.sand e :)⟩

/-- The cab contacts, the handle signal and the demand-line period are not the interval's. -/
theorem State.controlInterval_inputs (due : s.drc.intervalDue ≤ s.now) :
    s.controlInterval.drc = { s.controlInterval.drc with
      cycleStart := s.drc.cycleStart, cycleWidth := s.drc.cycleWidth, lastCycle := s.drc.lastCycle
      reverser := s.drc.reverser, deadman := s.drc.deadman, detent := s.drc.detent, duty := s.drc.duty
      periodDue := s.drc.periodDue, intervalDue := s.drc.intervalDue + 20000 } := by
  have e := State.controlInterval_drc_early due
  rw [Drc.adhered_frame, State.found, Drc.handled_frame] at e
  have cycleStart : s.controlInterval.drc.cycleStart = s.drc.cycleStart := (congrArg Drc.cycleStart e :)
  have cycleWidth : s.controlInterval.drc.cycleWidth = s.drc.cycleWidth := (congrArg Drc.cycleWidth e :)
  have lastCycle : s.controlInterval.drc.lastCycle = s.drc.lastCycle := (congrArg Drc.lastCycle e :)
  have reverser : s.controlInterval.drc.reverser = s.drc.reverser := (congrArg Drc.reverser e :)
  have deadman : s.controlInterval.drc.deadman = s.drc.deadman := (congrArg Drc.deadman e :)
  have detent : s.controlInterval.drc.detent = s.drc.detent := (congrArg Drc.detent e :)
  have duty : s.controlInterval.drc.duty = s.drc.duty := (congrArg Drc.duty e :)
  have periodDue : s.controlInterval.drc.periodDue = s.drc.periodDue := (congrArg Drc.periodDue e :)
  have intervalDue : s.controlInterval.drc.intervalDue = s.drc.intervalDue + 20000 := (congrArg Drc.intervalDue e :)
  rw [← cycleStart, ← cycleWidth, ← lastCycle, ← reverser, ← deadman, ← detent, ← duty, ← periodDue, ← intervalDue]

/-! ## Vigilance and the frame (R8, R50) -/

theorem Drc.vigilance_of_besidePosts {d d' : Drc} (h : d'.besidePosts = d.besidePosts) :
    d'.vigilance = d.vigilance ∧ d'.warnVigilance = d.warnVigilance :=
  ⟨(congrArg Drc.vigilance h :), (congrArg Drc.warnVigilance h :)⟩

/-- Up to stage 4 the interval has not touched the vigilance timer. -/
theorem State.ceilingStage_vigilance (s : State) :
    s.begun.measured.ceilingStage.drc.vigilance = s.drc.vigilance ∧
    s.begun.measured.ceilingStage.drc.warnVigilance = s.drc.warnVigilance := by
  have measured : s.begun.measured.drc.vigilance = s.drc.vigilance ∧
      s.begun.measured.drc.warnVigilance = s.drc.warnVigilance := by
    obtain ⟨timer, warning⟩ := s.found_vigilance
    rw [State.begun_measured_drc, Drc.adhered_frame]
    exact ⟨timer, warning⟩
  obtain ⟨timer, warning⟩ := Drc.vigilance_of_besidePosts s.begun.measured.ceilingStage_besidePosts
  exact ⟨timer.trans measured.1, warning.trans measured.2⟩

/-- R38: only a trip ends the vigilance warning at stage 5, and then the timer runs no more. -/
theorem State.bandStage_vigilance (ready : s.bandStage.drc.driveState = .ready) :
    s.bandStage.drc.vigilance = s.drc.vigilance ∧ s.bandStage.drc.warnVigilance = s.drc.warnVigilance := by
  rcases s.bandStage_cases with ⟨b, -, -, e⟩ | ⟨-, e⟩ | ⟨was, e⟩
  · rw [e, State.setBand_drc]
    exact ⟨rfl, rfl⟩
  · rw [e, State.resetStage_drc, Drc.resetStep_frame, State.setBand_drc]
    exact ⟨rfl, rfl⟩
  · rw [e, State.trip_ready_drc was] at ready
    cases ready

/-- Before the settling the axles stand as the interval finds them. -/
theorem State.outputStage_amu (s : State) : s.begun.measured.ceilingStage.bandStage.outputStage.amu = s.amu := by
  simp [State.measured, State.begun]

theorem State.outputStage_vigilance (s : State) : s.outputStage.drc.driveState = s.drc.driveState ∧
    s.outputStage.drc.vigilance = s.drc.vigilance ∧ s.outputStage.drc.warnVigilance = s.drc.warnVigilance := by
  rw [State.outputStage_eq]
  exact ⟨rfl, rfl, rfl⟩

theorem State.outputStage_clp (s : State) : s.outputStage.clp = s.clp := by
  rw [State.outputStage_eq]
  rfl

theorem State.measured_clp (s : State) : s.measured.clp = s.handleStage.clp := rfl

theorem ready_of_vigilanceRuns (h : vigilanceRuns s = true) : s.drc.driveState = .ready := by
  simp only [vigilanceRuns, Bool.and_eq_true, decide_eq_true_eq] at h
  exact h.1.1

theorem State.controlInterval_timers (due : s.drc.intervalDue ≤ s.now) : TimersFollow s s.controlInterval := by
  rw [State.controlInterval_stages due]
  have amu := s.outputStage_amu
  have vigilance : vigilanceRuns s.begun.measured.ceilingStage.bandStage.outputStage = true →
      s.begun.measured.ceilingStage.bandStage.outputStage.drc.vigilance = s.drc.vigilance ∧
      s.begun.measured.ceilingStage.bandStage.outputStage.drc.warnVigilance = s.drc.warnVigilance := by
    intro runs
    obtain ⟨state, timerOut, warningOut⟩ := s.begun.measured.ceilingStage.bandStage.outputStage_vigilance
    obtain ⟨timer, warning⟩ := State.bandStage_vigilance (state.symm.trans (ready_of_vigilanceRuns runs))
    obtain ⟨found, warned⟩ := s.ceilingStage_vigilance
    exact ⟨timerOut.trans (timer.trans found), warningOut.trans (warning.trans warned)⟩
  generalize s.begun.measured.ceilingStage.bandStage.outputStage = m at amu vigilance
  exact State.settle_timers (fun ax _ => by rw [amu]) (fun runs => (vigilance runs).1) fun runs => (vigilance runs).2

/-- The axles after an interval: their plausibility timers alone have moved. -/
theorem State.controlInterval_axles (due : s.drc.intervalDue ≤ s.now) : s.controlInterval.amu =
    { s.amu with a := { s.amu.a with plausTimer := s.controlInterval.amu.a.plausTimer }
                 b := { s.amu.b with plausTimer := s.controlInterval.amu.b.plausTimer } } := by
  have amu := s.outputStage_amu
  rw [State.controlInterval_stages due]
  generalize s.begun.measured.ceilingStage.bandStage.outputStage = m at amu
  obtain ⟨channel, beside, -⟩ := m.settle_spec
  have a := channel .A
  have b := channel .B
  rw [amu] at a b beside
  simp only [Amu.channel] at a b
  rw [beside, a, b]

/-- A state is told from another by what is not framed. -/
theorem State.eq_of_frame {s s' : State} {n : Nat} (now : s'.now = n) (poweredAt : s'.poweredAt = s.poweredAt)
    (pending : s'.pending = s.pending) (rtm : s'.rtm = s.rtm) (lpt : s'.lpt = s.lpt) (sdu : s'.sdu = s.sdu)
    (params : s'.params = s.params) (configured : s'.configured = s.configured) :
    s' = { s with now := n, amu := s'.amu, drc := s'.drc, tnu := s'.tnu, clp := s'.clp } := by
  rw [← now, ← poweredAt, ← pending, ← rtm, ← lpt, ← sdu, ← params, ← configured]

/-- What a control interval leaves alone. -/
theorem State.controlInterval_intervalFrame {t : Nat} (due : s.drc.intervalDue ≤ max s.now t) :
    IntervalFrame t s (s.atTime t).controlInterval where
  blocks := by
    obtain ⟨now, poweredAt, pending, rtm, lpt, sdu, params, configured⟩ := (s.atTime t).controlInterval_frame
    exact State.eq_of_frame now poweredAt pending rtm lpt sdu params configured
  axles  := State.controlInterval_axles (s := s.atTime t) due
  drive  := State.controlInterval_inputs (s := s.atTime t) due
  timers := State.controlInterval_timers (s := s.atTime t) due

/-! ## The fault set (R179) -/

theorem State.ceilingStage_faults (s : State) : s.ceilingStage.clp.faults = s.clp.faults := by
  have reports : ∀ (es : List (RestrictEvent × Slot × Entry)) (m : State),
      (es.foldl (fun s e => s.reportEntry e.1 e.2.1 e.2.2) m).clp.faults = m.clp.faults := by
    intro es
    induction es with
    | nil => exact fun _ => rfl
    | cons e es ih => exact fun m => (ih _).trans (Clp.raise_frame _ _).2.2.1
  unfold State.ceilingStage
  dsimp only
  rw [reports]
  simp [State.recompute]

theorem State.resetStage_faults (s : State) : s.resetStage.clp.faults = s.clp.faults := by
  unfold State.resetStage
  split
  · dsimp only
    split
    · exact (Clp.raise_frame _ _).2.2.1
    · rfl
  · rfl

theorem State.bandStage_latchings (s : State) :
    Latchings (fun c => c = .soundDropped ∨ c = .overspeed) 2 s.clp.faults s.bandStage.clp.faults := by
  rcases s.bandStage_cases with ⟨b, -, -, e⟩ | ⟨-, e⟩ | ⟨ready, e⟩ <;> rw [e]
  · exact (s.setBand_latchings b).mono (fun _ => .inl) (by decide)
  · rw [State.resetStage_faults]
    exact (s.setBand_latchings .normal).mono (fun _ => .inl) (by decide)
  · obtain ⟨m, alarm, faults⟩ := State.handOnTrip_faults { s with drc := s.drc.enterTripped .overspeed } .ready .overspeed
    rw [State.trip_ready ready, faults]
    exact (alarm.mono (fun _ => .inl) le_rfl).trans (Clp.latch_latchings (.inr rfl) ..)

/-- From stage 2 to the end, an interval latches SOUND_DROPPED and OVERSPEED at most. -/
theorem State.controlInterval_latchings (due : s.drc.intervalDue ≤ s.now) :
    Latchings (fun c => c = .soundDropped ∨ c = .overspeed) 2 s.begun.handleStage.clp.faults
      s.controlInterval.clp.faults := by
  have stages := State.bandStage_latchings s.begun.measured.ceilingStage
  rw [State.ceilingStage_faults, State.measured_clp] at stages
  rw [State.controlInterval_stages due, (State.settle_spec _).2.2.2.1, State.outputStage_clp]
  exact stages

end Sys2Proof.Machine
end

section
/-! O20, O21 and O27: the handle, the adhesion, and the rows that name a part of a control interval. -/

namespace Sys2Proof.Machine

/-! ## Stage 1 (R44 to R46) -/

/-- R44: the dead zone of the handle. -/
def deadZone (h : Int) : Int := if -3 ≤ h ∧ h ≤ 3 then 0 else h

/-- R44: the judgement of a completed cycle. -/
theorem Drc.judgeHandle_some {d : Drc} {c : HandleCycle} (cycle : d.lastCycle = some c) (now : Nat) :
    d.judgeHandle now = if c.doneAt + 10000 < now ∨ c.period < 800 ∨ 1200 < c.period ∨
        c.width * 1000 / c.period < 50 ∨ 950 < c.width * 1000 / c.period then none
      else some (deadZone ((min 900 (max 100 ((c.width * 1000 / c.period : Nat) : Int)) - 500).tdiv 4)) := by
  have cast : ((min 900 (max 100 (c.width * 1000 / c.period)) : Nat) : Int) =
      min 900 (max 100 ((c.width * 1000 / c.period : Nat) : Int)) := by push_cast; rfl
  simp only [Drc.judgeHandle, cycle, Config.handleAge, handleValue, cast]
  by_cases old : c.doneAt + 10000 < now
  · simp only [old, true_or, if_true]
  · by_cases period : c.period < 800 ∨ 1200 < c.period
    · rw [if_neg old, if_pos period, if_pos (by tauto)]
    · by_cases duty : c.width * 1000 / c.period < 50 ∨ 950 < c.width * 1000 / c.period
      · rw [if_neg old, if_neg period, if_pos duty, if_pos (by tauto)]
      · have none_fails : ¬ (c.doneAt + 10000 < now ∨ c.period < 800 ∨ 1200 < c.period ∨
            c.width * 1000 / c.period < 50 ∨ 950 < c.width * 1000 / c.period) := by tauto
        rw [if_neg old, if_neg period, if_neg duty, if_neg none_fails]
        rfl

theorem Drc.judgeHandle_none {d : Drc} (cycle : d.lastCycle = none) (now : Nat) : d.judgeHandle now = none := by
  simp only [Drc.judgeHandle, cycle]

/-- R44: what makes the handle FAULT. -/
theorem Drc.judgeHandle_eq {drc : Drc} {now d : Nat} {failed : Bool}
    (fails : failed = true ↔ ∀ c, drc.lastCycle = some c → c.doneAt + 10000 < now ∨ c.period < 800 ∨ 1200 < c.period ∨
      c.width * 1000 / c.period < 50 ∨ 950 < c.width * 1000 / c.period)
    (duty : ∀ c, drc.lastCycle = some c → d = c.width * 1000 / c.period) :
    drc.judgeHandle now = if failed then none else some (deadZone ((min 900 (max 100 (d : Int)) - 500).tdiv 4)) := by
  cases cycle : drc.lastCycle with
  | none =>
    rw [Drc.judgeHandle_none cycle, if_pos (fails.mpr (by simp [cycle]))]
  | some c =>
    rw [Drc.judgeHandle_some cycle, duty c cycle]
    simp only [cycle, Option.some.injEq, forall_eq'] at fails
    simp only [← fails]

section handled
variable {d : Drc} {now : Nat}

theorem Drc.handled_failed (h : d.judgeHandle now = none) :
    d.handled now = { d with h := -100, handleFault := true, brakeHeld := 0 } := by
  simp only [Drc.handled, h]

theorem Drc.handled_read {x : Int} (h : d.judgeHandle now = some x) : d.handled now =
    { d with h := x, handleFault := false, brakeHeld := if x = -100 then min 65535 (d.brakeHeld + 20) else 0 } := by
  simp only [Drc.handled, h]

/-- R45: the handle enters FAULT. -/
theorem State.handleStage_latched {s : State} (h : s.drc.judgeHandle s.now = none) (was : s.drc.handleFault = false) :
    s.handleStage.clp = s.clp.latch .handleFault 0 s.amu.odometerMm := by
  simp only [State.handleStage, h, was]
  rfl

/-- R45: the handle leaves FAULT. -/
theorem State.handleStage_cleared {s : State} {x : Int} (h : s.drc.judgeHandle s.now = some x)
    (was : s.drc.handleFault = true) : s.handleStage.clp = s.clp.clearFault .handleFault 0 := by
  simp only [State.handleStage, h, was]
  rfl

end handled

/-- Settles O20. -/
theorem intervalHandle : Obligations.IntervalHandle := by
  rintro t now d h s failed rfl fails duty rfl
  have judged : s.drc.judgeHandle (max s.now t) =
      if failed then none else some (deadZone ((min 900 (max 100 (d : Int)) - 500).tdiv 4)) :=
    Drc.judgeHandle_eq fails duty
  refine ⟨fun early => ?_, fun due => ⟨_, rfl, State.controlInterval_intervalFrame due, fun bad => ?_, fun good => ?_⟩⟩
  · exact congrArg Host.Outcome.next (State.controlInterval_early (s := s.atTime t) early)
  all_goals
    have due : (s.atTime t).drc.intervalDue ≤ (s.atTime t).now := due
    obtain ⟨value, fault, held⟩ := State.controlInterval_handle due
    have latchings := State.controlInterval_latchings due
  · have none : (s.atTime t).drc.judgeHandle (s.atTime t).now = none := judged.trans (if_pos bad)
    rw [value, fault, held, Drc.handled_failed none]
    refine ⟨rfl, rfl, rfl, fun was room => latchings.latched (s := (s.atTime t).begun.handleStage) ?_⟩
    unfold Latched
    rw [State.handleStage_latched (s := (s.atTime t).begun) none was]
    exact Clp.latch_holds _ _ _ _ room
  · have some : (s.atTime t).drc.judgeHandle (s.atTime t).now = some _ := judged.trans (if_neg (by simp [good]))
    rw [value, fault, held, Drc.handled_read some]
    refine ⟨rfl, rfl, rfl, fun was => latchings.inactive (by simp) ?_⟩
    rw [State.handleStage_cleared (s := (s.atTime t).begun) some was]
    exact Clp.clearFault_inactive _ _ _

end Sys2Proof.Machine
end

section
/-! O21 and O27: stage 3 of a control interval, and the rows that name a part of one. -/

namespace Sys2Proof.Machine

/-! ## The caps and the run-on of an interval with no condition (R55, R56) -/

theorem relaxTcap_eq (c : Option Int) : relaxTcap c = c.bind fun c => if 100 ≤ c + 1 then none else some (c + 1) := by
  cases c <;> rfl

theorem relaxBcap_eq (c : Option Int) : relaxBcap c = c.bind fun c => if c - 1 ≤ -100 then none else some (c - 1) := by
  cases c <;> rfl

section drc
variable {d : Drc}

theorem Drc.relax_free (h : d.adhesion = .none) : d.relax =
    { d with tcap := relaxTcap d.tcap, bcap := relaxBcap d.bcap, runOn := d.runOn - 1
             sand := if d.runOn = 0 then d.sand else decide (1 < d.runOn) } := if_pos h

theorem Drc.relax_held (h : d.adhesion ≠ .none) : d.relax = d := if_neg h

/-! ## The judgement of the axles (R52 to R54) -/

variable {threshold diff : Nat}

theorem Drc.judgeAdhesion_slip (slips : d.refClass = .good ∧ 0 < d.u ∧ threshold < diff) :
    d.judgeAdhesion threshold diff = d.detectSlip := if_pos slips

theorem Drc.judgeAdhesion_slide
    (slides : d.driveState = .ready ∧ d.refClass = .good ∧ d.u < 0 ∧ threshold < diff) :
    d.judgeAdhesion threshold diff = d.detectSlide := by
  have noSlip : ¬ (d.refClass = .good ∧ 0 < d.u ∧ threshold < diff) := fun ⟨_, above, _⟩ => by omega
  rw [Drc.judgeAdhesion, if_neg noSlip, if_pos slides]

section undetected
variable (noSlip : ¬ (d.refClass = .good ∧ 0 < d.u ∧ threshold < diff))
  (noSlide : ¬ (d.driveState = .ready ∧ d.refClass = .good ∧ d.u < 0 ∧ threshold < diff))
include noSlip noSlide

theorem Drc.judgeAdhesion_free (free : d.adhesion = .none) : d.judgeAdhesion threshold diff = d := by
  rw [Drc.judgeAdhesion, if_neg noSlip, if_neg noSlide, if_pos free]

theorem Drc.judgeAdhesion_ends (held : d.adhesion ≠ .none)
    (ends : d.refClass ≠ .good ∨ (diff ≤ threshold / 2 ∧ 10 ≤ d.quiet + 1)) :
    d.judgeAdhesion threshold diff = d.endCondition := by
  rw [Drc.judgeAdhesion, if_neg noSlip, if_neg noSlide, if_neg held]
  by_cases known : d.refClass ≠ .good
  · rw [if_pos known]
  · obtain ⟨quiet, tenth⟩ := ends.resolve_left known
    have tenth : Config.quietIntervals ≤ d.quiet + 1 := tenth
    rw [if_neg known, if_pos quiet, if_pos tenth]

theorem Drc.judgeAdhesion_lasts (held : d.adhesion ≠ .none)
    (lasts : ¬ (d.refClass ≠ .good ∨ (diff ≤ threshold / 2 ∧ 10 ≤ d.quiet + 1))) :
    d.judgeAdhesion threshold diff = { d with quiet := if diff ≤ threshold / 2 then d.quiet + 1 else 0 } := by
  obtain ⟨known, more⟩ := not_or.mp lasts
  rw [Drc.judgeAdhesion, if_neg noSlip, if_neg noSlide, if_neg held, if_neg known]
  by_cases quiet : diff ≤ threshold / 2
  · have early : ¬ Config.quietIntervals ≤ d.quiet + 1 := fun tenth => more ⟨quiet, tenth⟩
    rw [if_pos quiet, if_neg early, if_pos quiet]
  · rw [if_neg quiet, if_neg quiet]

end undetected
end drc

/-! ## Stage 3 of the interval -/

/-- Stage 3 judges the relaxed drive by the threshold of the new reference. -/
theorem State.found_adhered {s : State} {thr ref : Nat} {cls : RefClass}
    (refs : reference s.drc.u s.amu.a s.amu.b = (cls, ref))
    (hthr : thr = max s.params.slipMin.toNat (ref * s.params.slipPermille.toNat / 1000)) :
    s.found.adhered s.params s.amu.a s.amu.b = s.found.relax.judgeAdhesion thr (axleDifference s.amu.a s.amu.b) := by
  have found : s.found.relax.ref = ref := by
    rw [Drc.relax_frame]
    exact s.found_reference.2.trans (congrArg Prod.snd refs)
  rw [Drc.adhered, found, hthr]
  rfl

/-- What the relaxing leaves as the interval finds it, and the new class. -/
theorem State.relaxed_kept {s : State} {ref : Nat} {cls : RefClass}
    (refs : reference s.drc.u s.amu.a s.amu.b = (cls, ref)) :
    s.found.relax.refClass = cls ∧ s.found.relax.u = s.drc.u ∧ s.found.relax.driveState = s.drc.driveState ∧
    s.found.relax.adhesion = s.drc.adhesion ∧ s.found.relax.quiet = s.drc.quiet := by
  obtain ⟨u, state, adhesion, quiet, -⟩ := s.found_kept
  rw [Drc.relax_frame]
  exact ⟨s.found_reference.1.trans (congrArg Prod.fst refs), u, state, adhesion, quiet⟩

/-- R55, R56: the caps and the sand that the judgement finds. -/
theorem State.relaxed_caps (s : State) : (s.drc.adhesion ≠ .none → s.found.relax.tcap = s.drc.tcap ∧
      s.found.relax.bcap = s.drc.bcap ∧ s.found.relax.runOn = s.drc.runOn ∧ s.found.relax.sand = s.drc.sand) ∧
    (s.drc.adhesion = .none → s.found.relax.tcap = relaxTcap s.drc.tcap ∧ s.found.relax.bcap = relaxBcap s.drc.bcap ∧
      s.found.relax.runOn = s.drc.runOn - 1 ∧
      s.found.relax.sand = if s.drc.runOn = 0 then s.drc.sand else decide (1 < s.drc.runOn)) := by
  obtain ⟨-, -, adhesion, -, tcap, bcap, runOn, sand⟩ := s.found_kept
  rw [← adhesion, ← tcap, ← bcap, ← runOn, ← sand]
  constructor <;> intro h
  · rw [Drc.relax_held h]
    exact ⟨rfl, rfl, rfl, rfl⟩
  · rw [Drc.relax_free h]
    exact ⟨rfl, rfl, rfl, rfl⟩

section outcome
variable {s : State} {thr ref : Nat} {cls : RefClass} (due : s.drc.intervalDue ≤ s.now)
  (refs : reference s.drc.u s.amu.a s.amu.b = (cls, ref))
  (hthr : thr = max s.params.slipMin.toNat (ref * s.params.slipPermille.toNat / 1000))
include due refs hthr

/-- R52: a slip is detected. -/
theorem State.controlInterval_slip (slips : cls = .good ∧ 0 < s.drc.u ∧ thr < axleDifference s.amu.a s.amu.b) :
    s.controlInterval.drc.adhesion = .slip ∧ s.controlInterval.drc.quiet = 0 ∧
    s.controlInterval.drc.tcap = some (max 0 (s.drc.u - 15)) ∧
    s.controlInterval.drc.bcap = s.found.relax.bcap ∧ s.controlInterval.drc.runOn = s.found.relax.runOn ∧
    s.controlInterval.drc.sand = true := by
  obtain ⟨refClass, u, -⟩ := State.relaxed_kept refs
  have stage := (State.found_adhered refs hthr).trans (Drc.judgeAdhesion_slip (by rwa [refClass, u]))
  have out := State.controlInterval_adhesion due stage
  rw [← u]
  exact out

/-- R53: a slide is detected. -/
theorem State.controlInterval_slide
    (slides : s.drc.driveState = .ready ∧ cls = .good ∧ s.drc.u < 0 ∧ thr < axleDifference s.amu.a s.amu.b) :
    s.controlInterval.drc.adhesion = .slide ∧ s.controlInterval.drc.quiet = 0 ∧
    s.controlInterval.drc.tcap = s.found.relax.tcap ∧
    s.controlInterval.drc.bcap = some (min 0 (s.drc.u + 15)) ∧ s.controlInterval.drc.runOn = s.found.relax.runOn ∧
    s.controlInterval.drc.sand = true := by
  obtain ⟨refClass, u, state, -⟩ := State.relaxed_kept refs
  have stage := (State.found_adhered refs hthr).trans (Drc.judgeAdhesion_slide (by rwa [refClass, u, state]))
  have out := State.controlInterval_adhesion due stage
  rw [← u]
  exact out

section undetected
variable (noSlip : ¬ (cls = .good ∧ 0 < s.drc.u ∧ thr < axleDifference s.amu.a s.amu.b))
  (noSlide : ¬ (s.drc.driveState = .ready ∧ cls = .good ∧ s.drc.u < 0 ∧ thr < axleDifference s.amu.a s.amu.b))
include noSlip noSlide

/-- R52, R53: with no condition and no detection there is none. -/
theorem State.controlInterval_free (free : s.drc.adhesion = .none) :
    s.controlInterval.drc.adhesion = .none ∧ s.controlInterval.drc.quiet = s.drc.quiet ∧
    s.controlInterval.drc.tcap = s.found.relax.tcap ∧ s.controlInterval.drc.bcap = s.found.relax.bcap ∧
    s.controlInterval.drc.runOn = s.found.relax.runOn ∧ s.controlInterval.drc.sand = s.found.relax.sand := by
  obtain ⟨refClass, u, state, adhesion, quiet⟩ := State.relaxed_kept refs
  rw [← quiet, ← free, ← adhesion]
  exact State.controlInterval_adhesion due ((State.found_adhered refs hthr).trans
    (Drc.judgeAdhesion_free (by rwa [refClass, u]) (by rwa [refClass, u, state]) (adhesion.trans free)))

/-- R54: the condition ends. -/
theorem State.controlInterval_ends (held : s.drc.adhesion ≠ .none)
    (ends : cls ≠ .good ∨ (axleDifference s.amu.a s.amu.b ≤ thr / 2 ∧ 10 ≤ s.drc.quiet + 1)) :
    s.controlInterval.drc.adhesion = .none ∧ s.controlInterval.drc.quiet = 0 ∧
    s.controlInterval.drc.tcap = s.found.relax.tcap ∧ s.controlInterval.drc.bcap = s.found.relax.bcap ∧
    s.controlInterval.drc.runOn = 100 ∧ s.controlInterval.drc.sand = s.found.relax.sand := by
  obtain ⟨refClass, u, state, adhesion, quiet⟩ := State.relaxed_kept refs
  exact State.controlInterval_adhesion due ((State.found_adhered refs hthr).trans
    (Drc.judgeAdhesion_ends (by rwa [refClass, u]) (by rwa [refClass, u, state]) (by rwa [adhesion])
      (by rwa [refClass, quiet])))

/-- R54: the condition lasts. -/
theorem State.controlInterval_lasts (held : s.drc.adhesion ≠ .none)
    (lasts : ¬ (cls ≠ .good ∨ (axleDifference s.amu.a s.amu.b ≤ thr / 2 ∧ 10 ≤ s.drc.quiet + 1))) :
    s.controlInterval.drc.adhesion = s.drc.adhesion ∧
    s.controlInterval.drc.quiet = (if axleDifference s.amu.a s.amu.b ≤ thr / 2 then s.drc.quiet + 1 else 0) ∧
    s.controlInterval.drc.tcap = s.found.relax.tcap ∧ s.controlInterval.drc.bcap = s.found.relax.bcap ∧
    s.controlInterval.drc.runOn = s.found.relax.runOn ∧ s.controlInterval.drc.sand = s.found.relax.sand := by
  obtain ⟨refClass, u, state, adhesion, quiet⟩ := State.relaxed_kept refs
  have out := State.controlInterval_adhesion due ((State.found_adhered refs hthr).trans
    (Drc.judgeAdhesion_lasts (by rwa [refClass, u]) (by rwa [refClass, u, state]) (by rwa [adhesion])
      (by rwa [refClass, quiet])))
  rw [← quiet, ← adhesion]
  exact out

end undetected
end outcome

/-- Settles O21. -/
theorem intervalAdhesion : Obligations.IntervalAdhesion := by
  rintro t thr diff ref run cls s tc bc slip slide sand due refs hthr rfl hslip hslide hheld hfree
  refine ⟨_, rfl, ?_⟩
  obtain ⟨capsHeld, capsFree⟩ := (s.atTime t).relaxed_caps
  have caps : (s.atTime t).found.relax.tcap = tc ∧ (s.atTime t).found.relax.bcap = bc ∧
      (s.atTime t).found.relax.runOn = run ∧ (s.atTime t).found.relax.sand = sand := by
    by_cases h : s.drc.adhesion = .none
    · obtain ⟨rfl, rfl, rfl, rfl⟩ := hfree h
      rw [← relaxTcap_eq, ← relaxBcap_eq]
      exact capsFree h
    · obtain ⟨rfl, rfl, rfl, rfl⟩ := hheld h
      exact capsHeld h
  obtain ⟨rfl, rfl, rfl, rfl⟩ := caps
  refine ⟨fun h => State.controlInterval_slip (s := s.atTime t) due refs hthr (hslip.mp h), fun h => ?_,
    fun noSlip noSlide => ?_⟩
  · obtain ⟨adhesion, quiet, tcap, bcap, runOn, sand⟩ :=
      State.controlInterval_slide (s := s.atTime t) due refs hthr (hslide.mp h)
    exact ⟨adhesion, quiet, bcap, tcap, runOn, sand⟩
  · have noSlip := fun h => Bool.false_ne_true (noSlip.symm.trans (hslip.mpr h))
    have noSlide := fun h => Bool.false_ne_true (noSlide.symm.trans (hslide.mpr h))
    by_cases free : s.drc.adhesion = .none
    · obtain ⟨adhesion, quiet, tcap, bcap, runOn, sand⟩ :=
        State.controlInterval_free (s := s.atTime t) due refs hthr noSlip noSlide free
      exact ⟨tcap, bcap, sand, fun _ => ⟨adhesion, quiet, runOn⟩, fun held => absurd free held⟩
    · by_cases ends : cls ≠ .good ∨ (axleDifference s.amu.a s.amu.b ≤ thr / 2 ∧ 10 ≤ s.drc.quiet + 1)
      · obtain ⟨adhesion, quiet, tcap, bcap, runOn, sand⟩ :=
          State.controlInterval_ends (s := s.atTime t) due refs hthr noSlip noSlide free ends
        exact ⟨tcap, bcap, sand, fun h => absurd h free, fun _ => by rw [if_pos ends]; exact ⟨adhesion, quiet, runOn⟩⟩
      · obtain ⟨adhesion, quiet, tcap, bcap, runOn, sand⟩ :=
          State.controlInterval_lasts (s := s.atTime t) due refs hthr noSlip noSlide free ends
        exact ⟨tcap, bcap, sand, fun h => absurd h free, fun _ => by rw [if_neg ends]; exact ⟨adhesion, runOn, quiet⟩⟩

/-! ## The rows that name a part of an interval (the choice of assumption 4) -/

section parts
variable {s : State} {t : Nat}

/-- R54: the row is the interval when a condition stands before it and none after it. -/
theorem exec_adhesionConditionEnd_taken (held : s.drc.adhesion ≠ .none)
    (ended : (s.atTime t).controlInterval.drc.adhesion = .none) :
    exec (.adhesionConditionEnd t) s = .next (s.atTime t).controlInterval :=
  congrArg Host.Outcome.next (if_pos ⟨held, ended⟩)

theorem exec_adhesionConditionEnd_idle
    (h : s.drc.adhesion = .none ∨ (s.atTime t).controlInterval.drc.adhesion ≠ .none) :
    exec (.adhesionConditionEnd t) s = .next (s.atTime t) :=
  congrArg Host.Outcome.next (if_neg fun ⟨held, ended⟩ => h.elim held (· ended))

theorem exec_capRemoved_taken (h : s.drc.capEnds = true) :
    exec (.capRemoved t) s = .next (s.atTime t).controlInterval :=
  congrArg Host.Outcome.next (if_pos h)

theorem exec_capRemoved_idle (h : s.drc.capEnds = false) : exec (.capRemoved t) s = .next (s.atTime t) :=
  congrArg Host.Outcome.next (if_neg (by rw [State.atTime]; simp [h]))

theorem exec_sandRunOnExpiry_taken (free : s.drc.adhesion = .none) (last : s.drc.runOn = 1) :
    exec (.sandRunOnExpiry t) s = .next (s.atTime t).controlInterval :=
  congrArg Host.Outcome.next (if_pos ⟨free, last⟩)

theorem exec_sandRunOnExpiry_idle (h : s.drc.adhesion ≠ .none ∨ s.drc.runOn ≠ 1) :
    exec (.sandRunOnExpiry t) s = .next (s.atTime t) :=
  congrArg Host.Outcome.next (if_neg fun ⟨free, last⟩ => h.elim (· free) (· last))

/-- Before the interval is due it is nothing, and so is every row that names a part of it. -/
theorem ite_controlInterval_early (early : max s.now t < s.drc.intervalDue) (p : Prop) [Decidable p] :
    (if p then (s.atTime t).controlInterval else s.atTime t) = s.atTime t := by
  rw [State.controlInterval_early (s := s.atTime t) early, ite_self]

end parts

theorem relaxTcap_none {c : Int} (ends : 100 ≤ c + 1) : relaxTcap (some c) = none := if_pos ends

theorem relaxBcap_none {c : Int} (ends : c - 1 ≤ -100) : relaxBcap (some c) = none := if_pos ends

/-- R55: no relaxing cap is at its end. -/
theorem Drc.capEnds_eq_false {d : Drc} (h : d.adhesion ≠ .none ∨ (∀ c, d.tcap = some c → c + 1 < 100) ∧
    (∀ c, d.bcap = some c → -100 < c - 1)) : d.capEnds = false := by
  rcases h with held | ⟨tcap, bcap⟩
  · simp [Drc.capEnds, held]
  · have t : (d.tcap.isSome && (relaxTcap d.tcap).isNone) = false := by
      cases cap : d.tcap with
      | none => rfl
      | some c => simp [relaxTcap, tcap c cap]
    have b : (d.bcap.isSome && (relaxBcap d.bcap).isNone) = false := by
      cases cap : d.bcap with
      | none => rfl
      | some c =>
        have above : ¬ c - 1 ≤ -100 := not_le.mpr (bcap c cap)
        rw [relaxBcap, if_neg above]
        rfl
    rw [Drc.capEnds, t, b]
    simp

/-- R54: an interval that is due keeps a condition that does not end. -/
theorem State.controlInterval_holds {s : State} {thr ref : Nat} {cls : RefClass} (due : s.drc.intervalDue ≤ s.now)
    (refs : reference s.drc.u s.amu.a s.amu.b = (cls, ref))
    (hthr : thr = max s.params.slipMin.toNat (ref * s.params.slipPermille.toNat / 1000)) (held : s.drc.adhesion ≠ .none)
    (lasts : ¬ (cls ≠ .good ∨ (axleDifference s.amu.a s.amu.b ≤ thr / 2 ∧ 10 ≤ s.drc.quiet + 1))) :
    s.controlInterval.drc.adhesion ≠ .none := by
  by_cases slips : cls = .good ∧ 0 < s.drc.u ∧ thr < axleDifference s.amu.a s.amu.b
  · rw [(State.controlInterval_slip due refs hthr slips).1]
    nofun
  · by_cases slides : s.drc.driveState = .ready ∧ cls = .good ∧ s.drc.u < 0 ∧ thr < axleDifference s.amu.a s.amu.b
    · rw [(State.controlInterval_slide due refs hthr slides).1]
      nofun
    · rwa [(State.controlInterval_lasts due refs hthr slips slides held lasts).1]

/-- R55, R56: with no condition an interval leaves the caps and the run-on as they relax, where no detection sets them
anew. -/
theorem State.controlInterval_relaxes {s : State} {thr ref : Nat} {cls : RefClass} (due : s.drc.intervalDue ≤ s.now)
    (refs : reference s.drc.u s.amu.a s.amu.b = (cls, ref))
    (hthr : thr = max s.params.slipMin.toNat (ref * s.params.slipPermille.toNat / 1000))
    (free : s.drc.adhesion = .none) {slips slides : Prop}
    (hslips : slips ↔ cls = .good ∧ 0 < s.drc.u ∧ thr < axleDifference s.amu.a s.amu.b)
    (hslides : slides ↔ s.drc.driveState = .ready ∧ cls = .good ∧ s.drc.u < 0 ∧
      thr < axleDifference s.amu.a s.amu.b) :
    (¬ slips → s.controlInterval.drc.tcap = relaxTcap s.drc.tcap) ∧
    (¬ slides → s.controlInterval.drc.bcap = relaxBcap s.drc.bcap) ∧
    s.controlInterval.drc.runOn = s.drc.runOn - 1 ∧
    (¬ slips → ¬ slides → s.controlInterval.drc.sand =
      if s.drc.runOn = 0 then s.drc.sand else decide (1 < s.drc.runOn)) := by
  obtain ⟨tcap, bcap, runOn, sand⟩ := s.relaxed_caps.2 free
  rw [hslips, hslides, ← tcap, ← bcap, ← runOn, ← sand]
  by_cases slip : cls = .good ∧ 0 < s.drc.u ∧ thr < axleDifference s.amu.a s.amu.b
  · obtain ⟨-, -, -, bcap, runOn, -⟩ := State.controlInterval_slip due refs hthr slip
    exact ⟨fun no => absurd slip no, fun _ => bcap, runOn, fun no => absurd slip no⟩
  · by_cases slide : s.drc.driveState = .ready ∧ cls = .good ∧ s.drc.u < 0 ∧ thr < axleDifference s.amu.a s.amu.b
    · obtain ⟨-, -, tcap, -, runOn, -⟩ := State.controlInterval_slide due refs hthr slide
      exact ⟨fun _ => tcap, fun no => absurd slide no, runOn, fun _ no => absurd slide no⟩
    · obtain ⟨-, -, tcap, bcap, runOn, sand⟩ := State.controlInterval_free due refs hthr slip slide free
      exact ⟨fun _ => tcap, fun _ => bcap, runOn, fun _ _ => sand⟩

/-- Settles O27. -/
theorem intervalParts : Obligations.IntervalParts := by
  rintro t thr diff ref cls s s1 slips slides rfl refs hthr rfl hslips hslides
  refine ⟨fun due => ?_, fun early => ?_, fun idle => ?_, fun idle => ?_, exec_sandRunOnExpiry_idle⟩
  · have relaxes := fun free => State.controlInterval_relaxes (s := s.atTime t) due refs hthr free hslips hslides
    refine ⟨fun held ends => ?_, fun free c cap e => ?_, fun free c cap e => ?_, fun free last => ?_⟩
    · have agree : cls = .good → ¬ thr < axleDifference s.amu.a s.amu.b := fun good lt => by
        have := (ends.resolve_left (not_not.mpr good)).1
        omega
      obtain ⟨adhesion, quiet, -, -, runOn, -⟩ := State.controlInterval_ends (s := s.atTime t) due refs hthr
        (fun ⟨good, _, lt⟩ => agree good lt) (fun ⟨_, good, _, lt⟩ => agree good lt) held ends
      exact ⟨_, exec_adhesionConditionEnd_taken held adhesion, rfl, adhesion, quiet, runOn⟩
    · have removed : s.drc.capEnds = true := by simp [Drc.capEnds, free, cap, relaxTcap_none e]
      refine ⟨_, exec_capRemoved_taken removed, rfl, fun no => ?_⟩
      rw [(relaxes free).1 (by simp [no])]
      exact (congrArg relaxTcap cap).trans (relaxTcap_none e)
    · have removed : s.drc.capEnds = true := by simp [Drc.capEnds, free, cap, relaxBcap_none e]
      refine ⟨_, exec_capRemoved_taken removed, rfl, fun no => ?_⟩
      rw [(relaxes free).2.1 (by simp [no])]
      exact (congrArg relaxBcap cap).trans (relaxBcap_none e)
    · obtain ⟨-, -, runOn, sand⟩ := relaxes free
      have last' : (s.atTime t).drc.runOn = 1 := last
      refine ⟨_, exec_sandRunOnExpiry_taken free last, rfl, by rw [runOn, last'], fun noSlip noSlide => ?_⟩
      rw [sand (by simp [noSlip]) (by simp [noSlide]), last']
      rfl
  · refine ⟨?_, ?_, ?_⟩ <;> exact congrArg Host.Outcome.next (ite_controlInterval_early early _)
  · refine exec_adhesionConditionEnd_idle ?_
    by_cases free : s.drc.adhesion = .none
    · exact .inl free
    · right
      obtain ⟨good, more⟩ := idle.resolve_left free
      rcases Nat.lt_or_ge (max s.now t) s.drc.intervalDue with early | due
      · rw [State.controlInterval_early (s := s.atTime t) early]
        exact free
      · refine State.controlInterval_holds (s := s.atTime t) due refs hthr free (not_or.mpr ⟨not_not.mpr good, ?_⟩)
        rintro ⟨quiet, tenth⟩
        change 10 ≤ s.drc.quiet + 1 at tenth
        change axleDifference s.amu.a s.amu.b ≤ thr / 2 at quiet
        omega
  · exact exec_capRemoved_idle (Drc.capEnds_eq_false idle)

end Sys2Proof.Machine
end

section
/-! O23 and O24: the band, its warning and the trip for OVERSPEED; the target and the ramp. -/

namespace Sys2Proof.Machine

/-! ## The interval from stage 5 on -/

section late
variable {s : State}

/-- R59: the interval after its stages 1 to 4. -/
def State.ceilinged (s : State) : State := s.begun.measured.ceilingStage

theorem State.ceilinged_driveState (s : State) : s.ceilinged.drc.driveState = s.drc.driveState := by
  rw [State.ceilinged, State.ceilingStage_driveState]
  rfl

/-- What goes with the drive state and the band, and the cab contacts. -/
def Drc.standing (d : Drc) : Band × Bool × Nat × Option TripReason × Bool × Bool × Bool :=
  (d.band, d.warnDrive, d.resetCount, d.tripReason, d.loop, d.detent, d.deadman)

theorem Drc.standing_of_besidePosts {d d' : Drc} (h : d'.besidePosts = d.besidePosts) : d'.standing = d.standing :=
  (congrArg Drc.standing h :)

theorem Drc.adhered_standing (p : Params) (a b : AxleChannel) (d : Drc) : (d.adhered p a b).standing = d.standing := by
  rw [Drc.adhered_frame]
  rfl

theorem State.found_standing (s : State) : s.found.standing = s.drc.standing := by
  rw [State.found, Drc.handled_frame]
  rfl

/-- Stages 1 to 4 leave them alone. -/
theorem State.ceilinged_standing (s : State) : s.ceilinged.drc.standing = s.drc.standing := by
  rw [State.ceilinged, Drc.standing_of_besidePosts s.begun.measured.ceilingStage_besidePosts,
    State.begun_measured_drc, Drc.adhered_standing, State.found_standing]

theorem State.controlInterval_ceilinged (due : s.drc.intervalDue ≤ s.now) :
    s.controlInterval = s.ceilinged.bandStage.outputStage.settle := State.controlInterval_stages due

theorem State.outputStage_settle_drc (s : State) : s.outputStage.settle.drc =
    { s.drc with u := s.nextU, buffer := s.nextU, vigilance := s.outputStage.settle.drc.vigilance
                 warnVigilance := s.outputStage.settle.drc.warnVigilance } := by
  rw [State.settle_drc, State.outputStage_eq]
  rfl

/-- The drive after an interval, from the drive after its stage 5. -/
theorem State.controlInterval_late (due : s.drc.intervalDue ≤ s.now) : s.controlInterval.drc =
    { s.ceilinged.bandStage.drc with
      u := s.ceilinged.bandStage.nextU, buffer := s.ceilinged.bandStage.nextU
      vigilance := s.controlInterval.drc.vigilance, warnVigilance := s.controlInterval.drc.warnVigilance } := by
  rw [State.controlInterval_ceilinged due]
  exact State.outputStage_settle_drc _

/-- Stage 5 finds the speeds that the interval ends with. -/
theorem State.controlInterval_speeds (due : s.drc.intervalDue ≤ s.now) :
    s.controlInterval.drc.speeds = s.ceilinged.drc.speeds := by
  simp [State.controlInterval_ceilinged due]

theorem State.handleStage_faults_length (s : State) :
    s.handleStage.clp.faults.length ≤ s.clp.faults.length + 1 := by
  unfold State.handleStage
  split
  · dsimp only
    split
    · simp [State.clearFault, Clp.clearFault]
    · simp
  · dsimp only
    split
    · exact (Clp.latch_latchings (codes := fun _ => True) trivial _ _ _).length
    · simp

theorem State.ceilinged_faults_length (s : State) : s.ceilinged.clp.faults.length ≤ s.clp.faults.length + 1 := by
  rw [State.ceilinged, State.ceilingStage_faults, State.measured_clp]
  exact s.begun.handleStage_faults_length

theorem State.controlInterval_faults (due : s.drc.intervalDue ≤ s.now) :
    s.controlInterval.clp.faults = s.ceilinged.bandStage.clp.faults := by
  rw [State.controlInterval_ceilinged due, (State.settle_spec _).2.2.2.1, State.outputStage_clp]

end late

/-! ## The band (R57, R58) -/

section band
variable {s : State}

/-- R57: out of READY, and in class LOST, the band is NORMAL, and its warning has ended. -/
theorem State.bandStage_calm (h : s.drc.driveState ≠ .ready ∨ s.drc.refClass = .lost) :
    s.bandStage.drc.band = .normal ∧ s.bandStage.drc.warnDrive = false := by
  have set : (s.setBand .normal).drc.band = .normal ∧ (s.setBand .normal).drc.warnDrive = false := by
    rw [State.setBand_drc]
    exact ⟨rfl, rfl⟩
  cases state : s.drc.driveState with
  | unconfigured => rwa [State.bandStage_unconfigured state]
  | tripped =>
    rw [State.bandStage_tripped state, State.resetStage_drc, Drc.resetStep_frame]
    exact set
  | ready => rwa [State.bandStage_lost state (h.resolve_left (not_not.mpr state))]

/-- R58: the DRIVE warning follows the band that is set. -/
theorem State.setBand_warned (warned : s.drc.warnDrive = true ↔ s.drc.band ≠ .normal) (b : Band) :
    (s.setBand b).drc.warnDrive = true ↔ (s.setBand b).drc.band ≠ .normal := by
  rw [State.setBand_drc]
  by_cases was : s.drc.band = .normal
  · simp [was]
  · simp [warned.mpr was]

theorem State.bandStage_warned (warned : s.drc.warnDrive = true ↔ s.drc.band ≠ .normal) :
    s.bandStage.drc.warnDrive = true ↔ s.bandStage.drc.band ≠ .normal := by
  rcases s.bandStage_cases with ⟨b, -, -, e⟩ | ⟨tripped, -⟩ | ⟨ready, e⟩
  · rw [e]
    exact State.setBand_warned warned b
  · obtain ⟨band, warning⟩ := State.bandStage_calm (.inl (by rw [tripped]; nofun))
    simp [band, warning]
  · rw [e, State.trip_ready_drc ready]
    simp [Drc.trippedBy]

/-- Table 3-5, line by line. -/
theorem nextBand_normal {b : Band} {margin : Int} (h : margin ≤ 0) : nextBand b margin = some .normal := by
  have low : ¬ 250 < margin := by omega
  simp only [nextBand, Config.interveneMargin, if_neg low, if_pos h]

theorem nextBand_warn {b : Band} {margin : Int} (above : 0 < margin) (below : margin ≤ 100) :
    nextBand b margin = some (if b = .intervene then .intervene else .warn) := by
  have low : ¬ 250 < margin := by omega
  simp only [nextBand, Config.interveneMargin, if_neg low, if_neg (not_le.mpr above)]
  split
  · rfl
  · exact if_pos below

theorem nextBand_intervene {b : Band} {margin : Int} (above : 100 < margin) (below : margin ≤ 250) :
    nextBand b margin = some .intervene := by
  have positive : ¬ margin ≤ 0 := by omega
  simp only [nextBand, Config.interveneMargin, if_neg (not_lt.mpr below), if_neg positive]
  split
  · rfl
  · exact if_neg (not_le.mpr above)

theorem nextBand_overspeed {b : Band} {margin : Int} (above : 250 < margin) : nextBand b margin = none := if_pos above

/-- R57: a band is set in READY. -/
theorem State.bandStage_set {b : Band} (ready : s.drc.driveState = .ready) (known : s.drc.refClass ≠ .lost)
    (band : nextBand s.drc.band ((s.drc.ref : Int) - s.drc.vSup) = some b) :
    s.bandStage.drc.driveState = .ready ∧ s.bandStage.drc.band = b := by
  rw [State.bandStage_banded ready known band, State.setBand_drc]
  exact ⟨ready, rfl⟩

/-- R38: with room the trip of an interval latches OVERSPEED. -/
theorem State.trip_latched {cause : TripReason} {code : FaultCode} (fault : tripFault cause = some code)
    (ready : s.drc.driveState = .ready) (room : s.clp.faults.length < 31) : Latched code 0 (s.trip cause) := by
  rw [State.trip_ready ready]
  exact State.handOnTrip_latched { s with drc := s.drc.enterTripped cause } fault room

/-- R38, R57: an interval that finds the margin above 250 cm/s trips. -/
theorem State.bandStage_trips (ready : s.drc.driveState = .ready) (known : s.drc.refClass ≠ .lost)
    (exceeds : 250 < (s.drc.ref : Int) - s.drc.vSup) :
    s.bandStage.drc = s.drc.trippedBy .overspeed ∧
    (s.clp.faults.length < 31 → Latched .overspeed 0 s.bandStage) := by
  rw [State.bandStage_overspeed ready known (nextBand_overspeed exceeds)]
  exact ⟨State.trip_ready_drc ready _, State.trip_latched rfl ready⟩

theorem State.nextU_tripped (tripped : s.drc.driveState = .tripped) : s.nextU = -100 := by
  simp only [State.nextU, tripped]

end band

/-- R57, R58, R38: what an interval makes of the band, from the state after its stage 4. -/
theorem State.controlInterval_band {s : State} (due : s.drc.intervalDue ≤ s.now)
    (warned : s.drc.warnDrive = true ↔ s.drc.band ≠ .normal) :
    (s.controlInterval.drc.warnDrive = true ↔ s.controlInterval.drc.band ≠ .normal) ∧
    (s.drc.driveState ≠ .ready ∨ s.controlInterval.drc.refClass = .lost → s.controlInterval.drc.band = .normal) ∧
    (s.drc.driveState = .ready → s.controlInterval.drc.refClass = .lost →
      s.controlInterval.drc.driveState = .ready) ∧
    (s.drc.driveState = .ready → s.controlInterval.drc.refClass ≠ .lost →
      ∀ margin : Int, margin = s.controlInterval.drc.ref - s.controlInterval.drc.vSup →
      (∀ b, nextBand s.drc.band margin = some b →
        s.controlInterval.drc.driveState = .ready ∧ s.controlInterval.drc.band = b) ∧
      (250 < margin → s.controlInterval.drc.driveState = .tripped ∧
        s.controlInterval.drc.tripReason = some .overspeed ∧ s.controlInterval.drc.loop = false ∧
        s.controlInterval.drc.u = -100 ∧ s.controlInterval.drc.resetCount = 0 ∧
        s.controlInterval.drc.band = .normal ∧
        (s.clp.faults.length < 30 → Latched .overspeed 0 s.controlInterval))) := by
  have late := State.controlInterval_late due
  have speeds := State.controlInterval_speeds due
  have state := s.ceilinged_driveState
  have standing := s.ceilinged_standing
  have faults := State.controlInterval_faults due
  have length := s.ceilinged_faults_length
  simp only [Drc.speeds, SpeedView.mk.injEq] at speeds
  simp only [Drc.standing, Prod.mk.injEq] at standing
  obtain ⟨-, -, vSup, refClass, ref⟩ := speeds
  obtain ⟨band, warnDrive, -⟩ := standing
  unfold Latched
  rw [refClass, ref, vSup, ← state, ← band, faults, late]
  rw [← warnDrive, ← band] at warned
  generalize s.ceilinged = m at *
  refine ⟨State.bandStage_warned warned, fun h => (State.bandStage_calm h).1, fun ready lost => ?_,
    fun ready known margin hmargin => ⟨fun b next => State.bandStage_set ready known (hmargin ▸ next), fun exceeds => ?_⟩⟩
  · change m.bandStage.drc.driveState = .ready
    rw [State.bandStage_lost ready lost, State.setBand_drc]
    exact ready
  · obtain ⟨trip, latched⟩ := State.bandStage_trips ready known (hmargin ▸ exceeds)
    have tripped : m.bandStage.drc.driveState = .tripped := by rw [trip]; rfl
    rw [State.nextU_tripped tripped, trip]
    exact ⟨rfl, rfl, rfl, rfl, rfl, rfl, fun room => latched (by omega)⟩

/-- Settles O23: Table 3-5 line by line. -/
theorem intervalBand : Obligations.IntervalBand := by
  intro t s due warned
  obtain ⟨warns, calm, lost, bands⟩ := State.controlInterval_band (s := s.atTime t) due warned
  refine ⟨_, rfl, warns, calm, lost, fun ready known margin hmargin => ?_⟩
  obtain ⟨set, trips⟩ := bands ready known margin hmargin
  exact ⟨fun le => set _ (nextBand_normal le), fun above below => set _ (nextBand_warn above below),
    fun above below => set _ (nextBand_intervene above below), trips⟩

end Sys2Proof.Machine
end

section
/-! O24: the demand of a control interval. -/

namespace Sys2Proof.Machine

/-! ## u up to stage 4 (R24, R27, R52, R53) -/

/-- R52, R53: u as stage 3 leaves it. -/
def cutDemand (state : DriveState) (cls : RefClass) (thr diff : Nat) (u : Int) : Int :=
  if cls = .good ∧ 0 < u ∧ thr < diff then min u (max 0 (u - 15))
  else if state = .ready ∧ cls = .good ∧ u < 0 ∧ thr < diff then max u (min 0 (u + 15))
  else u

theorem Drc.judgeAdhesion_u (thr diff : Nat) (d : Drc) :
    (d.judgeAdhesion thr diff).u = cutDemand d.driveState d.refClass thr diff d.u := by
  unfold cutDemand
  split
  · next slips => rw [Drc.judgeAdhesion_slip slips]; rfl
  · next noSlip =>
    split
    · next slides => rw [Drc.judgeAdhesion_slide slides]; rfl
    · next noSlide =>
      by_cases free : d.adhesion = .none
      · rw [Drc.judgeAdhesion_free noSlip noSlide free]
      · by_cases ends : d.refClass ≠ .good ∨ (diff ≤ thr / 2 ∧ 10 ≤ d.quiet + 1)
        · rw [Drc.judgeAdhesion_ends noSlip noSlide free ends]; rfl
        · rw [Drc.judgeAdhesion_lasts noSlip noSlide free ends]

theorem State.begun_measured_u {s : State} {thr ref : Nat} {cls : RefClass}
    (refs : reference s.drc.u s.amu.a s.amu.b = (cls, ref))
    (hthr : thr = max s.params.slipMin.toNat (ref * s.params.slipPermille.toNat / 1000)) :
    s.begun.measured.drc.u = cutDemand s.drc.driveState cls thr (axleDifference s.amu.a s.amu.b) s.drc.u := by
  obtain ⟨refClass, u, state, -⟩ := State.relaxed_kept refs
  rw [State.begun_measured_drc, State.found_adhered refs hthr, Drc.judgeAdhesion_u, refClass, u, state]

/-- R27: an entry in a slot that becomes ACTIVE and then forbids traction. -/
def Table.Stops (track : Pos) (t : Table) (slot : Slot) : Prop :=
  ∃ e, t.get slot = some e ∧ e.kind ≠ .ceiling ∧ e.starts track = true

theorem State.activateSlot_u (track : Pos) (slot : Slot) (s : State) :
    (0 < s.drc.u ∧ s.drc.table.Stops track slot → (s.activateSlot track slot).1.drc.u = 0) ∧
    (¬ (0 < s.drc.u ∧ s.drc.table.Stops track slot) → (s.activateSlot track slot).1.drc.u = s.drc.u) := by
  unfold State.activateSlot Table.Stops
  cases held : s.drc.table.get slot with
  | none => simp
  | some e =>
    by_cases starts : e.starts track = true
    · simp only [starts, if_true, State.clip_eq, Drc.clipped, Entry.inhibits]
      by_cases kind : e.kind = .ceiling <;> by_cases above : 0 < s.drc.u <;> simp [kind, above, starts]
    · simp [starts]

theorem Table.stops_set_other {track : Pos} {t : Table} {slot other : Slot} (x : Option Entry) (h : slot ≠ other) :
    (t.set other x).Stops track slot ↔ t.Stops track slot := by
  unfold Table.Stops
  rw [Table.get_set_other _ _ _ _ h]

/-- R24, R27: the activations of some slots set a u above 0 to 0 where one of them forbids traction. -/
theorem State.activations_u {track : Pos} {slots : List Slot} (once : slots.Nodup) (s : State) :
    (0 < s.drc.u ∧ (∃ slot ∈ slots, s.drc.table.Stops track slot) →
      (s.judgeSlots (State.activateSlot track) slots).1.drc.u = 0) ∧
    (¬ (0 < s.drc.u ∧ ∃ slot ∈ slots, s.drc.table.Stops track slot) →
      (s.judgeSlots (State.activateSlot track) slots).1.drc.u = s.drc.u) := by
  rw [State.judgeSlots_fst]
  induction slots generalizing s with
  | nil => simp
  | cons slot rest ih =>
    obtain ⟨apart, once⟩ := List.nodup_cons.mp once
    obtain ⟨clips, keeps⟩ := s.activateSlot_u track slot
    obtain ⟨clipsRest, keepsRest⟩ := ih once (s.activateSlot track slot).1
    have rest_stops : (∃ x ∈ rest, (s.activateSlot track slot).1.drc.table.Stops track x) ↔
        ∃ x ∈ rest, s.drc.table.Stops track x := by
      refine exists_congr fun x => and_congr_right fun hx => ?_
      rw [State.activateSlot_table]
      exact Table.stops_set_other _ fun same => apart (same ▸ hx)
    rw [rest_stops] at clipsRest keepsRest
    rw [List.foldl_cons]
    by_cases here : 0 < s.drc.u ∧ s.drc.table.Stops track slot
    · have zero := clips here
      rw [zero] at keepsRest
      exact ⟨fun _ => keepsRest (by simp), fun none => absurd ⟨here.1, slot, List.mem_cons_self, here.2⟩ none⟩
    · rw [keeps here] at clipsRest keepsRest
      refine ⟨fun ⟨above, x, hx, stops⟩ => clipsRest ⟨above, x, ?_, stops⟩,
        fun none => keepsRest fun ⟨above, x, hx, stops⟩ => none ⟨above, x, List.mem_cons_of_mem _ hx, stops⟩⟩
      rcases List.mem_cons.mp hx with rfl | hx
      · exact absurd ⟨above, stops⟩ here
      · exact hx

theorem State.expireSlot_u (track : Pos) (slot : Slot) (s : State) : (s.expireSlot track slot).1.drc.u = s.drc.u := by
  unfold State.expireSlot
  (repeat' split) <;> rfl

theorem Drc.recompute_u (v : Nat) (d : Drc) : (d.recompute v).u = d.u := rfl

theorem Drc.superviseCeiling_u (n : Nat) (d : Drc) : (d.superviseCeiling n).u = d.u := rfl

/-- u after stage 4 is that after the activations. -/
theorem State.ceilingStage_u (s : State) : s.ceilingStage.drc.u =
    (s.judgeSlots (State.activateSlot s.amu.trackMm) linkSlots).1.drc.u := by
  rw [State.ceilingStage_drc, Drc.superviseCeiling_u, Drc.recompute_u, State.judged]
  exact State.judgeSlots_frame _ _ (fun a b => b.drc.u = a.drc.u) (fun _ => rfl) (fun _ _ _ hab hbc => hbc.trans hab)
    (State.expireSlot_u _) _

theorem mem_linkSlots {slot : Slot} : slot ∈ linkSlots ↔ ∃ i : Fin 6, slot = .link i := by
  constructor
  · simp only [linkSlots, List.mem_cons, List.not_mem_nil, or_false]
    rintro (rfl | rfl | rfl | rfl | rfl | rfl) <;> exact ⟨_, rfl⟩
  · rintro ⟨i, rfl⟩
    exact link_mem_linkSlots i

/-- R24, R27: u as stage 4 leaves it. -/
theorem State.ceilingStage_clips {s : State} {clips : Bool} (h : clips = true ↔ 0 < s.drc.u ∧
    ∃ i : Fin 6, s.drc.table.Stops s.amu.trackMm (.link i)) : s.ceilingStage.drc.u = if clips then 0 else s.drc.u := by
  obtain ⟨zero, kept⟩ := State.activations_u (track := s.amu.trackMm) (slots := linkSlots) (by decide) s
  have slots : (∃ slot ∈ linkSlots, s.drc.table.Stops s.amu.trackMm slot) ↔
      ∃ i : Fin 6, s.drc.table.Stops s.amu.trackMm (.link i) := by
    simp only [mem_linkSlots]
    exact ⟨fun ⟨_, ⟨i, rfl⟩, stops⟩ => ⟨i, stops⟩, fun ⟨i, stops⟩ => ⟨_, ⟨i, rfl⟩, stops⟩⟩
  rw [slots, ← h] at zero kept
  rw [State.ceilingStage_u]
  cases clips with
  | true => exact zero rfl
  | false => exact kept (by decide)

theorem State.begun_measured_table (s : State) : s.begun.measured.drc.table = s.drc.table := by
  have speeds := s.begun.measured_speeds
  simp only [Drc.speeds, SpeedView.mk.injEq] at speeds
  exact speeds.1

theorem State.begun_measured_amu (s : State) : s.begun.measured.amu = s.amu := by simp [State.measured, State.begun]

/-- u after the first four stages. -/
theorem State.ceilinged_u {s : State} {u : Int} {clips : Bool} (measured : s.begun.measured.drc.u = u)
    (h : clips = true ↔ 0 < u ∧ ∃ i : Fin 6, s.drc.table.Stops s.amu.trackMm (.link i)) :
    s.ceilinged.drc.u = if clips then 0 else u := by
  rw [← measured, ← s.begun_measured_table, ← s.begun_measured_amu] at h
  rw [State.ceilinged, State.ceilingStage_clips h, measured]

/-! ## Stages 5 to 8 (R59 to R62) -/

/-- Only a trip moves u at stage 5. -/
theorem State.bandStage_u {s : State} (ready : s.bandStage.drc.driveState = .ready) :
    s.bandStage.drc.u = s.drc.u := by
  rcases s.bandStage_cases with ⟨b, -, -, e⟩ | ⟨-, e⟩ | ⟨was, e⟩
  · rw [e, State.setBand_drc]
  · rw [e, State.resetStage_drc, Drc.resetStep_frame, State.setBand_drc]
  · rw [e, State.trip_ready_drc was] at ready
    cases ready

theorem State.nextU_unconfigured {s : State} (h : s.drc.driveState = .unconfigured) : s.nextU = 0 := by
  simp only [State.nextU, h]

theorem State.nextU_ready {s : State} (h : s.drc.driveState = .ready) :
    s.nextU = ramp s.params (s.drc.target s.params.serviceBrake.toInt) s.drc.u := by
  simp only [State.nextU, h]

/-- The target does not read u, nor the vigilance timer. -/
theorem Drc.target_of_late {d m : Drc} {u buffer : Int} {v : Option Nat} {w : Bool}
    (h : d = { m with u := u, buffer := buffer, vigilance := v, warnVigilance := w }) (service : Int) :
    m.target service = d.target service := by
  subst h
  rfl

/-- R59 to R62: the demand that an interval leaves. -/
theorem State.controlInterval_demand {s : State} (due : s.drc.intervalDue ≤ s.now) :
    s.controlInterval.drc.buffer = s.controlInterval.drc.u ∧
    (s.controlInterval.drc.driveState = .unconfigured → s.controlInterval.drc.u = 0) ∧
    (s.controlInterval.drc.driveState = .tripped → s.controlInterval.drc.u = -100) ∧
    (s.controlInterval.drc.driveState = .ready → s.controlInterval.drc.u =
      ramp s.params (s.controlInterval.drc.target s.params.serviceBrake.toInt) s.ceilinged.drc.u) := by
  have late := State.controlInterval_late due
  have target := Drc.target_of_late late s.params.serviceBrake.toInt
  have params : s.ceilinged.bandStage.params = s.params := by simp [State.ceilinged, State.measured, State.begun]
  generalize s.ceilinged = m at *
  have u : s.controlInterval.drc.u = m.bandStage.nextU := (congrArg Drc.u late :)
  have buffer : s.controlInterval.drc.buffer = m.bandStage.nextU := (congrArg Drc.buffer late :)
  have state : s.controlInterval.drc.driveState = m.bandStage.drc.driveState := (congrArg Drc.driveState late :)
  rw [buffer, u, state, ← target]
  refine ⟨rfl, State.nextU_unconfigured, State.nextU_tripped, fun ready => ?_⟩
  rw [State.nextU_ready ready, params, State.bandStage_u ready]

/-- Settles O24. -/
theorem intervalDemand : Obligations.IntervalDemand := by
  rintro t thr diff ref cls s u3 u4 clips due refs hthr rfl hu3 hclips rfl
  obtain ⟨buffer, unconfigured, tripped, ready⟩ := State.controlInterval_demand (s := s.atTime t) due
  refine ⟨_, rfl, buffer, unconfigured, tripped, ?_⟩
  rintro isReady x1 rfl x2 rfl x3 rfl x4 rfl x5 rfl
  have measured : (s.atTime t).begun.measured.drc.u = u3 := by
    rw [hu3]
    exact State.begun_measured_u (s := s.atTime t) refs hthr
  have refClass : (s.atTime t).controlInterval.drc.refClass = cls :=
    (State.controlInterval_reference (s := s.atTime t) due).1.trans (congrArg Prod.fst refs)
  have start := State.ceilinged_u measured hclips
  rw [ready isReady, start, Drc.target_eq, ← refClass]
  rfl

end Sys2Proof.Machine
end

section
/-! O26: the reset procedure. -/

namespace Sys2Proof.Machine

/-! ## A stage 4 with nothing to report (R27, R28) -/

/-- Judgements that find nothing do nothing. -/
theorem State.judgeSlots_idle {judge : Slot → State → State × List (RestrictEvent × Slot × Entry)} {s : State}
    (idle : ∀ slot, judge slot s = (s, [])) (slots : List Slot) : s.judgeSlots judge slots = (s, []) := by
  unfold State.judgeSlots
  induction slots with
  | nil => rfl
  | cons slot rest ih => rwa [List.foldl_cons, idle]

/-- R27, R28: with every entry ACTIVE and without an end, no entry is activated or expires. -/
theorem State.ceilingStage_idle {s : State}
    (standing : ∀ e ∈ s.drc.table.entries, e.phase = .active ∧ e.stop = none) : s.ceilingStage.clp = s.clp := by
  have active : ∀ slot, s.activateSlot s.amu.trackMm slot = (s, []) := by
    intro slot
    unfold State.activateSlot
    cases held : s.drc.table.get slot with
    | none => rfl
    | some e =>
      obtain ⟨phase, -⟩ := standing e (Table.mem_entries.mpr ⟨slot, held⟩)
      simp [Entry.starts, phase]
  have lasting : ∀ slot, s.expireSlot s.amu.trackMm slot = (s, []) := by
    intro slot
    unfold State.expireSlot
    cases held : s.drc.table.get slot with
    | none => rfl
    | some e =>
      obtain ⟨-, stop⟩ := standing e (Table.mem_entries.mpr ⟨slot, held⟩)
      simp [Entry.ends, stop]
  unfold State.ceilingStage
  simp only [State.judgeSlots_idle (judge := State.activateSlot s.amu.trackMm) active,
    State.judgeSlots_idle (judge := State.expireSlot s.amu.trackMm) lasting]
  rfl

/-! ## The reset procedure at stage 5 (R40) -/

/-- Table 3-4: the reference is LOST with both axles in FAULT. -/
theorem resetRequirement_reference (u : Int) (a b : AxleChannel) : resetRequirement (reference u a b).1 =
    if a.cls = .fault ∧ b.cls = .fault then 250 else 50 := by
  by_cases ha : a.cls = .fault <;> by_cases hb : b.cls = .fault <;>
    simp [reference, ha, hb, resetRequirement, Config.resetIntervals, Config.resetIntervalsLost]

/-- R40: the row is the interval that completes the procedure (the choice of assumption 4). -/
theorem exec_resetComplete_taken {s : State} {t : Nat} (tripped : s.drc.driveState = .tripped)
    (ready : (s.atTime t).controlInterval.drc.driveState = .ready) :
    exec (.resetComplete t) s = .next (s.atTime t).controlInterval :=
  congrArg Host.Outcome.next (if_pos ⟨tripped, ready⟩)

theorem exec_resetComplete_idle {s : State} {t : Nat}
    (still : (s.atTime t).controlInterval.drc.driveState ≠ .ready) :
    exec (.resetComplete t) s = .next (s.atTime t) :=
  congrArg Host.Outcome.next (if_neg fun ⟨_, ready⟩ => still ready)

section reset
variable {s : State}

/-- R40: in TRIPPED stage 5 sets the band to NORMAL and judges the reset procedure. -/
theorem State.controlInterval_tripped (due : s.drc.intervalDue ≤ s.now) (tripped : s.drc.driveState = .tripped) :
    s.controlInterval = (s.ceilinged.setBand .normal).resetStage.outputStage.settle := by
  rw [State.controlInterval_ceilinged due, State.bandStage_tripped (s.ceilinged_driveState.trans tripped)]

/-- R40: what the reset procedure is judged by, from the state that the interval leaves. -/
theorem resetHolds_iff (s : State) : resetHolds s = true ↔ s.drc.handleFault = false ∧ s.drc.h = -100 ∧
    s.drc.detent = false ∧ s.drc.deadman = true ∧ (s.amu.atStandstill = true ∨ s.drc.refClass = .lost) := by
  simp [resetHolds, and_assoc]

/-- R40: the drive of a tripped interval from its stage 5 on. -/
theorem State.controlInterval_tripped_drc (due : s.drc.intervalDue ≤ s.now) (tripped : s.drc.driveState = .tripped) :
    ∃ u v w, s.controlInterval.drc =
      { ((s.ceilinged.setBand .normal).drc.resetStep (resetHolds (s.ceilinged.setBand .normal))) with
        u := u, buffer := u, vigilance := v, warnVigilance := w } := by
  have late := State.controlInterval_late due
  rw [State.bandStage_tripped (s.ceilinged_driveState.trans tripped), State.resetStage_drc] at late
  exact ⟨_, _, _, late⟩

/-- R40: the conditions stand as the interval leaves them. -/
theorem State.resetHolds_controlInterval (due : s.drc.intervalDue ≤ s.now) (tripped : s.drc.driveState = .tripped) :
    resetHolds (s.ceilinged.setBand .normal) = true ↔ s.controlInterval.drc.handleFault = false ∧
      s.controlInterval.drc.h = -100 ∧ s.drc.detent = false ∧ s.drc.deadman = true ∧
      (s.amu.atStandstill = true ∨ s.controlInterval.drc.refClass = .lost) := by
  obtain ⟨u, v, w, late⟩ := State.controlInterval_tripped_drc due tripped
  have standing := s.ceilinged_standing
  have amu : (s.ceilinged.setBand .normal).amu = s.amu := by simp [State.ceilinged, State.measured, State.begun]
  simp only [Drc.standing, Prod.mk.injEq] at standing
  obtain ⟨-, -, -, -, -, detent, deadman⟩ := standing
  rw [resetHolds_iff, amu, late, Drc.resetStep_frame, State.setBand_drc, ← detent, ← deadman]

theorem State.setBand_kept (b : Band) (s : State) : (s.setBand b).drc.driveState = s.drc.driveState ∧
    (s.setBand b).drc.resetCount = s.drc.resetCount ∧ (s.setBand b).drc.tripReason = s.drc.tripReason ∧
    (s.setBand b).drc.loop = s.drc.loop := by
  rw [State.setBand_drc]
  exact ⟨rfl, rfl, rfl, rfl⟩

/-- Before the procedure is judged, the drive state with what goes with it is as the interval finds it. -/
theorem State.ceilinged_setBand_standing (tripped : s.drc.driveState = .tripped) :
    (s.ceilinged.setBand .normal).drc.driveState = .tripped ∧
    (s.ceilinged.setBand .normal).drc.resetCount = s.drc.resetCount ∧
    (s.ceilinged.setBand .normal).drc.tripReason = s.drc.tripReason ∧
    (s.ceilinged.setBand .normal).drc.loop = s.drc.loop := by
  have standing := s.ceilinged_standing
  simp only [Drc.standing, Prod.mk.injEq] at standing
  obtain ⟨-, -, count, reason, loop, -⟩ := standing
  obtain ⟨stateSet, countSet, reasonSet, loopSet⟩ := State.setBand_kept .normal s.ceilinged
  exact ⟨stateSet.trans (s.ceilinged_driveState.trans tripped), countSet.trans count, reasonSet.trans reason,
    loopSet.trans loop⟩

theorem Drc.resetStep_false (d : Drc) : d.resetStep false = { d with resetCount := 0 } := rfl

theorem Drc.resetStep_counts {d : Drc} (short : min 250 (d.resetCount + 1) < resetRequirement d.refClass) :
    d.resetStep true = { d with resetCount := min 250 (d.resetCount + 1) } := if_neg (not_le.mpr short)

theorem Drc.resetStep_completes {d : Drc} (long : resetRequirement d.refClass ≤ min 250 (d.resetCount + 1)) :
    d.resetStep true = { d with driveState := .ready, loop := true, resetCount := 0 } := if_pos long

/-- R40: the drive state, the count, the loop and the reason after a tripped interval. -/
theorem State.controlInterval_reset (due : s.drc.intervalDue ≤ s.now) (tripped : s.drc.driveState = .tripped)
    {n req : Nat} (hn : n = min 250 (s.drc.resetCount + 1))
    (hreq : req = resetRequirement s.controlInterval.drc.refClass) {holds : Bool}
    (h : resetHolds (s.ceilinged.setBand .normal) = holds) :
    (holds = false → s.controlInterval.drc.driveState = .tripped ∧ s.controlInterval.drc.resetCount = 0 ∧
      s.controlInterval.drc.loop = s.drc.loop) ∧
    (holds = true → n < req → s.controlInterval.drc.driveState = .tripped ∧ s.controlInterval.drc.resetCount = n ∧
      s.controlInterval.drc.loop = s.drc.loop) ∧
    (holds = true → req ≤ n → s.controlInterval.drc.driveState = .ready ∧ s.controlInterval.drc.resetCount = 0 ∧
      s.controlInterval.drc.loop = true ∧ s.controlInterval.drc.tripReason = s.drc.tripReason) := by
  obtain ⟨u, v, w, late⟩ := State.controlInterval_tripped_drc due tripped
  obtain ⟨state, count, reason, loop⟩ := State.ceilinged_setBand_standing tripped
  rw [h] at late
  generalize (s.ceilinged.setBand .normal).drc = d at *
  have refClass : s.controlInterval.drc.refClass = d.refClass := by rw [late, Drc.resetStep_frame]
  rw [refClass] at hreq
  rw [← count] at hn
  subst hn hreq
  refine ⟨fun hf => ?_, fun ht short => ?_, fun ht long => ?_⟩
  · rw [late, hf, Drc.resetStep_false]
    exact ⟨state, rfl, loop⟩
  · rw [late, ht, Drc.resetStep_counts short]
    exact ⟨state, rfl, loop⟩
  · rw [late, ht, Drc.resetStep_completes long]
    exact ⟨rfl, rfl, rfl, reason⟩

/-- R40: the EMERGENCY report of a completed procedure. -/
theorem State.completeReset_reported (room : reportCount s.clp.outbound < 12) :
    ∃ tag lost, .report tag lost (.emergency .tripped .ready s.drc.tripReason s.drc.refClass s.drc.ref s.amu.odometerMm) ∈
      s.completeReset.clp.outbound := Clp.raise_joined _ room

theorem State.resetStage_completes (holds : resetHolds s = true)
    (long : resetRequirement s.drc.refClass ≤ min 250 (s.drc.resetCount + 1)) : s.resetStage =
      State.completeReset { s with drc := { s.drc with resetCount := min 250 (s.drc.resetCount + 1) } } := by
  simp only [State.resetStage, holds, if_true, if_pos long]

/-- R58: with no DRIVE warning to end, NORMAL is set without a word to the Tone Unit. -/
theorem State.setBand_normal_clp (calm : s.drc.warnDrive = false) : (s.setBand .normal).clp = s.clp := by
  simp [State.setBand, State.endDriveWarning, calm]

/-- R45: a handle that is not in FAULT has at most been told to the fault set. -/
theorem State.handleStage_outbound (good : s.handleStage.drc.handleFault = false) :
    s.handleStage.clp.outbound = s.clp.outbound := by
  revert good
  unfold State.handleStage
  split
  · dsimp only
    split <;> intro _ <;> rfl
  · dsimp only
    split <;> exact nofun

/-- With nothing to report before it, stage 5 finds the outbound queue as the interval does. -/
theorem State.ceilinged_setBand_outbound (due : s.drc.intervalDue ≤ s.now) (calm : s.drc.warnDrive = false)
    (standing : ∀ e ∈ s.drc.table.entries, e.phase = .active ∧ e.stop = none)
    (good : s.controlInterval.drc.handleFault = false) :
    (s.ceilinged.setBand .normal).clp.outbound = s.clp.outbound := by
  have same := s.ceilinged_standing
  simp only [Drc.standing, Prod.mk.injEq] at same
  have still : s.ceilinged.drc.warnDrive = false := same.2.1.trans calm
  have handle : s.begun.handleStage.drc.handleFault = false := by
    rw [State.handleStage_drc]
    exact s.begun_handled.2.1.trans ((State.controlInterval_handle due).2.1.symm.trans good)
  rw [← s.begun_measured_table] at standing
  rw [State.setBand_normal_clp still, State.ceilinged, State.ceilingStage_idle standing, State.measured_clp,
    State.handleStage_outbound handle]
  rfl

/-- R40: the report of an interval that completes the procedure stands in the outbound queue. -/
theorem State.controlInterval_reported (due : s.drc.intervalDue ≤ s.now) (tripped : s.drc.driveState = .tripped)
    (holds : resetHolds (s.ceilinged.setBand .normal) = true)
    (long : resetRequirement s.controlInterval.drc.refClass ≤ min 250 (s.drc.resetCount + 1))
    (calm : s.drc.warnDrive = false) (standing : ∀ e ∈ s.drc.table.entries, e.phase = .active ∧ e.stop = none)
    (room : reportCount s.clp.outbound < 12) : ∃ tag lost, .report tag lost (.emergency .tripped .ready s.drc.tripReason
      s.controlInterval.drc.refClass s.controlInterval.drc.ref s.amu.odometerMm) ∈ s.controlInterval.clp.outbound := by
  have speeds : s.controlInterval.drc.speeds = (s.ceilinged.setBand .normal).drc.speeds := by
    rw [State.controlInterval_speeds due, State.setBand_speeds]
  simp only [Drc.speeds, SpeedView.mk.injEq] at speeds
  obtain ⟨-, -, -, refClass, ref⟩ := speeds
  obtain ⟨-, count, reason, -⟩ := State.ceilinged_setBand_standing tripped
  have good := ((State.resetHolds_controlInterval due tripped).mp holds).1
  have share := State.ceilinged_setBand_outbound due calm standing good
  have amu : (s.ceilinged.setBand .normal).amu = s.amu := by simp [State.ceilinged, State.measured, State.begun]
  rw [refClass] at long ⊢
  rw [ref, ← reason, ← amu, State.controlInterval_tripped due tripped]
  rw [← share] at room
  rw [← count] at long
  generalize s.ceilinged.setBand .normal = m at *
  rw [State.resetStage_completes holds long]
  obtain ⟨tag, lost, mem⟩ := State.completeReset_reported
    (s := { m with drc := { m.drc with resetCount := min 250 (m.drc.resetCount + 1) } }) room
  refine ⟨tag, lost, State.settle_outbound _ ?_⟩
  rw [State.outputStage_clp]
  exact mem

end reset

/-- Settles O26. -/
theorem resetProcedure : Obligations.ResetProcedure := by
  rintro t n req s tripped due hn rfl
  refine ⟨_, rfl, fun holds hholds => ?_⟩
  have found : resetHolds ((s.atTime t).ceilinged.setBand .normal) = holds :=
    Bool.eq_iff_iff.mpr ((State.resetHolds_controlInterval (s := s.atTime t) due tripped).trans hholds.symm)
  have lost : (if s.amu.a.cls = .fault ∧ s.amu.b.cls = .fault then 250 else 50) =
      resetRequirement (s.atTime t).controlInterval.drc.refClass := by
    rw [(State.controlInterval_reference (s := s.atTime t) due).1]
    exact (resetRequirement_reference ..).symm
  obtain ⟨fails, counts, completes⟩ := State.controlInterval_reset (s := s.atTime t) due tripped hn lost found
  refine ⟨fun h => ?_, fun h short => ?_, fun h long => ?_⟩
  · obtain ⟨state, count, loop⟩ := fails h
    exact ⟨state, count, loop, exec_resetComplete_idle (by rw [state]; nofun)⟩
  · obtain ⟨state, count, loop⟩ := counts h short
    exact ⟨state, count, loop, exec_resetComplete_idle (by rw [state]; nofun)⟩
  · obtain ⟨state, count, loop, reason⟩ := completes h long
    refine ⟨state, count, loop, reason, exec_resetComplete_taken tripped state, ?_⟩
    exact State.controlInterval_reported (s := s.atTime t) due tripped (found.trans h) (lost ▸ hn ▸ long)

end Sys2Proof.Machine
end

section
/-! O28 and O30: a trip, what it hands on to the Tone Unit and the cab link, and vigilance. -/

namespace Sys2Proof.Machine

/-! ## The Tone Unit does not read the drive -/

/-- The state with another drive. -/
def State.withDrc (d : Drc) (s : State) : State := { s with drc := d }

section sounds
variable (d : Drc) (s : State)

theorem State.setChannel_withDrc (ch : ChannelId) (c : Channel) :
    (s.withDrc d).setChannel ch c = (s.setChannel ch c).withDrc d := rfl

theorem State.latch_withDrc (code : FaultCode) (index : Nat) :
    (s.withDrc d).latch code index = (s.latch code index).withDrc d := rfl

theorem State.reportExit_withDrc (ch : ChannelId) (e : Exit) :
    (s.withDrc d).reportExit ch e = (s.reportExit ch e).withDrc d := by
  unfold State.reportExit
  split <;> rfl

theorem State.reportExits_withDrc (ch : ChannelId) (es : List Exit) :
    (s.withDrc d).reportExits ch es = (s.reportExits ch es).withDrc d := by
  unfold State.reportExits
  induction es generalizing s with
  | nil => rfl
  | cons e es ih =>
    rw [List.foldl_cons, List.foldl_cons, State.reportExit_withDrc]
    exact ih _

theorem State.endSound_withDrc (ch : ChannelId) (source : Source) (pattern : Nat) :
    (s.withDrc d).endSound ch source pattern = (s.endSound ch source pattern).withDrc d := by
  unfold State.endSound
  exact State.reportExits_withDrc d (s.setChannel ch _) ch _

/-- R165, R169: the state once a request has arrived with the given outcome. -/
def State.arrived (ch : ChannelId) (a : Arrival) (s : State) : State :=
  let s := s.setChannel ch a.channel
  let s := match a.dropped with
    | some sv => (s.latch .soundDropped 0).reportExit ch ⟨.dropped, sv.req, sv.repeats⟩
    | none => s
  match a.displaced with
  | some q => s.reportExit ch ⟨.displaced, q, 0⟩
  | none => s

theorem State.sound_arrived (ch : ChannelId) (pattern priority : Nat) (source : Source) (mode : Mode) :
    s.sound ch pattern priority source mode = s.arrived ch ((s.channel ch).arrive s.tnu.pattern s.now
      { pattern := pattern, priority := priority, source := source, mode := mode, rank := 0 }) := rfl

theorem State.arrived_withDrc (ch : ChannelId) (a : Arrival) :
    (s.withDrc d).arrived ch a = (s.arrived ch a).withDrc d := by
  unfold State.arrived
  cases a.dropped with
  | none =>
    cases a.displaced with
    | none => rfl
    | some q => simp only [State.setChannel_withDrc, State.reportExit_withDrc]
  | some sv =>
    cases a.displaced with
    | none => simp only [State.setChannel_withDrc, State.latch_withDrc, State.reportExit_withDrc]
    | some q => simp only [State.setChannel_withDrc, State.latch_withDrc, State.reportExit_withDrc]

theorem State.sound_withDrc (ch : ChannelId) (pattern priority : Nat) (source : Source) (mode : Mode) :
    (s.withDrc d).sound ch pattern priority source mode = (s.sound ch pattern priority source mode).withDrc d := by
  rw [State.sound_arrived, State.sound_arrived]
  exact State.arrived_withDrc d s ch _

variable {d s}

theorem State.endVigilanceWarning_held (held : s.drc.warnVigilance = true) : s.endVigilanceWarning =
    (s.endSound .cab .vigilance cabWarning).withDrc { s.drc with warnVigilance := false } :=
  (if_pos held).trans (State.endSound_withDrc _ s ..)

theorem State.endVigilanceWarning_none (none : s.drc.warnVigilance = false) : s.endVigilanceWarning = s :=
  s.endVigilanceWarning_spec.2.2.2 none

theorem State.endDriveWarning_held (held : s.drc.warnDrive = true) : s.endDriveWarning =
    (s.endSound .cab .drive cabWarning).withDrc { s.drc with warnDrive := false } :=
  (if_pos held).trans (State.endSound_withDrc _ s ..)

theorem State.endDriveWarning_none (none : s.drc.warnDrive = false) : s.endDriveWarning = s :=
  if_neg (by simp [none])

/-- R38, R50: the end of the vigilance warning, whatever else the drive holds. -/
theorem State.endVigilanceWarning_withDrc (same : d.warnVigilance = s.drc.warnVigilance) :
    (s.withDrc d).endVigilanceWarning = s.endVigilanceWarning.withDrc { d with warnVigilance := false } := by
  cases held : s.drc.warnVigilance with
  | true =>
    rw [State.endVigilanceWarning_held (s := s.withDrc d) (same.trans held), State.endVigilanceWarning_held held,
      State.endSound_withDrc]
    rfl
  | false =>
    have off := same.trans held
    rw [State.endVigilanceWarning_none (s := s.withDrc d) off, State.endVigilanceWarning_none held, ← off]

theorem State.endDriveWarning_withDrc (same : d.warnDrive = s.drc.warnDrive) :
    (s.withDrc d).endDriveWarning = s.endDriveWarning.withDrc { d with warnDrive := false } := by
  cases held : s.drc.warnDrive with
  | true =>
    rw [State.endDriveWarning_held (s := s.withDrc d) (same.trans held), State.endDriveWarning_held held,
      State.endSound_withDrc]
    rfl
  | false =>
    have off := same.trans held
    rw [State.endDriveWarning_none (s := s.withDrc d) off, State.endDriveWarning_none held, ← off]

end sounds

/-! ## What a trip hands on (R38) -/

section trips
variable {s : State} {d : Drc}

/-- R38: the warnings that the drive holds end, VIGILANCE first, and the alarm is requested. -/
def State.toned (s : State) : State := (s.endVigilanceWarning.endDriveWarning).requestAlarm

theorem State.toned_withDrc (vigilance : d.warnVigilance = s.drc.warnVigilance) (drive : d.warnDrive = s.drc.warnDrive) :
    (s.withDrc d).toned = s.toned.withDrc { d with warnVigilance := false, warnDrive := false } := by
  have kept : s.endVigilanceWarning.drc.warnDrive = s.drc.warnDrive := by rw [s.endVigilanceWarning_spec.1]
  unfold State.toned State.requestAlarm
  rw [State.endVigilanceWarning_withDrc vigilance,
    State.endDriveWarning_withDrc (d := { d with warnVigilance := false }) (drive.trans kept.symm),
    State.sound_withDrc]

theorem State.handOnTrip_eq (before : DriveState) (cause : TripReason) (s : State) : s.handOnTrip before cause =
    match tripFault cause with
    | some code => (s.toned.reportEmergency before).latch code 0
    | none => s.toned.reportEmergency before := rfl

/-- R38: the drive as a trip finds its place, before what it hands on. -/
def Drc.enteredTrip (cause : TripReason) (d : Drc) : Drc :=
  match d.driveState with
  | .ready => d.enterTripped cause
  | _ => { d with tripReason := some cause, resetCount := 0 }

theorem Drc.enteredTrip_kept (cause : TripReason) (d : Drc) :
    (d.enteredTrip cause).warnVigilance = d.warnVigilance ∧ (d.enteredTrip cause).warnDrive = d.warnDrive ∧
    (d.enteredTrip cause).tripReason = some cause ∧ (d.enteredTrip cause).refClass = d.refClass ∧
    (d.enteredTrip cause).ref = d.ref := by
  unfold Drc.enteredTrip
  split <;> exact ⟨rfl, rfl, rfl, rfl, rfl⟩

theorem Drc.enteredTrip_tripped (configured : d.driveState ≠ .unconfigured) (cause : TripReason) :
    (d.enteredTrip cause).driveState = .tripped := by
  unfold Drc.enteredTrip
  cases state : d.driveState with
  | unconfigured => exact absurd state configured
  | tripped => rfl
  | ready => rfl

theorem State.trip_eq (configured : s.drc.driveState ≠ .unconfigured) (cause : TripReason) :
    s.trip cause = State.handOnTrip s.drc.driveState cause (s.withDrc (s.drc.enteredTrip cause)) := by
  cases state : s.drc.driveState with
  | unconfigured => exact absurd state configured
  | tripped =>
    have entered : s.drc.enteredTrip cause = { s.drc with tripReason := some cause, resetCount := 0 } := by
      simp only [Drc.enteredTrip, state]
    rw [State.trip_tripped state, entered]
    rfl
  | ready =>
    have entered : s.drc.enteredTrip cause = s.drc.enterTripped cause := by simp only [Drc.enteredTrip, state]
    rw [State.trip_ready state, entered]
    rfl

theorem State.trip_driveState (configured : s.drc.driveState ≠ .unconfigured) (cause : TripReason) :
    (s.trip cause).drc.driveState = .tripped ∧ (s.trip cause).drc.warnVigilance = false := by
  rw [State.trip_eq configured, State.handOnTrip_drc]
  exact ⟨Drc.enteredTrip_tripped configured cause, rfl⟩

/-- R38: the Tone Unit after a trip does not depend on what else the drive holds. -/
theorem State.trip_tnu (vigilance : d.warnVigilance = s.drc.warnVigilance) (drive : d.warnDrive = s.drc.warnDrive)
    (configured : d.driveState ≠ .unconfigured) (cause : TripReason) :
    ((s.withDrc d).trip cause).tnu = s.toned.tnu := by
  obtain ⟨warn, warnDrive, -⟩ := d.enteredTrip_kept cause
  have eq : (s.withDrc d).trip cause =
      State.handOnTrip d.driveState cause (s.withDrc (d.enteredTrip cause)) :=
    State.trip_eq (s := s.withDrc d) configured cause
  rw [eq, State.handOnTrip_eq, State.toned_withDrc (warn.trans vigilance) (warnDrive.trans drive)]
  cases tripFault cause <;> rfl

/-- R38, R64: the EMERGENCY report of a trip that latches nothing. -/
theorem State.trip_clp (vigilance : d.warnVigilance = s.drc.warnVigilance) (drive : d.warnDrive = s.drc.warnDrive)
    (configured : d.driveState ≠ .unconfigured) {cause : TripReason} (fault : tripFault cause = none) :
    ((s.withDrc d).trip cause).clp =
      s.toned.clp.raise (.emergency d.driveState .tripped (some cause) d.refClass d.ref s.amu.odometerMm) := by
  obtain ⟨warn, warnDrive, reason, refClass, ref⟩ := d.enteredTrip_kept cause
  have eq : (s.withDrc d).trip cause =
      State.handOnTrip d.driveState cause (s.withDrc (d.enteredTrip cause)) :=
    State.trip_eq (s := s.withDrc d) configured cause
  have amu : s.toned.amu = s.amu := by simp [State.toned, State.requestAlarm]
  rw [eq, State.handOnTrip_eq, fault, State.toned_withDrc (warn.trans vigilance) (warnDrive.trans drive), ← amu,
    ← Drc.enteredTrip_tripped configured cause, ← reason, ← refClass, ← ref]
  rfl

/-! ## The settling after an event (R8, R50) -/

/-- Of the axles, the settling moves the plausibility timers alone. -/
theorem State.settle_axles (m : State) : m.settle.amu =
    { m.amu with a := { m.amu.a with plausTimer := m.settle.amu.a.plausTimer }
                 b := { m.amu.b with plausTimer := m.settle.amu.b.plausTimer } } := by
  obtain ⟨channel, beside, -⟩ := m.settle_spec
  have a := channel .A
  have b := channel .B
  simp only [Amu.channel] at a b
  rw [beside, a, b]

theorem not_vigilanceRuns_of_tripped {m : State} (h : m.drc.driveState = .tripped) : vigilanceRuns m = false := by
  simp [vigilanceRuns, h]

/-- R50: out of READY the vigilance timer stops. -/
theorem State.settle_tripped_drc {m : State} (h : m.drc.driveState = .tripped) : m.settle.drc =
    { m.drc with vigilance := none, warnVigilance := false } := by
  obtain ⟨-, -, drive, -⟩ := m.settle_spec
  rw [drive, not_vigilanceRuns_of_tripped h, Bool.and_false]
  rfl

/-- With no vigilance warning to end, the settling tells the Tone Unit and the cab link nothing. -/
theorem State.settle_silent {m : State} (h : m.drc.warnVigilance = false) :
    m.settle.tnu = m.tnu ∧ m.settle.clp = m.clp := by
  obtain ⟨-, -, -, -, -, silent⟩ := m.settle_spec
  exact silent (by rw [h, Bool.false_and])

/-- What a trip leaves alone, the settling after it included. -/
theorem State.trip_tripFrame {t : Nat} (vigilance : d.warnVigilance = s.drc.warnVigilance)
    (drive : d.warnDrive = s.drc.warnDrive) (configured : d.driveState ≠ .unconfigured) (cause : TripReason) :
    TripFrame t s (((s.atTime t).withDrc d).trip cause).settle := by
  obtain ⟨tripped, warned⟩ := State.trip_driveState (s := (s.atTime t).withDrc d) configured cause
  have amu : (((s.atTime t).withDrc d).trip cause).amu = s.amu := by simp [State.withDrc, State.atTime]
  have still := not_vigilanceRuns_of_tripped tripped
  constructor
  · apply State.eq_of_frame <;> simp [State.withDrc, State.atTime]
  · rw [State.settle_axles, amu]
  · exact State.settle_timers (fun ax _ => by rw [amu]) (fun runs => by simp [still] at runs)
      fun runs => by simp [still] at runs
  · rw [(State.settle_silent warned).1]
    exact State.trip_tnu (s := s.atTime t) vigilance drive configured cause

/-- A reply behind a trip changes the cab link alone. -/
theorem TripFrame.pushReply {t : Nat} {s' : State} (h : TripFrame t s s') (f : OutFrame) :
    TripFrame t s (s'.pushReply f) :=
  ⟨congrArg (State.pushReply f) h.blocks, h.axles, h.timers, h.tones⟩

theorem State.emergencyStop_configured (configured : s.drc.driveState ≠ .unconfigured) (tag : Byte) :
    s.emergencyStop tag =
      (s.trip .linkStop).settle.pushReply (replyFrame 0x17 tag (.ok (.driveState .tripped))) := by
  have tripped : (s.trip .linkStop).settle.drc.driveState = .tripped := by
    rw [State.settle_tripped_drc (State.trip_driveState configured _).1]
    exact (State.trip_driveState configured _).1
  unfold State.emergencyStop
  rw [if_neg configured]
  dsimp only
  rw [tripped]

/-- R48: the closing of an open detent. -/
theorem State.closeDetent_open (isOpen : s.drc.detent = false) :
    s.closeDetent = (s.withDrc { s.drc with detent := true }).trip .emergencyDetent :=
  if_neg (by simp [isOpen])

theorem State.closeDetent_closed (closed : s.drc.detent = true) : s.closeDetent = s := if_pos closed

/-- R8, R50: in UNCONFIGURED, with timers that follow their conditions, nothing settles. -/
theorem State.settle_unconfigured {m : State} (sound : TimersSound m) (state : m.drc.driveState = .unconfigured) :
    m.settle = m := by
  have still := vigilanceRuns_unconfigured state
  have timer : m.drc.vigilance = none := by simpa [still] using sound.vigilance
  have warning : m.drc.warnVigilance = false := by
    by_contra held
    simpa [timer] using sound.warning (by simpa using held)
  have noTimer : ({ m with drc := { m.drc with vigilance := none } } : State) = m := by rw [← timer]
  unfold State.settle
  rw [State.settlePlausibility_of_sound (sound.plausibility .A), State.settlePlausibility_of_sound (sound.plausibility .B),
    State.settleVigilance, still]
  simp only [Bool.false_eq_true, if_false]
  rw [noTimer]
  exact State.endVigilanceWarning_none warning

/-- R48: in UNCONFIGURED the closing of the detent changes the detent alone. -/
theorem State.closeDetent_unconfigured (sound : TimersSound s) (state : s.drc.driveState = .unconfigured) :
    s.closeDetent.settle = s.withDrc { s.drc with detent := true } := by
  cases closed : s.drc.detent with
  | true =>
    rw [State.closeDetent_closed closed, State.settle_unconfigured sound state, ← closed]
    rfl
  | false =>
    have same : TimersSound (s.withDrc { s.drc with detent := true }) := TimersSound.of_view (s := s) rfl sound
    rw [State.closeDetent_open closed, State.trip_unconfigured (s := s.withDrc { s.drc with detent := true }) state]
    exact State.settle_unconfigured same state

/-- The drive after a trip does not depend on the time. -/
theorem State.trip_drc_atTime (t : Nat) (s : State) (cause : TripReason) :
    ((s.atTime t).trip cause).drc = (s.trip cause).drc := by
  cases state : s.drc.driveState with
  | unconfigured => rw [State.trip_unconfigured state, State.trip_unconfigured (s := s.atTime t) state]; rfl
  | tripped => rw [State.trip_tripped_drc state, State.trip_tripped_drc (s := s.atTime t) state]; rfl
  | ready => rw [State.trip_ready_drc state, State.trip_ready_drc (s := s.atTime t) state]; rfl

/-- R41: EMERGENCY_STOP in READY or TRIPPED. -/
theorem exec_emergencyStop_trips (configured : s.drc.driveState ≠ .unconfigured) (t : Nat) (tag : Byte) :
    ∃ s', exec (.emergencyStop t tag) s = .next s' ∧ TripFrame t s s' ∧
      s'.drc = { (s.trip .linkStop).drc with vigilance := none, warnVigilance := false } ∧
      s'.clp = ((s.alarmed t).clp.raise (.emergency s.drc.driveState .tripped (some .linkStop) s.drc.refClass s.drc.ref
        s.amu.odometerMm)).pushReply (replyFrame 0x17 tag (.ok (.driveState .tripped))) := by
  obtain ⟨tripped, warned⟩ := State.trip_driveState (s := s.atTime t) configured .linkStop
  refine ⟨_, congrArg Host.Outcome.next (State.emergencyStop_configured (s := s.atTime t) configured tag),
    (State.trip_tripFrame (d := s.drc) rfl rfl configured .linkStop).pushReply _, ?_, ?_⟩
  · exact (State.settle_tripped_drc tripped).trans (by rw [State.trip_drc_atTime])
  · refine congrArg (Clp.pushReply _) ((State.settle_silent warned).2.trans ?_)
    exact State.trip_clp (s := s.atTime t) (d := s.drc) rfl rfl configured rfl

/-- R48: the closing of the emergency detent in READY or TRIPPED. -/
theorem exec_emergencyDetentClose_trips (configured : s.drc.driveState ≠ .unconfigured) (isOpen : s.drc.detent = false)
    (t : Nat) : ∃ s', exec (.emergencyDetentClose t) s = .next s' ∧ TripFrame t s s' ∧
      s'.drc = { ((s.withDrc { s.drc with detent := true }).trip .emergencyDetent).drc with
        vigilance := none, warnVigilance := false } ∧
      s'.clp = (s.alarmed t).clp.raise (.emergency s.drc.driveState .tripped (some .emergencyDetent) s.drc.refClass
        s.drc.ref s.amu.odometerMm) := by
  have closed : ({ s.drc with detent := true } : Drc).driveState ≠ .unconfigured := configured
  obtain ⟨tripped, warned⟩ := State.trip_driveState (s := (s.atTime t).withDrc { s.drc with detent := true }) closed
    .emergencyDetent
  refine ⟨_, congrArg (fun m => Host.Outcome.next (State.settle m)) (State.closeDetent_open (s := s.atTime t) isOpen),
    State.trip_tripFrame (d := { s.drc with detent := true }) rfl rfl closed .emergencyDetent, ?_, ?_⟩
  · exact (State.settle_tripped_drc tripped).trans
      (by rw [← State.trip_drc_atTime t (s.withDrc { s.drc with detent := true })]; rfl)
  · exact (State.settle_silent warned).2.trans
      (State.trip_clp (s := s.atTime t) (d := { s.drc with detent := true }) rfl rfl closed rfl)

end trips

/-- Settles O28: with the detent taken as closed or not, the trip is the same. -/
theorem tripTaken : Obligations.TripTaken := by
  intro t stood tag s
  refine ⟨fun ready => ?_, fun ready isOpen => ?_, fun tripped => ?_, fun tripped isOpen => ?_, fun state => ?_,
    fun state sound => ?_, ?_⟩
  · obtain ⟨s', step, frame, drc, clp⟩ := exec_emergencyStop_trips (s := s) (by simp [ready]) t tag
    refine ⟨s', step, frame, drc.trans ?_, ready ▸ clp⟩
    rw [State.trip_ready_drc ready]
    rfl
  · obtain ⟨s', step, frame, drc, clp⟩ := exec_emergencyDetentClose_trips (by simp [ready]) isOpen t
    refine ⟨s', step, frame, drc.trans ?_, ready ▸ clp⟩
    rw [State.trip_ready_drc (s := s.withDrc { s.drc with detent := true }) ready]
    rfl
  · obtain ⟨s', step, frame, drc, clp⟩ := exec_emergencyStop_trips (s := s) (by simp [tripped]) t tag
    refine ⟨s', step, frame, drc.trans ?_, tripped ▸ clp⟩
    rw [State.trip_tripped_drc tripped]
  · obtain ⟨s', step, frame, drc, clp⟩ := exec_emergencyDetentClose_trips (by simp [tripped]) isOpen t
    refine ⟨s', step, frame, drc.trans ?_, tripped ▸ clp⟩
    rw [State.trip_tripped_drc (s := s.withDrc { s.drc with detent := true }) tripped]
    rfl
  · exact congrArg Host.Outcome.next (if_pos state)
  · exact congrArg Host.Outcome.next (State.closeDetent_unconfigured (s := s.atTime t)
      (TimersSound.of_view (s := s) rfl sound) state)
  · change Host.Outcome.next (if 10 ≤ stood then _ else _) = _
    split <;> rfl

end Sys2Proof.Machine
end

section
/-! O30: the deadman and the vigilance timer. -/

namespace Sys2Proof.Machine

variable {s : State} {t : Nat}

/-- R50: when the vigilance timer runs. -/
theorem vigilanceRuns_iff (s : State) : vigilanceRuns s = true ↔
    s.drc.driveState = .ready ∧ s.amu.standstill ≠ .standstill ∧ s.drc.deadman = false := by
  simp [vigilanceRuns, Amu.atStandstill, and_assoc]

/-- The conditions of the timer are not the settling's. -/
theorem State.settleVigilance_runs (m : State) : vigilanceRuns m.settleVigilance = vigilanceRuns m := by
  obtain ⟨drive, -⟩ := m.settleVigilance_spec
  have amu : m.settleVigilance.amu = m.amu := by simp
  unfold vigilanceRuns
  rw [drive, amu]

/-- R50: a deadman change that is taken. -/
theorem exec_deadmanChange_taken {stood : Nat} (long : 10 ≤ stood) (pressed : Bool) :
    exec (.deadmanChange t stood pressed) s =
      .next ((s.atTime t).withDrc { s.drc with deadman := pressed }).settleVigilance :=
  congrArg Host.Outcome.next (if_pos long)

theorem exec_deadmanChange_short {stood : Nat} (short : stood < 10) (pressed : Bool) :
    exec (.deadmanChange t stood pressed) s = .next (s.atTime t) :=
  congrArg Host.Outcome.next (if_neg (Nat.not_le.mpr short))

/-- R50: the warning at 1500 ms. -/
theorem exec_vigilanceWarning_due {st : Nat} (timer : s.drc.vigilance = some st) (due : st + 1500000 ≤ max s.now t)
    (calm : s.drc.warnVigilance = false) : exec (.vigilanceWarning t) s =
      .next (State.requestVigilanceWarning ((s.atTime t).withDrc { s.drc with warnVigilance := true })) :=
  congrArg Host.Outcome.next (if_pos ⟨expired_iff.mpr ⟨st, timer, due⟩, by simp [State.atTime, calm]⟩)

theorem exec_vigilanceWarning_idle
    (h : (∀ st, s.drc.vigilance = some st → max s.now t < st + 1500000) ∨ s.drc.warnVigilance = true) :
    exec (.vigilanceWarning t) s = .next (s.atTime t) := by
  refine congrArg Host.Outcome.next (if_neg ?_)
  rintro ⟨expires, calm⟩
  obtain ⟨st, timer, due⟩ := expired_iff.mp expires
  rcases h with early | held
  · exact absurd (early st timer) (Nat.not_lt.mpr due)
  · simp [State.atTime, held] at calm

/-- R50: the trip at 2500 ms. -/
theorem exec_vigilanceTrip_due {st : Nat} (timer : s.drc.vigilance = some st) (due : st + 2500000 ≤ max s.now t) :
    exec (.vigilanceTrip t) s = .next ((s.atTime t).trip .vigilance).settle :=
  congrArg Host.Outcome.next (if_pos (expired_iff.mpr ⟨st, timer, due⟩))

theorem exec_vigilanceTrip_idle (early : ∀ st, s.drc.vigilance = some st → max s.now t < st + 2500000) :
    exec (.vigilanceTrip t) s = .next (s.atTime t) := by
  refine congrArg Host.Outcome.next (if_neg fun expires => ?_)
  obtain ⟨st, timer, due⟩ := expired_iff.mp expires
  exact absurd (early st timer) (Nat.not_lt.mpr due)

/-- R38: with room a trip latches the fault of its cause, the settling after it included. -/
theorem State.trip_settle_latched {cause : TripReason} {code : FaultCode} (fault : tripFault cause = some code)
    (configured : s.drc.driveState ≠ .unconfigured) (room : s.clp.faults.length < 31) :
    Latched code 0 (s.trip cause).settle := by
  unfold Latched
  rw [(State.settle_spec _).2.2.2.1, State.trip_eq configured]
  exact State.handOnTrip_latched (s.withDrc _) fault room

/-- R50: the drive after the vigilance timer has settled, with the conditions as that leaves them. -/
theorem State.settleVigilance_drc (m : State) : m.settleVigilance.drc = { m.drc with
    warnVigilance := m.drc.warnVigilance && vigilanceRuns m.settleVigilance
    vigilance := if m.drc.driveState = .ready ∧ m.amu.standstill ≠ .standstill ∧ m.drc.deadman = false then
      some (m.drc.vigilance.getD m.now) else none } := by
  rw [State.settleVigilance_runs, m.settleVigilance_spec.1]
  simp only [vigilanceRuns_iff]

/-- R50: what the settling of the vigilance timer leaves alone. -/
theorem State.settleVigilance_blocks (m : State) : m.settleVigilance =
    { m with drc := m.settleVigilance.drc, tnu := m.settleVigilance.tnu, clp := m.settleVigilance.clp } := by
  obtain ⟨now, poweredAt, pending, amu, rtm, lpt, sdu, params, configured⟩ := m.settleVigilance_frame
  rw [← now, ← poweredAt, ← pending, ← amu, ← rtm, ← lpt, ← sdu, ← params, ← configured]

/-- R50: with its warning kept, the Tone Unit and the cab link are told nothing. -/
theorem State.settleVigilance_silent {m : State} (kept : m.settleVigilance.drc.warnVigilance = m.drc.warnVigilance) :
    m.settleVigilance.tnu = m.tnu ∧ m.settleVigilance.clp = m.clp := by
  obtain ⟨drive, -, -, silent⟩ := m.settleVigilance_spec
  refine silent (kept.symm.trans ?_)
  rw [drive]

/-- Settles O30. -/
theorem vigilance : Obligations.Vigilance := by
  intro t stood pressed s
  refine ⟨fun short => exec_deadmanChange_short short pressed,
    fun long => ⟨_, exec_deadmanChange_taken long pressed, ?_, ?_, ?_⟩,
    fun st timer due calm => exec_vigilanceWarning_due timer due calm, exec_vigilanceWarning_idle,
    fun st timer due ready => ⟨_, exec_vigilanceTrip_due timer due, ?_, ?_, ?_⟩, exec_vigilanceTrip_idle⟩
  · exact State.settleVigilance_blocks _
  · exact State.settleVigilance_drc _
  · exact State.settleVigilance_silent
  · exact State.trip_tripFrame (d := s.drc) rfl rfl (by simp [ready]) .vigilance
  · rw [State.settle_tripped_drc (State.trip_driveState (s := s.atTime t) (ready ▸ nofun) _).1, State.trip_drc_atTime,
      State.trip_ready_drc ready]
    rfl
  · exact State.trip_settle_latched (s := s.atTime t) rfl (ready ▸ nofun)

end Sys2Proof.Machine
end

section
/-! O29: a reverser change. -/

namespace Sys2Proof.Machine

/-! ## Posts and lifts by the internal owners (R21, R22) -/

section posts
variable (slot : Slot) (kind : Kind) (ceiling : Nat) (reason : Byte) (s : State)

theorem Drc.rewritten_besidePosts (v : Nat) (x : Option Entry) (d : Drc) :
    (d.rewritten v slot x).besidePosts = d.besidePosts := rfl

theorem State.post_besidePosts : (s.post slot kind ceiling reason).drc.besidePosts = s.drc.besidePosts := by
  rcases s.post_drc slot kind ceiling reason with e | e <;> rw [e]
  rw [Drc.clipped_besidePosts, Drc.rewritten_besidePosts]

theorem State.lift_besidePosts : (s.lift slot).drc.besidePosts = s.drc.besidePosts := by
  rcases s.lift_drc slot with e | e <;> rw [e]
  rw [Drc.rewritten_besidePosts]

theorem State.post_faults : (s.post slot kind ceiling reason).clp.faults = s.clp.faults := by
  unfold State.post
  simp only [State.writeSlot_eq, State.clip_eq]
  split
  · exact (Clp.raise_frame _ _).2.2.1
  · split
    · rfl
    · split
      · rfl
      · exact (Clp.raise_frame _ _).2.2.1

theorem State.lift_faults : (s.lift slot).clp.faults = s.clp.faults := by
  unfold State.lift
  split
  · rfl
  · exact (Clp.raise_frame _ _).2.2.1

theorem State.lift_table : (s.lift slot).drc.table = s.drc.table.set slot none := by
  cases held : s.drc.table.get slot with
  | none => rw [State.lift_empty held, ← held, Table.set_get]
  | some e => rw [State.lift_held held]; rfl

/-- R29: an entry of kind CEILING leaves u alone. -/
theorem State.post_ceiling_u : (s.post slot .ceiling ceiling reason).drc.u = s.drc.u := by
  rcases s.post_drc slot .ceiling ceiling reason with e | e <;> rw [e]
  have traction : ¬ (internalEntry .ceiling ceiling reason).inhibits = true := by simp [internalEntry_inhibits]
  simp only [Drc.clipped, Drc.rewritten]
  exact if_neg fun clips => traction clips.1

theorem State.lift_u : (s.lift slot).drc.u = s.drc.u := by
  rcases s.lift_drc slot with e | e <;> rw [e]
  rfl

variable {slot kind ceiling reason s}

/-- R21: after a post the slot holds the internal entry, whatever entry of an internal owner stood there. -/
theorem State.post_table (standing : ∀ e, s.drc.table.get slot = some e →
      e.phase = .active ∧ e.start = none ∧ e.stop = none) :
    (s.post slot kind ceiling reason).drc.table = s.drc.table.set slot (some (internalEntry kind ceiling reason)) := by
  by_cases stands : ∃ old, s.drc.table.get slot = some old ∧ old.kind = kind ∧ old.reason = reason
  · obtain ⟨old, held, sameKind, sameReason⟩ := stands
    by_cases sameCeiling : old.ceiling = storedCeiling kind ceiling
    · obtain ⟨phase, start, stop⟩ := standing old held
      have entry : internalEntry kind ceiling reason = old := by
        obtain ⟨_, _, _, _, _, _⟩ := old
        dsimp only at *
        subst sameKind sameCeiling sameReason phase start stop
        rfl
      rw [State.post_standing held ⟨sameKind, sameCeiling, sameReason⟩, entry, ← held, Table.set_get]
    · rw [State.post_recast held sameCeiling ⟨sameKind, sameReason⟩]
      rfl
  · rw [State.post_posted fun old held same => stands ⟨old, held, same⟩]
    rfl

end posts

/-! ## The steps of a reverser change before its interlock (R49) -/

section reverser
variable {s : State} {r : Reverser}

/-- R49: the position is taken, with the direction memory. -/
def State.turned (r : Reverser) (s : State) : State :=
  { s with drc := { s.drc with reverser := r }, amu := { s.amu with direction := directionAfter r s.amu.direction } }

/-- R49: the REVERSE entry has moved, and a u above 0 is 0 at NEUTRAL. -/
def State.reversed (r : Reverser) (s : State) : State :=
  let m := (s.turned r).reverseEntry r
  if r = .neutral ∧ 0 < m.drc.u then m.setU 0 else m

theorem State.takeReverser_eq (moves : s.drc.reverser ≠ r) : s.takeReverser r =
    if (s.reversed r).amu.atStandstill then s.reversed r else (s.reversed r).trip .reverser := if_neg moves

theorem State.reverseEntry_kept (m : State) : (m.reverseEntry r).drc.besidePosts = m.drc.besidePosts ∧
    (m.reverseEntry r).drc.u = m.drc.u ∧ (m.reverseEntry r).clp.faults = m.clp.faults ∧
    (m.reverseEntry r).amu = m.amu := by
  unfold State.reverseEntry
  cases r with
  | reverse => exact ⟨m.post_besidePosts .., m.post_ceiling_u .., m.post_faults .., by simp⟩
  | forward => exact ⟨m.lift_besidePosts _, m.lift_u _, m.lift_faults _, by simp⟩
  | neutral => exact ⟨rfl, rfl, rfl, rfl⟩

theorem Drc.setU_besidePosts (u : Int) (m : State) : (m.setU u).drc.besidePosts = m.drc.besidePosts := rfl

/-- What stands beside the table and u before the interlock. -/
theorem State.reversed_kept (s : State) (r : Reverser) :
    (s.reversed r).drc.besidePosts = (s.turned r).drc.besidePosts ∧
    (s.reversed r).drc.u = (if r = .neutral ∧ 0 < s.drc.u then 0 else s.drc.u) ∧
    (s.reversed r).clp.faults = s.clp.faults ∧ (s.reversed r).amu = (s.turned r).amu ∧
    (s.reversed r).drc.table = ((s.turned r).reverseEntry r).drc.table := by
  obtain ⟨beside, u, faults, amu⟩ := State.reverseEntry_kept (r := r) (s.turned r)
  have u : ((s.turned r).reverseEntry r).drc.u = s.drc.u := u
  unfold State.reversed
  dsimp only
  rw [u]
  split
  · exact ⟨(Drc.setU_besidePosts ..).trans beside, rfl, faults, amu, rfl⟩
  · exact ⟨beside, u, faults, amu, rfl⟩

theorem directionAfter_eq (r : Reverser) (d : Direction) :
    directionAfter r d = if r = .forward then .forward else if r = .reverse then .reverse else d := by
  cases r <;> rfl

theorem reverserOf_position (forward reverse : Bool) : reverserOf forward reverse =
    if forward ∧ ¬ reverse then .forward else if reverse ∧ ¬ forward then .reverse else .neutral := by
  cases forward <;> cases reverse <;> rfl

/-- R21, R22, R49: the table before the interlock. -/
theorem State.reversed_table (s : State) (r : Reverser) :
    (r = .reverse → (∀ e, s.drc.table.reverse = some e → e.phase = .active ∧ e.start = none ∧ e.stop = none) →
      (s.reversed r).drc.table = s.drc.table.set .reverse (some
        { kind := .ceiling, ceiling := s.params.reverseCeil.toNat, reason := 0xE6, start := none, stop := none
          phase := .active })) ∧
    (r = .forward → (s.reversed r).drc.table = s.drc.table.set .reverse none) ∧
    (r = .neutral → (s.reversed r).drc.table = s.drc.table) := by
  obtain ⟨-, -, -, -, table⟩ := s.reversed_kept r
  rw [table]
  refine ⟨?_, ?_, ?_⟩ <;> rintro rfl
  · exact fun standing => State.post_table (s := s.turned .reverse) standing
  · exact State.lift_table _ _
  · rfl

/-! ## The trip away from standstill -/

/-- A trip leaves the reverser and the table. -/
theorem State.trip_kept (cause : TripReason) (m : State) :
    (m.trip cause).drc.reverser = m.drc.reverser ∧ (m.trip cause).drc.table = m.drc.table := by
  cases state : m.drc.driveState with
  | unconfigured => rw [State.trip_unconfigured state]; exact ⟨rfl, rfl⟩
  | tripped => rw [State.trip_tripped_drc state]; exact ⟨rfl, rfl⟩
  | ready => rw [State.trip_ready_drc state]; exact ⟨rfl, rfl⟩

/-- R38: what a trip leaves of the drive state, from READY or TRIPPED. -/
theorem State.trip_outcome {m : State} (configured : m.drc.driveState ≠ .unconfigured) (cause : TripReason) :
    (m.trip cause).drc.driveState = .tripped ∧ (m.trip cause).drc.tripReason = some cause ∧
    (m.trip cause).drc.resetCount = 0 ∧ (m.drc.driveState = .ready → (m.trip cause).drc.u = -100 ∧
      (m.trip cause).drc.loop = false ∧ (m.trip cause).drc.band = .normal) := by
  cases state : m.drc.driveState with
  | unconfigured => exact absurd state configured
  | tripped => rw [State.trip_tripped_drc state]; exact ⟨state, rfl, rfl, nofun⟩
  | ready => rw [State.trip_ready_drc state]; exact ⟨rfl, rfl, rfl, fun _ => ⟨rfl, rfl, rfl⟩⟩

/-- Before the interlock the drive state with what goes with it, the vigilance timer and its warning stand as they
were. -/
theorem State.reversed_standing (s : State) (r : Reverser) :
    (s.reversed r).drc.reverser = r ∧ (s.reversed r).drc.driveState = s.drc.driveState ∧
    (s.reversed r).drc.loop = s.drc.loop ∧ (s.reversed r).drc.tripReason = s.drc.tripReason ∧
    (s.reversed r).drc.vigilance = s.drc.vigilance ∧ (s.reversed r).drc.warnVigilance = s.drc.warnVigilance := by
  obtain ⟨beside, -⟩ := s.reversed_kept r
  generalize (s.reversed r).drc = d at beside
  exact ⟨(congrArg Drc.reverser beside :), (congrArg Drc.driveState beside :), (congrArg Drc.loop beside :),
    (congrArg Drc.tripReason beside :), (congrArg Drc.vigilance beside :), (congrArg Drc.warnVigilance beside :)⟩

end reverser

section settled
variable {s : State} {r : Reverser}

/-- R49: a change that trips nothing. -/
theorem State.takeReverser_still (moves : s.drc.reverser ≠ r)
    (still : s.amu.standstill = .standstill ∨ s.drc.driveState = .unconfigured) :
    s.takeReverser r = s.reversed r := by
  obtain ⟨-, -, -, amu, -⟩ := s.reversed_kept r
  obtain ⟨-, state, -⟩ := s.reversed_standing r
  have same : (s.reversed r).amu.atStandstill = s.amu.atStandstill := by rw [amu]; rfl
  rw [State.takeReverser_eq moves, same]
  split
  · rfl
  · next moving =>
    rcases still with h | unconfigured
    · exact absurd (by simp [Amu.atStandstill, h]) moving
    · exact State.trip_unconfigured (state.trans unconfigured) _

/-- R49: a change away from standstill, in READY or TRIPPED. -/
theorem State.takeReverser_trips (moves : s.drc.reverser ≠ r) (moving : s.amu.standstill ≠ .standstill) :
    s.takeReverser r = (s.reversed r).trip .reverser := by
  obtain ⟨-, -, -, amu, -⟩ := s.reversed_kept r
  have same : (s.reversed r).amu.atStandstill = s.amu.atStandstill := by rw [amu]; rfl
  rw [State.takeReverser_eq moves, same, if_neg (by simp [Amu.atStandstill, moving])]

/-- A change that is taken trips or does not. -/
theorem State.takeReverser_taken (moves : s.drc.reverser ≠ r) : s.takeReverser r = s.reversed r ∨
    s.drc.driveState ≠ .unconfigured ∧ s.takeReverser r = (s.reversed r).trip .reverser := by
  by_cases still : s.amu.standstill = .standstill ∨ s.drc.driveState = .unconfigured
  · exact .inl (State.takeReverser_still moves still)
  · obtain ⟨moving, configured⟩ := not_or.mp still
    exact .inr ⟨configured, State.takeReverser_trips moves moving⟩

theorem State.takeReverser_amu (moves : s.drc.reverser ≠ r) :
    (s.takeReverser r).amu = { s.amu with direction := directionAfter r s.amu.direction } := by
  obtain ⟨-, -, -, amu, -⟩ := s.reversed_kept r
  rcases State.takeReverser_taken moves with e | ⟨-, e⟩ <;> rw [e]
  · exact amu
  · rw [(State.trip_frame (s.reversed r) .reverser).2.2.2.1]
    exact amu

/-- R49: the position and the table, tripped or not. -/
theorem State.takeReverser_kept (moves : s.drc.reverser ≠ r) : (s.takeReverser r).drc.reverser = r ∧
    (s.takeReverser r).drc.table = (s.reversed r).drc.table := by
  obtain ⟨position, -⟩ := s.reversed_standing r
  rcases State.takeReverser_taken moves with e | ⟨-, e⟩ <;> rw [e]
  · exact ⟨position, rfl⟩
  · obtain ⟨reverser, table⟩ := State.trip_kept .reverser (s.reversed r)
    exact ⟨reverser.trans position, table⟩

/-- R8, R50: the timers after the change. -/
theorem State.takeReverser_timers (moves : s.drc.reverser ≠ r) : TimersFollow s (s.takeReverser r).settle := by
  obtain ⟨-, state, -, -, timer, warning⟩ := s.reversed_standing r
  have amu := State.takeReverser_amu moves
  have vigilance : vigilanceRuns (s.takeReverser r) = true →
      (s.takeReverser r).drc.vigilance = s.drc.vigilance ∧
      (s.takeReverser r).drc.warnVigilance = s.drc.warnVigilance := by
    rcases State.takeReverser_taken moves with e | ⟨configured, e⟩ <;> rw [e]
    · exact fun _ => ⟨timer, warning⟩
    · intro runs
      have tripped := (State.trip_driveState (s := s.reversed r) (state ▸ configured) .reverser).1
      rw [not_vigilanceRuns_of_tripped tripped] at runs
      cases runs
  refine State.settle_timers (fun ax _ => ?_) (fun runs => (vigilance runs).1) fun runs => (vigilance runs).2
  rw [amu]
  cases ax <;> rfl

end settled

theorem exec_reverserChange_taken {t stood : Nat} (long : 10 ≤ stood) (forward reverse : Bool) (s : State) :
    exec (.reverserChange t stood forward reverse) s =
      .next ((s.atTime t).takeReverser (reverserOf forward reverse)).settle :=
  congrArg Host.Outcome.next (if_pos long)

/-- Settles O29. -/
theorem reverserChange : Obligations.ReverserChange := by
  intro t stood forward reverse r s hr
  rw [← reverserOf_position] at hr
  refine ⟨fun short => congrArg Host.Outcome.next (if_neg (Nat.not_le.mpr short)), fun long moves => ?_⟩
  refine ⟨_, exec_reverserChange_taken long forward reverse s, ?_⟩
  rw [← hr]
  have moves : (s.atTime t).drc.reverser ≠ r := moves
  have amu := State.takeReverser_amu moves
  obtain ⟨position, table⟩ := State.takeReverser_kept moves
  obtain ⟨toReverse, toForward, toNeutral⟩ := (s.atTime t).reversed_table r
  rw [← table] at toReverse toForward toNeutral
  have timers := State.takeReverser_timers moves
  have axles := ((s.atTime t).takeReverser r).settle_axles
  have drc := ((s.atTime t).takeReverser r).settle_drc
  rw [amu] at axles
  refine ⟨by rw [drc]; exact position, ?_, ?_, ?_, ?_, timers, ?_, ?_, ?_, fun still => ?_, fun moving configured => ?_⟩
  · apply State.eq_of_frame <;> simp [State.atTime]
  · rw [axles]
    exact directionAfter_eq r _
  · rw [axles]; rfl
  · rw [axles]; rfl
  · rw [drc]; exact toReverse
  · rw [drc]; exact toForward
  · rw [drc]; exact toNeutral
  · obtain ⟨-, state, loop, reason, -⟩ := (s.atTime t).reversed_standing r
    obtain ⟨-, u, -⟩ := (s.atTime t).reversed_kept r
    rw [drc, State.takeReverser_still moves still]
    exact ⟨state, loop, reason, u⟩
  · obtain ⟨-, state, -⟩ := (s.atTime t).reversed_standing r
    obtain ⟨-, -, held, -⟩ := (s.atTime t).reversed_kept r
    have configured : ((s.atTime t).reversed r).drc.driveState ≠ .unconfigured := state ▸ configured
    obtain ⟨tripped, reason, count, fromReady⟩ := State.trip_outcome configured .reverser
    have latched := State.trip_settle_latched (cause := .reverser) rfl configured
    rw [held] at latched
    rw [State.takeReverser_trips moves moving] at drc ⊢
    rw [drc]
    exact ⟨tripped, reason, count, fun ready => fromReady (state.trans ready), latched⟩

end Sys2Proof.Machine
end

section
/-! O32: the moves of the drive state. -/

namespace Sys2Proof.Machine

/-! ## The moves of everything but a control interval -/

/-- R37: from one state to another the drive state has moved, if at all, from UNCONFIGURED to TRIPPED with the first
accepted CONFIGURE, or from READY to TRIPPED. -/
structure DriveMoves (s s' : State) : Prop where
  unconfigured : s'.drc.driveState = .unconfigured → s.drc.driveState = .unconfigured
  leaves       : s.drc.driveState = .unconfigured → s'.drc.driveState ≠ .unconfigured →
    s'.drc.driveState = .tripped ∧ s.configured = false ∧ s'.configured = true
  ready        : s.drc.driveState ≠ .ready → s'.drc.driveState ≠ .ready
  configured   : s.configured = true → s'.configured = true

namespace DriveMoves

variable {s m s' : State}

theorem of_same (state : s'.drc.driveState = s.drc.driveState) (configured : s'.configured = s.configured) :
    DriveMoves s s' :=
  ⟨state.symm.trans, fun was left => absurd (state.trans was) left, fun h => state ▸ h, fun h => configured.trans h⟩

theorem refl : DriveMoves s s := of_same rfl rfl

theorem of_view (h : s'.timerView = s.timerView) : DriveMoves s s' :=
  of_same (congrArg TimerView.driveState h) (congrArg TimerView.configured h)

theorem of_demands (h : s'.drc.demands = s.drc.demands) (configured : s'.configured = s.configured) :
    DriveMoves s s' := of_same (congrArg DemandView.driveState h) configured

theorem trans (a : DriveMoves s m) (b : DriveMoves m s') : DriveMoves s s' where
  unconfigured h := a.unconfigured (b.unconfigured h)
  leaves was left := by
    by_cases still : m.drc.driveState = .unconfigured
    · obtain ⟨state, before, after⟩ := b.leaves still left
      refine ⟨state, ?_, after⟩
      by_contra configured
      simp [a.configured (by simpa using configured)] at before
    · obtain ⟨state, before, after⟩ := a.leaves was still
      have notReady := b.ready (by simp [state])
      refine ⟨?_, before, b.configured after⟩
      cases final : s'.drc.driveState with
      | unconfigured => exact absurd final left
      | tripped => rfl
      | ready => exact absurd final notReady
  ready h := b.ready (a.ready h)
  configured h := b.configured (a.configured h)

theorem ite {p : Prop} [Decidable p] (h : DriveMoves s s') : DriveMoves s (if p then s' else s) := by
  split
  · exact h
  · exact .refl

/-- R38: a trip moves READY to TRIPPED. -/
theorem trip (cause : TripReason) : DriveMoves s (s.trip cause) := by
  by_cases unconfigured : s.drc.driveState = .unconfigured
  · rw [State.trip_unconfigured unconfigured]
    exact .refl
  · have tripped := (State.trip_driveState unconfigured cause).1
    exact ⟨fun h => (State.trip_unconfigured_iff cause s).mp h, fun was => absurd was unconfigured,
      fun _ => by simp [tripped], fun h => by simpa using h⟩

theorem settle : DriveMoves s s.settle := of_demands (by simp) (by simp)

theorem takeReverser (r : Reverser) : DriveMoves s (s.takeReverser r).settle := by
  refine .trans ?_ .settle
  obtain ⟨m, view, e | e⟩ := s.takeReverser_cases r <;> rw [e]
  · exact .of_view view
  · exact (DriveMoves.of_view view).trans (.trip _)

theorem closeDetent : DriveMoves s s.closeDetent.settle := by
  refine .trans ?_ .settle
  unfold State.closeDetent
  split
  · exact .refl
  · exact .trans (m := { s with drc := { s.drc with detent := true } }) (.of_same rfl rfl) (.trip _)

theorem emergencyStop (tag : Byte) : DriveMoves s (s.emergencyStop tag) := by
  unfold State.emergencyStop
  split
  · exact .of_same rfl rfl
  · exact ((DriveMoves.trip _).trans .settle).trans (.of_same rfl rfl)

/-- R39: an accepted CONFIGURE, the first or a later one. -/
theorem takeConfigure (p : Params) : DriveMoves s (s.takeConfigure p) := by
  have after : (s.takeConfigure p).configured = true := (s.takeConfigure_frame p).2.2.2.2.2.2
  have state : (s.takeConfigure p).drc.driveState = if !s.configured then .tripped else s.drc.driveState := by
    refine (congrArg DemandView.driveState (State.settle_demands _)).trans ?_
    refine (Drc.driveState_of_bandView (State.configureSdu_bandView ..)).trans ?_
    exact congrArg Prod.fst (State.configureDrc_bandView ..)
  cases before : s.configured with
  | false =>
    rw [before] at state
    exact ⟨fun h => by simp [state] at h, fun _ _ => ⟨state, before, after⟩, fun _ => by simp [state], fun _ => after⟩
  | true =>
    rw [before] at state
    exact .of_same state (after.trans before.symm)

/-- R181: RESTART reaches the drive by the table alone. -/
theorem restartCommand : DriveMoves s s.restartCommand.1 := by
  unfold State.restartCommand
  split
  · have dropped : DriveMoves s s.dropLinkEntries := .of_same rfl rfl
    have route : s.dropLinkEntries.restartRoute.timerView = s.dropLinkEntries.timerView := by
      unfold State.restartRoute
      dsimp only
      split
      · exact State.lift_timerView _ _
      · rfl
    exact (dropped.trans (.of_view route)).trans (.of_same rfl rfl)
  · exact .refl

theorem runCommand (c : LinkCommand) : DriveMoves s (s.runCommand c).1 := by
  cases c with
  | configure p =>
    change DriveMoves s (s.configure p).1
    rcases s.configure_cases p with e | e <;> rw [e]
    · exact .refl
    · exact .takeConfigure p
  | restrictPost post => exact .of_view (s.restrictPost_timerView post)
  | restrictLift owner id => exact .of_view (s.restrictLift_timerView owner id)
  | restart => exact .restartCommand
  | junctionLoad load => rw [State.runCommand, s.junctionLoad_frame]; exact .of_same rfl rfl
  | junctionDrop id => rw [State.runCommand, s.junctionDrop_frame]; exact .of_same rfl rfl
  | routeAppend id sel => rw [State.runCommand, s.routeAppend_frame]; exact .of_same rfl rfl
  | routeClear => exact .of_same rfl rfl
  | patternLoad load => rw [State.runCommand, s.patternLoad_frame]; exact .of_same rfl rfl
  | stopClear target => rw [State.runCommand, s.stopClear_frame]; exact .of_same rfl rfl
  | buttonIsolate i a => rw [State.runCommand, s.buttonIsolate_frame]; exact .of_same rfl rfl
  | reportRate r => rw [State.runCommand, s.reportRate_frame]; exact .of_same rfl rfl
  | faultsRead n => rw [State.runCommand, s.faultsRead_frame]; exact .of_same rfl rfl
  | _ => exact .of_same (by simp [State.runCommand]) (by simp [State.runCommand])

end DriveMoves

/-! ## The work of the cab link (R172 to R175) -/

/-- What the work of the cab link comes to: time passes, its own state changes, an EMERGENCY_STOP is taken and commands
run, one after another. -/
inductive LinkSteps (s : State) : State → Prop
  | refl : LinkSteps s s
  | time {m : State} (t : Nat) : LinkSteps s m → LinkSteps s (m.atTime t)
  | clp {m : State} (c : Clp) : LinkSteps s m → LinkSteps s { m with clp := c }
  | stop {m : State} (tag : Byte) : LinkSteps s m → LinkSteps s (m.emergencyStop tag)
  | run {m : State} (c : LinkCommand) : LinkSteps s m → LinkSteps s (m.runCommand c).1

namespace LinkSteps

variable {s m : State}

theorem moves (h : LinkSteps s m) : DriveMoves s m := by
  induction h with
  | refl => exact .refl
  | time t _ ih => exact ih.trans (.of_same rfl rfl)
  | clp c _ ih => exact ih.trans (.of_same rfl rfl)
  | stop tag _ ih => exact ih.trans (.emergencyStop tag)
  | run c _ ih => exact ih.trans (.runCommand c)

theorem drain (n : Nat) : ∀ {m : State}, LinkSteps s m → LinkSteps s (m.drain n) := by
  induction n with
  | zero => exact fun h => h
  | succ n ih =>
    intro m h
    unfold State.drain
    split
    · exact h
    · split
      · exact h
      · exact ih (.clp _ (.run _ (.clp _ h)))

theorem arrive (c : Inbound) (h : LinkSteps s m) : LinkSteps s (m.arrive c) := by
  unfold State.arrive
  split
  · exact .drain _ (.clp _ h)
  · exact .clp _ h

theorem checkedFrame (kind tag : Byte) (payload : List Byte) (h : LinkSteps s m) :
    LinkSteps s (m.checkedFrame kind tag payload) := by
  unfold State.checkedFrame
  split
  · split
    · exact .stop tag h
    · exact .clp _ h
  · exact .arrive _ h

theorem hunt (b : RxByte) (h : LinkSteps s m) : LinkSteps s (m.hunt b) := by
  unfold State.hunt
  split <;> exact .clp _ h

theorem abortFrame (r : LinkErrorReason) (bytes : List Byte) (h : LinkSteps s m) :
    LinkSteps s (m.abortFrame r bytes) := .clp _ (.clp _ h)

theorem frameWhole (bytes : List Byte) (h : LinkSteps s m) : LinkSteps s (m.frameWhole bytes) := by
  unfold State.frameWhole
  split
  · split
    · exact .checkedFrame _ _ _ (.clp _ h)
    · exact .clp _ h
  · exact .abortFrame _ _ h

theorem collect (bytes : List Byte) (b : RxByte) (h : LinkSteps s m) : LinkSteps s (m.collect bytes b) := by
  unfold State.collect
  split
  · exact h
  · split
    · exact .hunt _ (.abortFrame _ _ h)
    · split
      · exact .frameWhole _ h
      · exact .clp _ h

theorem receive (b : RxByte) (h : LinkSteps s m) : LinkSteps s (m.receive b) := by
  unfold State.receive
  dsimp only
  split
  · exact .time _ h
  · split
    · exact .hunt _ (.time _ h)
    · split
      · exact .hunt _ (.abortFrame _ _ (.time _ h))
      · exact .collect _ _ (.time _ h)

theorem receives (bytes : List RxByte) : ∀ {m : State}, LinkSteps s m → LinkSteps s (bytes.foldl State.receive m) := by
  induction bytes with
  | nil => exact fun h => h
  | cons b rest ih => exact fun h => ih (h.receive b)

theorem linkWork (w : LinkWork s m) : LinkSteps s m := by
  cases w with
  | arrive c => exact .arrive c .refl
  | takeWaiting => exact .drain _ .refl
  | frameSent =>
    unfold State.frameSent
    split
    · exact .refl
    · exact .drain _ (.clp _ .refl)
  | gapAbort =>
    unfold State.gapAbort
    split
    · exact .refl
    · split
      · exact .abortFrame _ _ .refl
      · exact .refl
  | statusExpiry =>
    unfold State.statusExpiry
    split
    · exact .clp _ (.clp _ .refl)
    · exact .refl

end LinkSteps

/-! ## The commands -/

/-- R59: the rows that are a control interval, or name a part of one. -/
def IntervalRow (c : Instr) : Prop :=
  ∃ t, c = .controlInterval t ∨ c = .adhesionConditionEnd t ∨ c = .capRemoved t ∨ c = .sandRunOnExpiry t ∨
    c = .resetComplete t

/-- An interval row is the control interval at its moment, or nothing. -/
theorem exec_intervalRow {c : Instr} (row : IntervalRow c) (s : State) :
    ∃ t, exec c s = .next (s.atTime t).controlInterval ∨ exec c s = .next (s.atTime t) := by
  obtain ⟨t, rfl | rfl | rfl | rfl | rfl⟩ := row
  · exact ⟨t, .inl rfl⟩
  all_goals exact ⟨t, (ite_eq_or_eq _ _ _).imp (congrArg Host.Outcome.next) (congrArg Host.Outcome.next)⟩

/-- Every other command moves the drive state by CONFIGURE or a trip alone. -/
theorem exec_moves {c : Instr} (hc : ∀ t i, c ≠ .powerOn t i) (rows : ¬ IntervalRow c) (s : State) :
    ∃ s', exec c s = .next s' ∧ DriveMoves s s' := by
  have start : ∀ t, DriveMoves s (s.atTime t) := fun t => .of_same rfl rfl
  cases c with
  | powerOn t i => exact absurd rfl (hc t i)
  | controlInterval t => exact absurd ⟨t, .inl rfl⟩ rows
  | adhesionConditionEnd t => exact absurd ⟨t, .inr (.inl rfl)⟩ rows
  | capRemoved t => exact absurd ⟨t, .inr (.inr (.inl rfl))⟩ rows
  | sandRunOnExpiry t => exact absurd ⟨t, .inr (.inr (.inr (.inl rfl)))⟩ rows
  | resetComplete t => exact absurd ⟨t, .inr (.inr (.inr (.inr rfl)))⟩ rows
  | linkFrame bytes => exact ⟨_, rfl, (LinkSteps.receives bytes .refl).moves⟩
  | reverserChange t => exact ⟨_, rfl, (start t).trans (.ite (.takeReverser _))⟩
  | emergencyDetentClose t => exact ⟨_, rfl, (start t).trans .closeDetent⟩
  | vigilanceTrip t => exact ⟨_, rfl, (start t).trans (.ite ((DriveMoves.trip _).trans .settle))⟩
  | emergencyStop t tag => exact ⟨_, rfl, (start t).trans (.emergencyStop tag)⟩
  | handleCycle t => exact ⟨_, rfl, .of_same rfl rfl⟩
  | handleFallingEdge t => exact ⟨_, rfl, .of_demands (by simp [State.atTime]) rfl⟩
  | emergencyDetentOpen t | selectorButtonRelease t | cabDoorButtonInactive t =>
    exact ⟨_, rfl, (start t).trans (.ite (.of_same rfl rfl))⟩
  | deadmanChange t | vigilanceWarning t =>
    exact ⟨_, rfl, (start t).trans (.ite (.of_demands (by simp; rfl) (by simp)))⟩
  | tachoEdge t | noEdgeExpiry t | sensorHealthOpen t | sensorHealthOk t | plausibilityExpiry t =>
    exact ⟨_, rfl, (start t).trans (.of_demands (by simp) (by simp))⟩
  | demandPeriodStart t => exact ⟨_, rfl, (start t).trans (.ite (.of_same rfl rfl))⟩
  | selectorPress t | awaitingTimeout t | settingTimeout t | bypassOn t | bypassOff t | doorInputChange t =>
    exact ⟨_, rfl, (start t).trans (.ite (.of_view (by simp)))⟩
  | approachInterval t | amberFlash t | loopPage t | contactLost t | closeTimerExpiry t =>
    exact ⟨_, rfl, (start t).trans (.of_view (by simp))⟩
  | buttonInputChange t | settleTimerExpiry t | holdTimerExpiry t | recoveryTimerExpiry t | stepEnd t
  | tonePeriodEnd t => exact ⟨_, rfl, (start t).trans (.of_same (by simp) (by simp))⟩
  | hornButtonChange t | bellPedalChange t => exact ⟨_, rfl, (start t).trans (.ite (.of_same (by simp) (by simp)))⟩
  | releasePress t stood side =>
    exact ⟨_, rfl, (start t).trans (.ite (.of_view (State.doorPress_timerView _ _ (State.releaseRequest_timerView · side))))⟩
  | closePress t =>
    exact ⟨_, rfl, (start t).trans (.ite (.of_view (State.doorPress_timerView _ _ State.closeRequest_timerView)))⟩
  | gapAbort t => exact ⟨_, rfl, (start t).trans (LinkSteps.linkWork .gapAbort).moves⟩
  | takeCommand t => exact ⟨_, rfl, (start t).trans (LinkSteps.linkWork .takeWaiting).moves⟩
  | frameSent t => exact ⟨_, rfl, (start t).trans (LinkSteps.linkWork .frameSent).moves⟩
  | statusTimerExpiry t => exact ⟨_, rfl, (start t).trans (LinkSteps.linkWork .statusExpiry).moves⟩
  | restrictPost t | restrictLift t | restrictRead t | junctionLoad t | junctionDrop t | junctionRead t | routeAppend t
  | routeClear t | routeRead t | buttonIsolate t | stopClear t | stopRead t | soundStart t | soundStop t | patternLoad t
  | patternRead t | identify t | statusRead t | reportRate t | faultsRead t | restart t | configure t | readConfig t =>
    exact ⟨_, rfl, (start t).trans (LinkSteps.linkWork (.arrive _)).moves⟩

/-- R37, R40: a control interval leaves UNCONFIGURED standing, and READY is entered by it from TRIPPED with the reset
procedure held. -/
theorem State.controlInterval_moves (s : State) :
    (s.controlInterval.drc.driveState = .unconfigured ↔ s.drc.driveState = .unconfigured) ∧
    (s.drc.driveState ≠ .ready → s.controlInterval.drc.driveState = .ready →
      s.drc.driveState = .tripped ∧ s.controlInterval.drc.h = -100 ∧ s.controlInterval.drc.handleFault = false ∧
      s.drc.detent = false ∧ s.drc.deadman = true ∧
      (s.amu.atStandstill = true ∨ s.controlInterval.drc.refClass = .lost)) := by
  rcases Nat.lt_or_ge s.now s.drc.intervalDue with early | due
  · rw [State.controlInterval_early early]
    exact ⟨.rfl, fun no yes => absurd yes no⟩
  · have unconfigured : s.controlInterval.drc.driveState = .unconfigured ↔ s.drc.driveState = .unconfigured := by
      have late := State.controlInterval_late due
      have before := s.ceilinged_driveState
      generalize s.ceilinged = m at late before
      have state : s.controlInterval.drc.driveState = m.bandStage.drc.driveState := (congrArg Drc.driveState late :)
      rw [state, ← before, State.bandStage_unconfigured_iff]
    refine ⟨unconfigured, fun notReady ready => ?_⟩
    cases state : s.drc.driveState with
    | unconfigured => simp [unconfigured.mpr state] at ready
    | ready => exact absurd state notReady
    | tripped =>
      cases holds : resetHolds (s.ceilinged.setBand .normal) with
      | false =>
        obtain ⟨fails, -⟩ := State.controlInterval_reset due state rfl rfl holds
        simp [(fails rfl).1] at ready
      | true =>
        obtain ⟨handle, h, detent, deadman, still⟩ := (State.resetHolds_controlInterval due state).mp holds
        exact ⟨rfl, h, handle, detent, deadman, still⟩

/-- Settles O32. -/
theorem driveStateMoves : Obligations.DriveStateMoves := by
  intro c s s' hc step
  by_cases row : IntervalRow c
  · obtain ⟨t, e | e⟩ := exec_intervalRow row s
    · obtain rfl := Host.Outcome.next.inj (e.symm.trans step)
      obtain ⟨unconfigured, ready⟩ := (s.atTime t).controlInterval_moves
      refine ⟨unconfigured.mp, fun was left => absurd (unconfigured.mpr was) left, fun notReady isReady => ?_⟩
      obtain ⟨state, h, handle, detent, deadman, still⟩ := ready notReady isReady
      exact ⟨state, h, handle, detent, deadman, still, row⟩
    · obtain rfl := Host.Outcome.next.inj (e.symm.trans step)
      exact ⟨fun h => h, fun was left => absurd was left, fun notReady isReady => absurd isReady notReady⟩
  · obtain ⟨m, e, moves⟩ := exec_moves hc row s
    obtain rfl := Host.Outcome.next.inj (e.symm.trans step)
    exact ⟨moves.unconfigured, moves.leaves, fun notReady isReady => absurd isReady (moves.ready notReady)⟩

end Sys2Proof.Machine
end

section
/-! O59: CONFIGURE. -/

namespace Sys2Proof.Machine

/-! ## The checks of Table 11-1 (R184) -/

theorem inRange_eq (lo hi n : Nat) : inRange lo hi n = !decide (n < lo ∨ hi < n) := by
  rw [Bool.eq_iff_iff]
  simp [inRange]

/-- R184: bits 5–3 of a byte of field 18, read as a number. -/
theorem goodMapByte_eq (b : Byte) : goodMapByte b = !decide (b.toNat / 8 % 8 ≠ 0) := by
  have bit : ∀ i, b.getLsbD i = decide (b.toNat / 2 ^ i % 2 = 1) := fun i => Nat.testBit_eq_decide_div_mod_eq
  rw [Bool.eq_iff_iff]
  simp only [goodMapByte, bit, Bool.and_eq_true, Bool.not_eq_true', decide_eq_false_iff_not, not_not]
  omega

/-- R184: the fields that Table 11-1 refuses, in their order. -/
def fieldFails (p : Params) : List Bool :=
  [ decide (p.circA.toNat < 1600 ∨ 2400 < p.circA.toNat), decide (p.circB.toNat < 1600 ∨ 2400 < p.circB.toNat),
    decide (p.vehicleMax.toNat < 300 ∨ 2500 < p.vehicleMax.toNat),
    decide (p.tractionRise.toNat < 1 ∨ 10 < p.tractionRise.toNat),
    decide (p.tractionFall.toNat < 1 ∨ 20 < p.tractionFall.toNat),
    decide (p.brakeRise.toNat < 1 ∨ 20 < p.brakeRise.toNat), decide (p.brakeFall.toNat < 1 ∨ 10 < p.brakeFall.toNat),
    decide (p.serviceBrake.toInt < -100 ∨ -30 < p.serviceBrake.toInt),
    decide (p.descentStep.toNat < 1 ∨ 5 < p.descentStep.toNat),
    decide (p.curveDecel.toNat < 50 ∨ 200 < p.curveDecel.toNat),
    decide (p.reverseCeil.toNat < 50 ∨ 300 < p.reverseCeil.toNat),
    decide (p.unknownCeil.toNat < 50 ∨ 500 < p.unknownCeil.toNat),
    decide (p.fallback.toNat < 10000 ∨ 200000 < p.fallback.toNat),
    decide (p.slipMin.toNat < 10 ∨ 100 < p.slipMin.toNat),
    decide (p.slipPermille.toNat < 30 ∨ 200 < p.slipPermille.toNat), decide (p.vehicle.toNat < 1), false,
    p.buttonMap.toList.any fun b => decide (b.toNat / 8 % 8 ≠ 0),
    decide (p.closeTimeout.toNat < 5 ∨ 30 < p.closeTimeout.toNat),
    decide (p.bypassCeil.toNat < 100 ∨ 600 < p.bypassCeil.toNat), decide (1 < p.departureBell.toNat) ]

/-- The checks of the model are those of the table. -/
theorem fieldChecks_eq (p : Params) : fieldChecks p = (fieldFails p).map (! ·) := by
  have vehicle : inRange 1 65535 p.vehicle.toNat = !decide (p.vehicle.toNat < 1) := by
    have := p.vehicle.isLt
    rw [inRange_eq, Bool.eq_iff_iff]
    simp
    omega
  have bell : inRange 0 1 p.departureBell.toNat = !decide (1 < p.departureBell.toNat) := by
    rw [inRange_eq]
    simp
  have brake : (decide (-100 ≤ p.serviceBrake.toInt) && decide (p.serviceBrake.toInt ≤ -30)) =
      !decide (p.serviceBrake.toInt < -100 ∨ -30 < p.serviceBrake.toInt) := by
    rw [Bool.eq_iff_iff]
    simp
  have map : goodMap p = !(p.buttonMap.toList.any fun b => decide (b.toNat / 8 % 8 ≠ 0)) := by
    rw [goodMap, List.not_any_eq_all_not]
    exact congrArg (List.all _) (funext goodMapByte_eq)
  simp only [fieldChecks, fieldFails, vehicle, bell, brake, map, inRange_eq, List.map_cons, List.map_nil, Bool.not_false]

/-- R184: the number of the first field out of range. -/
theorem badField_fails (p : Params) : badField p = ((fieldFails p).findIdx? id).map (· + 1) := by
  rw [badField, fieldChecks_eq, List.findIdx?_map]
  congr 2
  funext b
  exact Bool.not_not b

/-- R184: the refusals, in their order. -/
theorem State.configure_refused {p : Params} {s : State} {v : Verdict} (h : refuseConfigure p s = some v) :
    s.configure p = (s, v) := by
  simp only [State.configure, h]

theorem refuseConfigure_range {p : Params} {k : Nat} (h : (fieldFails p).findIdx? id = some k) (s : State) :
    refuseConfigure p s = some (.range (BitVec.ofNat 8 (k + 1))) := by
  simp only [refuseConfigure, badField_fails, h, Option.map_some]

theorem refuseConfigure_inUse {p : Params} {s : State} (h : badField p = none) (door : s.sdu.door ≠ .none) :
    refuseConfigure p s = some (.plain .inUse) := by
  simp only [refuseConfigure, h, if_pos door]

theorem refuseConfigure_moving {p : Params} {s : State} (h : badField p = none) (door : s.sdu.door = .none)
    (configured : s.configured = true) (moving : s.amu.atStandstill = false) :
    refuseConfigure p s = some (.plain .notStandstill) := by
  simp [refuseConfigure, h, door, configured, moving]

theorem refuseConfigure_none {p : Params} {s : State} (h : badField p = none) (door : s.sdu.door = .none)
    (still : s.configured = true → s.amu.atStandstill = true) : refuseConfigure p s = none := by
  simpa [refuseConfigure, h, door] using still

/-- R184: a refused CONFIGURE is answered and changes nothing. -/
theorem exec_configure_refused {t : Nat} {tag : Byte} {p : Params} {s : State} {v : Verdict} (ready : LinkReady s)
    (h : refuseConfigure p (s.atTime t) = some v) : exec (.configure t tag p) s = .next (s.answered t 0x02 tag v) :=
  exec_answered rfl ready (State.configure_refused h)

end Sys2Proof.Machine
end

section
/-! SUPPORT. What the posts, the re-mapping of the buttons and the examination of the doors leave (R133, R143, R150,
R151, R185). -/

namespace Sys2Proof.Machine

/-! ## A drive that posts and lifts alone have reached -/

section reposted
variable {v : Nat} {d m : Drc}

theorem Reposted.besidePosts (r : Reposted v d m) : m.besidePosts = d.besidePosts := by
  induction r with
  | refl => rfl
  | written _ _ _ _ _ ih => rw [Drc.clipped_besidePosts, Drc.rewritten_besidePosts, ih]
  | emptied _ _ ih => rw [Drc.rewritten_besidePosts, ih]

/-- R31, R34: V_ceil stays the effective ceiling, and V_sup only rises. -/
theorem Reposted.ceilings (r : Reposted v d m)
    (sound : d.vCeil = effectiveCeiling v d.table.entries ∧ d.vCeil ≤ d.vSup) :
    m.vCeil = effectiveCeiling v m.table.entries ∧ m.vCeil ≤ m.vSup ∧ d.vSup ≤ m.vSup := by
  induction r with
  | refl => exact ⟨sound.1, sound.2, le_rfl⟩
  | written _ _ _ _ _ ih => exact ⟨rfl, Nat.le_max_right _ _, ih.2.2.trans (Nat.le_max_left _ _)⟩
  | emptied _ _ ih => exact ⟨rfl, Nat.le_max_right _ _, ih.2.2.trans (Nat.le_max_left _ _)⟩

/-- R29: a u that is not above 0 is not clipped. -/
theorem Reposted.brakes (r : Reposted v d m) (low : d.u ≤ 0) : m.u = d.u ∧ m.buffer = d.buffer := by
  induction r with
  | refl => exact ⟨rfl, rfl⟩
  | written slot kind ceiling reason _ ih =>
    rename_i k _
    have clips : ¬ ((internalEntry kind ceiling reason).inhibits = true ∧ 0 < k.u) := fun h => by
      have := h.2
      omega
    exact ⟨(if_neg clips).trans ih.1, (if_neg clips).trans ih.2⟩
  | emptied _ _ ih => exact ih

end reposted

/-! ## Replies in the outbound queue (R175) -/

section replies
variable (s : State)

/-- R175: the replies that stand in the outbound queue. -/
def State.replies (s : State) : Nat := replyCount s.clp.outbound

theorem State.raise_replies (r : Report) : (s.raise r).replies = s.replies := Clp.raise_replies r s.clp

theorem State.latch_replies (code : FaultCode) (index : Nat) : (s.latch code index).replies = s.replies :=
  (Clp.latch_frame code index _ s.clp).2.2.2.2.2.1

theorem State.post_replies (slot : Slot) (kind : Kind) (ceiling : Nat) (reason : Byte) :
    (s.post slot kind ceiling reason).replies = s.replies := by
  unfold State.post
  simp only [State.writeSlot_eq, State.clip_eq]
  split
  · exact Clp.raise_replies _ _
  · split
    · rfl
    · split
      · rfl
      · exact Clp.raise_replies _ _

theorem State.setDoor_replies (d : DoorState) : (s.setDoor d).replies = s.replies := Clp.raise_replies _ _

theorem State.latchUnlocked_replies (doors : List (Fin 8)) : (s.latchUnlocked doors).replies = s.replies := by
  unfold State.latchUnlocked
  induction doors generalizing s with
  | nil => rfl
  | cons d rest ih => exact (ih _).trans (s.latch_replies _ _)

theorem State.enterBypassed_replies : s.enterBypassed.replies = s.replies := by
  unfold State.enterBypassed State.postBypass
  rw [State.setDoor_replies, State.latchUnlocked_replies, State.latch_replies, State.post_replies]
  rfl

theorem State.enterUnsafe_replies (doors : List (Fin 8)) : (s.enterUnsafe doors).replies = s.replies := by
  have posted : ((s.postHold.latchUnlocked doors).setDoor .unsafe_).replies = s.replies := by
    rw [State.setDoor_replies, State.latchUnlocked_replies, State.postHold, State.post_replies]
  unfold State.enterUnsafe
  dsimp only
  split
  · rw [State.enterBypassed_replies, posted]
  · exact posted

theorem State.examineDoors_replies : s.examineDoors.replies = s.replies := by
  unfold State.examineDoors
  split
  · rfl
  · exact s.enterUnsafe_replies _

theorem State.reportExits_replies (ch : ChannelId) (es : List Exit) : (s.reportExits ch es).replies = s.replies := by
  unfold State.reportExits
  induction es generalizing s with
  | nil => rfl
  | cons e es ih =>
    refine (ih _).trans ?_
    change (s.reportExit ch e).replies = s.replies
    unfold State.reportExit
    split
    · exact s.raise_replies _
    · rfl

theorem State.endVigilanceWarning_replies : s.endVigilanceWarning.replies = s.replies := by
  unfold State.endVigilanceWarning
  split
  · exact State.reportExits_replies _ _ _
  · rfl

theorem State.settle_replies : s.settle.replies = s.replies := by
  have clp : ((s.settlePlausibility .A).settlePlausibility .B).clp = s.clp := by simp
  unfold State.settle
  generalize (s.settlePlausibility .A).settlePlausibility .B = m at clp
  have same : m.replies = s.replies := congrArg (fun c : Clp => replyCount c.outbound) clp
  unfold State.settleVigilance
  rw [← same]
  split
  · split <;> rfl
  · exact State.endVigilanceWarning_replies _

end replies

/-! ## The re-mapping of the buttons (R133) -/

section buttons
variable {s : State}

/-- R130, R131, R133: a conditioner once its button has been mapped, or not. -/
def Conditioner.remapped (now : Nat) (mapped : Bool) (c : Conditioner) : Conditioner :=
  { c with
    stuck := c.stuck && mapped
    hold := if c.level ∧ mapped ∧ !c.isolated ∧ !c.stuck then some (c.hold.getD now) else none
    recovery := if c.stuck ∧ mapped ∧ !c.level then some (c.recovery.getD now) else none }

theorem Conditioner.unstick_remapped {p : Params} {i : Fin 16} {now : Nat} {c : Conditioner}
    (unmapped : (mapping p i).isSome = false) : c.unstick p i now = c.remapped now false := by
  simp [Conditioner.unstick, Conditioner.settleTimers, Conditioner.remapped, holdRuns, unmapped]

theorem Conditioner.settleTimers_remapped {p : Params} {i : Fin 16} {now : Nat} {c : Conditioner} {mapped : Bool}
    (h : (mapping p i).isSome = mapped) (stuck : c.stuck = true → mapped = true) :
    c.settleTimers p i now = c.remapped now mapped := by
  unfold Conditioner.settleTimers Conditioner.remapped holdRuns
  rw [h]
  cases mapped with
  | true => simp [and_assoc]
  | false =>
    have free : c.stuck = false := by simpa using stuck
    simp [free]

/-- R133: what the re-mapping of one button writes. -/
theorem State.remapButton_sdu (s : State) (i : Fin 16) : (s.remapButton i).sdu =
    { s.sdu with
      buttons := s.sdu.buttons.set i (s.sdu.buttons[i].remapped s.now (mapping s.params i).isSome) } := by
  unfold State.remapButton
  dsimp only
  split
  · next h =>
    have unmapped : (mapping s.params i).isSome = false := by simpa using h.2
    rw [Conditioner.unstick_remapped unmapped, unmapped]
    rfl
  · next h =>
    have mapped : s.sdu.buttons[i].stuck = true → (mapping s.params i).isSome = true := fun stuck => by
      by_contra unmapped
      exact h ⟨stuck, by simpa using unmapped⟩
    rw [Conditioner.settleTimers_remapped rfl mapped]
    rfl

/-- R131: a pair of the fault set that is not active. -/
def Inactive (code : FaultCode) (index : Nat) (f : List FaultEntry) : Prop :=
  ∀ e ∈ f, e.code = code → e.index = index → e.active = false

theorem Inactive.clearFault {code : FaultCode} {index : Nat} {c : Clp} (h : Inactive code index c.faults)
    (code' : FaultCode) (index' : Nat) : Inactive code index (c.clearFault code' index').faults := by
  intro e he hc hi
  obtain ⟨e₀, he₀, rfl⟩ := List.mem_map.mp he
  by_cases told : e₀.isFor code' index' = true
  · simp only [if_pos told]
  · simp only [if_neg told] at hc hi ⊢
    exact h e₀ he₀ hc hi

/-- R133: of the cab link, the re-mapping of a button writes active flags of the fault set. -/
theorem State.remapButton_clp (s : State) (i : Fin 16) :
    (s.remapButton i).clp = { s.clp with faults := (s.remapButton i).clp.faults } ∧
    (s.remapButton i).clp.faults.length = s.clp.faults.length ∧
    (∀ code index, Inactive code index s.clp.faults → Inactive code index (s.remapButton i).clp.faults) ∧
    (s.sdu.buttons[i].stuck = true → (mapping s.params i).isSome = false →
      Inactive .buttonStuck i.val (s.remapButton i).clp.faults) := by
  unfold State.remapButton
  dsimp only
  split
  · exact ⟨rfl, List.length_map _, fun _ _ h => h.clearFault _ _, fun _ _ => Clp.clearFault_inactive _ _ _⟩
  · next h =>
    exact ⟨rfl, rfl, fun _ _ h => h, fun stuck unmapped => absurd ⟨stuck, by simpa using unmapped⟩ h⟩

/-- R133: the re-mapping of some buttons, each once. -/
theorem State.remapFold {l : List (Fin 16)} (once : l.Nodup) (s : State) :
    (l.foldl State.remapButton s).sdu = { s.sdu with buttons := (l.foldl State.remapButton s).sdu.buttons } ∧
    (∀ i : Fin 16, (l.foldl State.remapButton s).sdu.buttons[i] =
      if i ∈ l then s.sdu.buttons[i].remapped s.now (mapping s.params i).isSome else s.sdu.buttons[i]) ∧
    (l.foldl State.remapButton s).clp = { s.clp with faults := (l.foldl State.remapButton s).clp.faults } ∧
    (l.foldl State.remapButton s).clp.faults.length = s.clp.faults.length ∧
    (∀ code index, Inactive code index s.clp.faults →
      Inactive code index (l.foldl State.remapButton s).clp.faults) ∧
    (∀ i ∈ l, s.sdu.buttons[i].stuck = true → (mapping s.params i).isSome = false →
      Inactive .buttonStuck i.val (l.foldl State.remapButton s).clp.faults) := by
  induction l generalizing s with
  | nil => exact ⟨rfl, fun _ => rfl, rfl, rfl, fun _ _ h => h, nofun⟩
  | cons i rest ih =>
    obtain ⟨apart, once⟩ := List.nodup_cons.mp once
    obtain ⟨now, -, -, -, -, -, -, -, params, -⟩ := s.remapButton_frame i
    obtain ⟨clp, length, keeps, clears⟩ := s.remapButton_clp i
    obtain ⟨sdu', buttons', clp', length', keeps', clears'⟩ := ih once (s.remapButton i)
    have sdu := s.remapButton_sdu i
    rw [List.foldl_cons]
    refine ⟨?_, fun j => ?_, ?_, length'.trans length, fun code index h => keeps' _ _ (keeps _ _ h),
      fun j hj stuck unmapped => ?_⟩
    · rw [sdu', sdu]
    · rw [buttons' j, now, params, sdu]
      by_cases same : i = j
      · subst same
        simp [apart]
      · rw [button_set_ne _ _ same]
        simp [Ne.symm same]
    · rw [clp', clp]
    · rcases List.mem_cons.mp hj with rfl | hj
      · exact keeps' _ _ (clears stuck unmapped)
      · have other : i ≠ j := fun same => apart (same ▸ hj)
        refine clears' j hj ?_ (by rwa [params])
        rw [sdu, button_set_ne _ _ other]
        exact stuck

end buttons

/-! ## The examination of the doors (R150, R151) -/

section doors
variable {s : State}

theorem State.latchUnlocked_latchings (doors : List (Fin 8)) (s : State) :
    Latchings (· = .doorUnlocked) doors.length s.clp.faults (s.latchUnlocked doors).clp.faults := by
  unfold State.latchUnlocked
  induction doors generalizing s with
  | nil => exact .refl
  | cons d rest ih =>
    rw [List.foldl_cons]
    exact ((Clp.latch_latchings (codes := (· = .doorUnlocked)) rfl d.val _ s.clp).trans
      (ih (s.latch .doorUnlocked d.val))).mono (fun _ h => h) (by simp [Nat.add_comm])

/-- R150: with room each of the doors is latched. -/
theorem State.latchUnlocked_latched {doors : List (Fin 8)} {s : State}
    (room : s.clp.faults.length + doors.length ≤ 32) :
    ∀ d ∈ doors, Latched .doorUnlocked d.val (s.latchUnlocked doors) := by
  induction doors generalizing s with
  | nil => exact nofun
  | cons d rest ih =>
    have first := Clp.latch_latchings (codes := (· = .doorUnlocked)) rfl d.val s.amu.odometerMm s.clp
    have length := first.length
    simp only [List.length_cons] at room
    intro x hx
    change Latched .doorUnlocked x.val ((s.latch .doorUnlocked d.val).latchUnlocked rest)
    rcases List.mem_cons.mp hx with rfl | hx
    · exact (State.latchUnlocked_latchings rest _).latched (Clp.latch_holds _ _ _ _ (.inl (by omega)))
    · refine ih (s := s.latch .doorUnlocked d.val) ?_ x hx
      change (s.clp.latch .doorUnlocked d.val s.amu.odometerMm).faults.length + rest.length ≤ 32
      omega

theorem State.setDoor_faults (d : DoorState) (s : State) : (s.setDoor d).clp.faults = s.clp.faults :=
  (Clp.raise_frame _ _).2.2.1

theorem State.latchUnlocked_beside (doors : List (Fin 8)) (s : State) :
    (s.latchUnlocked doors).drc = s.drc ∧ (s.latchUnlocked doors).sdu = s.sdu := by
  unfold State.latchUnlocked
  induction doors generalizing s with
  | nil => exact ⟨rfl, rfl⟩
  | cons d rest ih => exact ih (s.latch .doorUnlocked d.val)

theorem State.post_sdu (slot : Slot) (kind : Kind) (ceiling : Nat) (reason : Byte) (s : State) :
    (s.post slot kind ceiling reason).sdu = s.sdu := by simp

/-- What BYPASSED is entered with: the doors' outputs closed, and the bypass ceiling as the DOORS entry. -/
structure EntersBypassed (s m : State) : Prop where
  sdu    : m.sdu = { s.sdu.shut with door := .bypassed }
  table  : m.drc.table = { s.drc.table with
    doors := some (internalEntry .ceiling s.params.bypassCeil.toNat reasonBypass) }
  faults : Latchings (fun c => c = .doorUnlocked ∨ c = .doorBypass) 1 s.clp.faults m.clp.faults

/-- R151: BYPASSED entered out of a door session. -/
theorem State.enterBypassed_enters (apart : s.sdu.door.session = none)
    (entry : ∀ e, s.drc.table.doors = some e → e.phase = .active ∧ e.start = none ∧ e.stop = none) :
    EntersBypassed s s.enterBypassed := by
  have none : bypassLatches s.params s.sdu = [] := by rw [bypassLatches, apart]
  unfold State.enterBypassed
  rw [none]
  refine ⟨?_, ?_, ?_⟩
  · change ({ (State.postBypass { s with sdu := s.sdu.shut }).sdu with door := .bypassed } : Sdu) = _
    rw [State.postBypass, State.post_sdu]
  · exact State.post_table (s := { s with sdu := s.sdu.shut }) entry
  · rw [State.setDoor_faults]
    have latch := Clp.latch_latchings (codes := fun c => c = .doorUnlocked ∨ c = .doorBypass) (.inr rfl) 0
      (State.postBypass { s with sdu := s.sdu.shut }).amu.odometerMm (State.postBypass { s with sdu := s.sdu.shut }).clp
    rw [State.postBypass, State.post_faults] at latch
    exact latch

/-- What the examination of the doors finds unsafe is entered with. -/
structure EntersUnsafe (doors : List (Fin 8)) (s m : State) : Prop where
  door    : m.sdu.door = if s.sdu.bypass then .bypassed else .unsafe_
  sdu     : m.sdu = { s.sdu with
    door := m.sdu.door, closeTimer := m.sdu.closeTimer, outputs := m.sdu.outputs }
  table   : m.drc.table = { s.drc.table with
    doors := some (if s.sdu.bypass then internalEntry .ceiling s.params.bypassCeil.toNat reasonBypass
      else internalEntry .hold 0 reasonDoorHold) }
  faults  : Latchings (fun c => c = .doorUnlocked ∨ c = .doorBypass) (doors.length + 1) s.clp.faults m.clp.faults
  latched : s.clp.faults.length + doors.length ≤ 32 → ∀ d ∈ doors, Latched .doorUnlocked d.val m

/-- R150, R151: UNSAFE entered with no DOORS entry, and BYPASSED with the switch ON. -/
theorem State.enterUnsafe_enters (empty : s.drc.table.doors = none) (doors : List (Fin 8)) :
    EntersUnsafe doors s (s.enterUnsafe doors) := by
  have posted : s.postHold.drc.table = { s.drc.table with doors := some (internalEntry .hold 0 reasonDoorHold) } :=
    State.post_table fun e held => by cases empty.symm.trans held
  have held : s.postHold.clp.faults = s.clp.faults := State.post_faults ..
  have latchings := State.latchUnlocked_latchings doors s.postHold
  have latched := State.latchUnlocked_latched (doors := doors) (s := s.postHold)
  obtain ⟨drc, sdu⟩ := State.latchUnlocked_beside doors s.postHold
  have sdu : (s.postHold.latchUnlocked doors).sdu = s.sdu := sdu.trans (State.post_sdu ..)
  rw [held] at latchings latched
  have params : (s.postHold.latchUnlocked doors).params = s.params := by simp
  unfold State.enterUnsafe
  dsimp only
  generalize s.postHold.latchUnlocked doors = m at *
  have table : (m.setDoor .unsafe_).drc.table =
      { s.drc.table with doors := some (internalEntry .hold 0 reasonDoorHold) } := by
    rw [← posted, ← drc]
    rfl
  have same : (m.setDoor .unsafe_).sdu = { s.sdu with door := .unsafe_ } := by
    rw [← sdu]
    rfl
  have latchings : Latchings (fun c => c = .doorUnlocked ∨ c = .doorBypass) doors.length s.clp.faults
      (m.setDoor .unsafe_).clp.faults := by
    rw [State.setDoor_faults]
    exact latchings.mono (fun _ => .inl) le_rfl
  have latched : s.clp.faults.length + doors.length ≤ 32 →
      ∀ d ∈ doors, Latched .doorUnlocked d.val (m.setDoor .unsafe_) := by
    unfold Latched at latched ⊢
    rwa [State.setDoor_faults]
  have params : (m.setDoor .unsafe_).params = s.params := params
  generalize m.setDoor .unsafe_ = n at *
  cases bypass : s.sdu.bypass with
  | true =>
    have on : n.sdu.bypass = true := by rw [same]; exact bypass
    have enters := State.enterBypassed_enters (s := n) (by rw [same]; rfl) fun e held => by
      rw [table] at held
      cases held
      exact ⟨rfl, rfl, rfl⟩
    rw [if_pos on]
    refine ⟨?_, ?_, ?_, latchings.trans enters.faults, fun room d hd => enters.faults.latched (latched room d hd)⟩
    · rw [enters.sdu, bypass]; rfl
    · rw [enters.sdu, same]; rfl
    · rw [enters.table, table, params, bypass]; rfl
  | false =>
    have off : ¬ n.sdu.bypass = true := by rw [same]; simpa using bypass
    rw [if_neg off]
    refine ⟨?_, ?_, ?_, latchings.mono (fun _ h => h) (Nat.le_succ _), latched⟩
    · rw [same, bypass]; rfl
    · rw [same]
    · rw [table, bypass]; rfl

end doors

end Sys2Proof.Machine
end

section
/-! O59: an accepted CONFIGURE (R39, R133, R185, R186). -/

namespace Sys2Proof.Machine

variable {s : State}

/-! ## The drive's part (R185 step 1) -/

/-- R185: the ceilings are recomputed, and a standing REVERSE entry is posted with the new ceiling. -/
def State.entryReposted (s : State) : State :=
  if s.recompute.drc.table.reverse.isSome then
    s.recompute.post .reverse .ceiling s.recompute.params.reverseCeil.toNat reasonReversing
  else s.recompute

theorem State.configureDrc_eq (first : Bool) (s : State) :
    s.configureDrc first = if first then s.entryReposted.leaveUnconfigured else s.entryReposted := rfl

theorem State.entryReposted_reposted (s : State) :
    Reposted s.params.vehicleMax.toNat s.recompute.drc s.entryReposted.drc := by
  unfold State.entryReposted
  split
  · exact .post (s := s.recompute) rfl .refl ..
  · exact .refl

theorem State.recompute_besidePosts (s : State) : s.recompute.drc.besidePosts = s.drc.besidePosts := rfl

theorem State.entryReposted_besidePosts (s : State) : s.entryReposted.drc.besidePosts = s.drc.besidePosts :=
  s.entryReposted_reposted.besidePosts.trans s.recompute_besidePosts

theorem State.entryReposted_u (s : State) : s.entryReposted.drc.u = s.drc.u := by
  unfold State.entryReposted
  split
  · exact State.post_ceiling_u ..
  · rfl

theorem State.entryReposted_clp (s : State) :
    s.entryReposted.clp.faults = s.clp.faults ∧ s.entryReposted.replies = s.replies := by
  unfold State.entryReposted
  split
  · exact ⟨State.post_faults .., State.post_replies ..⟩
  · exact ⟨rfl, rfl⟩

/-- R185: the table, with a REVERSE entry as an internal owner's. -/
theorem State.entryReposted_table
    (entry : ∀ e, s.drc.table.reverse = some e → e.start = none ∧ e.stop = none ∧ e.phase = .active) :
    s.entryReposted.drc.table = { s.drc.table with
      reverse := s.drc.table.reverse.map fun _ => internalEntry .ceiling s.params.reverseCeil.toNat reasonReversing } := by
  have same : s.recompute.drc.table = s.drc.table := rfl
  unfold State.entryReposted
  rw [same]
  cases held : s.drc.table.reverse with
  | none =>
    rw [if_neg (by decide), same, Option.map_none, ← held]
  | some e =>
    have standing : ∀ e, s.recompute.drc.table.get .reverse = some e →
        e.phase = .active ∧ e.start = none ∧ e.stop = none := fun e he => by
      obtain ⟨start, stop, phase⟩ := entry e he
      exact ⟨phase, start, stop⟩
    rw [Option.isSome_some, if_pos rfl, State.post_table standing]
    rfl

/-- R31, R34: the ceilings after the drive's part. -/
theorem State.configureDrc_ceilings (s : State) (first : Bool) :
    (s.configureDrc first).drc.vCeil =
      effectiveCeiling s.params.vehicleMax.toNat (s.configureDrc first).drc.table.entries ∧
    (s.configureDrc first).drc.vCeil ≤ (s.configureDrc first).drc.vSup ∧
    s.drc.vSup ≤ (s.configureDrc first).drc.vSup := by
  obtain ⟨ceiling, supervised, rises⟩ := s.entryReposted_reposted.ceilings ⟨rfl, Nat.le_max_right _ _⟩
  have rises := (Nat.le_max_left _ _ : s.drc.vSup ≤ s.recompute.drc.vSup).trans rises
  rw [State.configureDrc_eq]
  cases first with
  | true => exact ⟨ceiling, supervised, rises⟩
  | false => exact ⟨ceiling, supervised, rises⟩

theorem State.configureDrc_table (first : Bool)
    (entry : ∀ e, s.drc.table.reverse = some e → e.start = none ∧ e.stop = none ∧ e.phase = .active) :
    (s.configureDrc first).drc.table = { s.drc.table with
      reverse := s.drc.table.reverse.map fun _ => internalEntry .ceiling s.params.reverseCeil.toNat reasonReversing } := by
  rw [State.configureDrc_eq]
  cases first with
  | true => exact State.entryReposted_table entry
  | false => exact State.entryReposted_table entry

theorem State.configureDrc_clp (s : State) (first : Bool) :
    (s.configureDrc first).clp.faults = s.clp.faults ∧ (s.configureDrc first).replies = s.replies := by
  obtain ⟨faults, replies⟩ := s.entryReposted_clp
  rw [State.configureDrc_eq]
  cases first with
  | true => exact ⟨(Clp.raise_frame _ _).2.2.1.trans faults, (State.raise_replies _ _).trans replies⟩
  | false => exact ⟨faults, replies⟩

/-! ## The doors' part (R133, R185 step 3) -/

theorem allButtons_nodup : allButtons.Nodup := List.nodup_finRange 16

/-- R133: what the re-mapping of all sixteen buttons leaves and writes. -/
theorem State.remapButtons_spec (s : State) :
    s.remapButtons.sdu = { s.sdu with buttons := s.remapButtons.sdu.buttons } ∧
    (∀ i : Fin 16, s.remapButtons.sdu.buttons[i] =
      s.sdu.buttons[i].remapped s.now (mapping s.params i).isSome) ∧
    s.remapButtons.clp = { s.clp with faults := s.remapButtons.clp.faults } ∧
    s.remapButtons.clp.faults.length = s.clp.faults.length ∧
    (∀ i : Fin 16, s.sdu.buttons[i].stuck = true → (mapping s.params i).isSome = false →
      Inactive .buttonStuck i.val s.remapButtons.clp.faults) := by
  obtain ⟨sdu, buttons, clp, length, -, clears⟩ := State.remapFold allButtons_nodup s
  unfold State.remapButtons
  exact ⟨sdu, fun i => (buttons i).trans (if_pos (mem_allButtons i)), clp, length, fun i => clears i (mem_allButtons i)⟩

/-- R133: the buttons are re-mapped, and at the first CONFIGURE the doors are examined. -/
theorem State.configureSdu_first (s : State) : s.configureSdu true = s.remapButtons.examineDoors := by
  unfold State.configureSdu
  simp only [if_pos]

theorem State.configureSdu_later (s : State) : s.configureSdu false = s.remapButtons := by
  unfold State.configureSdu
  simp only [Bool.false_eq_true, if_false]

theorem State.remapButtons_replies (s : State) : s.remapButtons.replies = s.replies := by
  obtain ⟨-, -, clp, -⟩ := s.remapButtons_spec
  unfold State.replies
  rw [clp]

theorem State.configureSdu_replies (s : State) (first : Bool) : (s.configureSdu first).replies = s.replies := by
  cases first with
  | true => rw [State.configureSdu_first, State.examineDoors_replies, State.remapButtons_replies]
  | false => exact s.remapButtons_replies

theorem State.configureSdu_reposted (s : State) (first : Bool) :
    Reposted s.params.vehicleMax.toNat s.drc (s.configureSdu first).drc := by
  have drc : s.remapButtons.drc = s.drc := by simp
  have params : s.remapButtons.params = s.params := by simp
  cases first with
  | true =>
    rw [State.configureSdu_first]
    generalize s.remapButtons = m at *
    exact .examineDoors (by rw [params]) (drc ▸ .refl)
  | false =>
    rw [State.configureSdu_later, drc]
    exact .refl

theorem mem_unlocked {d : Sdu} {i : Fin 8} : i ∈ d.unlocked ↔ d.locked[i] = false := by
  simp [Sdu.unlocked, allDoors]

theorem unlocked_length (d : Sdu) : d.unlocked.length ≤ 8 :=
  (List.length_filter_le _ _).trans (by simp [allDoors])

theorem unlocked_eq_nil {d : Sdu} (h : ∀ i : Fin 8, d.locked[i] = true) : d.unlocked = [] :=
  List.eq_nil_iff_forall_not_mem.mpr fun i hi => by simp [mem_unlocked, h i] at hi

theorem State.examineDoors_locked (h : s.sdu.unlocked = []) : s.examineDoors = s := if_pos h

theorem State.examineDoors_unlocked (h : s.sdu.unlocked ≠ []) : s.examineDoors = s.enterUnsafe s.sdu.unlocked :=
  if_neg h

/-- R133: with every door locked, or at a later CONFIGURE, the buttons alone are re-mapped. -/
theorem State.configureSdu_calm {first : Bool} (calm : first = false ∨ ∀ i : Fin 8, s.sdu.locked[i] = true) :
    s.configureSdu first = s.remapButtons := by
  cases first with
  | false => exact s.configureSdu_later
  | true =>
    obtain ⟨sdu, -⟩ := s.remapButtons_spec
    have locked : s.remapButtons.sdu.unlocked = [] := by
      rw [sdu]
      exact unlocked_eq_nil (calm.resolve_left nofun)
    rw [State.configureSdu_first, State.examineDoors_locked locked]

/-- R150: with a door not locked the first CONFIGURE finds the doors unsafe. -/
theorem State.configureSdu_unsafe (unlocked : ∃ i : Fin 8, s.sdu.locked[i] = false) :
    s.configureSdu true = s.remapButtons.enterUnsafe s.sdu.unlocked := by
  obtain ⟨sdu, -⟩ := s.remapButtons_spec
  rw [State.configureSdu_first]
  generalize s.remapButtons = m at *
  have same : m.sdu.unlocked = s.sdu.unlocked := by
    rw [sdu]
    rfl
  obtain ⟨i, hi⟩ := unlocked
  have found : m.sdu.unlocked ≠ [] := by
    rw [same]
    exact List.ne_nil_of_mem (mem_unlocked.mpr hi)
  rw [State.examineDoors_unlocked found, same]

/-- What the doors' part leaves, and the levels and timers of the buttons (R130, R131, R133). -/
structure DoorsTaken (s m : State) : Prop where
  sdu      : m.sdu = { s.sdu with
    buttons := m.sdu.buttons, door := m.sdu.door, closeTimer := m.sdu.closeTimer, outputs := m.sdu.outputs }
  buttons  : ∀ i : Fin 16, m.sdu.buttons[i] = s.sdu.buttons[i].remapped s.now (mapping s.params i).isSome
  inactive : ∀ i : Fin 16, s.sdu.buttons[i].stuck = true → (mapping s.params i).isSome = false →
    Inactive .buttonStuck i.val m.clp.faults
  table    : m.drc.table = { s.drc.table with doors := m.drc.table.doors }

theorem State.remapButtons_taken (s : State) : DoorsTaken s s.remapButtons := by
  obtain ⟨sdu, buttons, -, -, clears⟩ := s.remapButtons_spec
  have drc : s.remapButtons.drc = s.drc := by simp
  generalize s.remapButtons = m at *
  exact ⟨by rw [sdu], buttons, clears, by rw [drc]⟩

theorem State.configureSdu_taken (empty : s.drc.table.doors = none) (first : Bool) :
    DoorsTaken s (s.configureSdu first) := by
  have remapped := s.remapButtons_taken
  cases first with
  | false =>
    rw [State.configureSdu_later]
    exact remapped
  | true =>
    have drc : s.remapButtons.drc = s.drc := by simp
    rw [State.configureSdu_first]
    generalize s.remapButtons = m at *
    by_cases locked : m.sdu.unlocked = []
    · rw [State.examineDoors_locked locked]
      exact remapped
    · have enters := State.enterUnsafe_enters (s := m) (by rw [drc, empty]) m.sdu.unlocked
      rw [State.examineDoors_unlocked locked]
      generalize m.enterUnsafe m.sdu.unlocked = n at *
      refine ⟨?_, fun i => ?_, fun i stuck unmapped => ?_, ?_⟩
      · rw [enters.sdu, remapped.sdu]
      · rw [enters.sdu]
        exact remapped.buttons i
      · exact enters.faults.inactive (by simp) (remapped.inactive i stuck unmapped)
      · rw [enters.table, drc]

/-- R133, R150, R151: what the first CONFIGURE leaves of the doors that it finds not locked. -/
theorem State.configureSdu_finds (empty : s.drc.table.doors = none) (unlocked : ∃ i : Fin 8, s.sdu.locked[i] = false) :
    (s.configureSdu true).sdu.door = (if s.sdu.bypass then .bypassed else .unsafe_) ∧
    (s.configureSdu true).drc.table.doors = some (if s.sdu.bypass then
      internalEntry .ceiling s.params.bypassCeil.toNat reasonBypass else internalEntry .hold 0 reasonDoorHold) ∧
    (s.clp.faults.length < 23 → ∀ d : Fin 8, s.sdu.locked[d] = false →
      Latched .doorUnlocked d.val (s.configureSdu true)) := by
  obtain ⟨sdu, -, -, length, -⟩ := s.remapButtons_spec
  have drc : s.remapButtons.drc = s.drc := by simp
  have params : s.remapButtons.params = s.params := by simp
  rw [State.configureSdu_unsafe unlocked]
  generalize s.remapButtons = m at *
  have bypass : m.sdu.bypass = s.sdu.bypass := by rw [sdu]
  have enters := State.enterUnsafe_enters (s := m) (by rw [drc, empty]) s.sdu.unlocked
  generalize m.enterUnsafe s.sdu.unlocked = n at *
  refine ⟨by rw [enters.door, bypass], by rw [enters.table, bypass, params], fun room d hd => ?_⟩
  refine enters.latched ?_ d (mem_unlocked.mpr hd)
  have := unlocked_length s.sdu
  omega

end Sys2Proof.Machine
end

section
/-! O59: CONFIGURE as one event, and the obligation (R184, R185). -/

namespace Sys2Proof.Machine

variable {s : State} {p : Params}

/-! ## The record in force -/

/-- R184: the door bits of an UNUSED button are stored as 0. -/
theorem mappingOf_isSome_iff (b : Byte) : (mappingOf b).isSome = true ↔ 64 ≤ b.toNat := by
  unfold mappingOf
  dsimp only
  split
  · next unused => simp; omega
  · next alight => simp; omega
  · next board => simp; omega
  · next used _ _ =>
    have := Nat.pos_of_ne_zero used
    simp
    omega

theorem storedMapByte_eq : storedMapByte = fun b : Byte => if b.toNat < 64 then 0 else b := by
  funext b
  have used := mappingOf_isSome_iff b
  unfold storedMapByte
  by_cases unused : b.toNat < 64
  · have none : (mappingOf b).isNone = true := by
      rw [Option.isNone_iff_eq_none, ← Option.not_isSome_iff_eq_none, used]
      omega
    rw [if_pos none, if_pos unused]
  · have some : ¬ (mappingOf b).isNone = true := by
      rw [Option.isNone_iff_eq_none, ← Option.not_isSome_iff_eq_none, used]
      omega
    rw [if_neg some, if_neg unused]

theorem storedParams_eq (p : Params) :
    storedParams p = { p with buttonMap := p.buttonMap.map fun b => if b.toNat < 64 then 0 else b } := by
  rw [storedParams, storedMapByte_eq]

theorem mapping_stored (p : Params) (i : Fin 16) :
    (mapping (storedParams p) i).isSome = true ↔ 64 ≤ p.buttonMap[i].toNat := by
  have byte : (storedParams p).buttonMap[i] = if p.buttonMap[i].toNat < 64 then 0 else p.buttonMap[i] := by
    rw [storedParams_eq]
    exact Vector.getElem_map ..
  rw [mapping, mappingOf_isSome_iff, byte]
  split
  · next unused =>
    simp
    exact unused
  · rfl

/-! ## The drive's part of the event -/

/-- R185: the new record in force, and the drive's part done. -/
def State.configuring (p : Params) (s : State) : State :=
  State.configureDrc (!s.configured) { s with params := storedParams p, configured := true }

theorem State.takeConfigure_eq (p : Params) (s : State) :
    s.takeConfigure p = ((s.configuring p).configureSdu (!s.configured)).settle := rfl

theorem State.configuring_frame (p : Params) (s : State) :
    (s.configuring p).now = s.now ∧ (s.configuring p).amu = s.amu ∧ (s.configuring p).sdu = s.sdu ∧
    (s.configuring p).tnu = s.tnu ∧ (s.configuring p).params = storedParams p ∧
    (s.configuring p).clp.faults = s.clp.faults ∧ (s.configuring p).replies = s.replies := by
  obtain ⟨now, -, -, amu, -, -, sdu, tnu, params, -⟩ :=
    State.configureDrc_frame { s with params := storedParams p, configured := true } (!s.configured)
  obtain ⟨faults, replies⟩ :=
    State.configureDrc_clp { s with params := storedParams p, configured := true } (!s.configured)
  exact ⟨now, amu, sdu, tnu, params, faults, replies⟩

/-- A REVERSE entry as an internal owner posts it. -/
def ReverseSound (s : State) : Prop :=
  ∀ e, s.drc.table.reverse = some e → e.start = none ∧ e.stop = none ∧ e.phase = .active

theorem State.configuring_table (entry : ReverseSound s) : (s.configuring p).drc.table = { s.drc.table with
    reverse := s.drc.table.reverse.map fun _ => internalEntry .ceiling p.reverseCeil.toNat reasonReversing } :=
  State.configureDrc_table (s := { s with params := storedParams p, configured := true }) (!s.configured) entry

theorem State.configuring_empty (entry : ReverseSound s) (empty : s.drc.table.doors = none) :
    (s.configuring p).drc.table.doors = none := by
  rw [State.configuring_table entry]
  exact empty

/-- R39: a later CONFIGURE leaves the drive, but for what its entries tell. -/
theorem State.configuring_later (configured : s.configured = true) :
    (s.configuring p).drc.besidePosts = s.drc.besidePosts ∧ (s.configuring p).drc.u = s.drc.u := by
  rw [State.configuring, configured]
  exact ⟨State.entryReposted_besidePosts _, State.entryReposted_u _⟩

/-- R39: the first CONFIGURE trips the drive. -/
theorem State.configuring_first (first : s.configured = false) :
    (s.configuring p).drc.driveState = .tripped ∧ (s.configuring p).drc.tripReason = some .configured ∧
    (s.configuring p).drc.u = -100 ∧ (s.configuring p).drc.buffer = -100 ∧ (s.configuring p).drc.resetCount = 0 ∧
    (s.configuring p).drc.loop = s.drc.loop := by
  have beside := State.entryReposted_besidePosts { s with params := storedParams p, configured := true }
  rw [State.configuring, first]
  exact ⟨rfl, rfl, rfl, rfl, rfl, (congrArg Drc.loop beside :)⟩

theorem State.configuring_warnVigilance (p : Params) (s : State) :
    (s.configuring p).drc.warnVigilance = s.drc.warnVigilance := by
  have beside := State.entryReposted_besidePosts { s with params := storedParams p, configured := true }
  have same := (congrArg Drc.warnVigilance beside :)
  rw [State.configuring]
  cases s.configured with
  | true => exact same
  | false => exact same

/-! ## The whole event -/

/-- The settling at the end of an event leaves the drive but for the vigilance timer and its warning. -/
theorem State.settle_drive (m : State) :
    m.settle.drc.table = m.drc.table ∧ m.settle.drc.vCeil = m.drc.vCeil ∧ m.settle.drc.vSup = m.drc.vSup ∧
    m.settle.drc.driveState = m.drc.driveState ∧ m.settle.drc.tripReason = m.drc.tripReason ∧
    m.settle.drc.u = m.drc.u ∧ m.settle.drc.buffer = m.drc.buffer ∧ m.settle.drc.resetCount = m.drc.resetCount ∧
    m.settle.drc.loop = m.drc.loop := by
  have drive := m.settle_drc
  exact ⟨(congrArg Drc.table drive :), (congrArg Drc.vCeil drive :), (congrArg Drc.vSup drive :),
    (congrArg Drc.driveState drive :), (congrArg Drc.tripReason drive :), (congrArg Drc.u drive :),
    (congrArg Drc.buffer drive :), (congrArg Drc.resetCount drive :), (congrArg Drc.loop drive :)⟩

theorem State.takeConfigure_sdu_eq (p : Params) (s : State) :
    (s.takeConfigure p).sdu = ((s.configuring p).configureSdu (!s.configured)).sdu := by
  rw [State.takeConfigure_eq]
  simp

theorem State.takeConfigure_faults (p : Params) (s : State) :
    (s.takeConfigure p).clp.faults = ((s.configuring p).configureSdu (!s.configured)).clp.faults := by
  rw [State.takeConfigure_eq]
  exact (State.settle_spec _).2.2.2.1

theorem State.takeConfigure_amu (p : Params) (s : State) : (s.takeConfigure p).amu = { s.amu with
    a := { s.amu.a with plausTimer := (s.takeConfigure p).amu.a.plausTimer }
    b := { s.amu.b with plausTimer := (s.takeConfigure p).amu.b.plausTimer } } := by
  obtain ⟨-, amu, -⟩ := s.configuring_frame p
  have same : ((s.configuring p).configureSdu (!s.configured)).amu = s.amu := by simp [amu]
  rw [State.takeConfigure_eq]
  generalize (s.configuring p).configureSdu (!s.configured) = m at same
  rw [← same]
  exact m.settle_axles

/-- R31, R34: the ceilings, with the new vehicle maximum. -/
theorem State.takeConfigure_ceilings (p : Params) (s : State) :
    (s.takeConfigure p).drc.vCeil =
      effectiveCeiling p.vehicleMax.toNat (s.takeConfigure p).drc.table.entries ∧
    (s.takeConfigure p).drc.vCeil ≤ (s.takeConfigure p).drc.vSup ∧ s.drc.vSup ≤ (s.takeConfigure p).drc.vSup := by
  obtain ⟨-, -, -, -, params, -⟩ := s.configuring_frame p
  obtain ⟨ceiling, supervised, rises⟩ :=
    State.configureDrc_ceilings { s with params := storedParams p, configured := true } (!s.configured)
  have reposted := (s.configuring p).configureSdu_reposted (!s.configured)
  have vehicle : (storedParams p).vehicleMax = p.vehicleMax := rfl
  rw [params, vehicle] at reposted
  obtain ⟨ceiling', supervised', rises'⟩ := reposted.ceilings ⟨ceiling, supervised⟩
  rw [State.takeConfigure_eq]
  generalize (s.configuring p).configureSdu (!s.configured) = m at *
  obtain ⟨table, vCeil, vSup, -⟩ := m.settle_drive
  rw [table, vCeil, vSup]
  exact ⟨ceiling', supervised', rises.trans rises'⟩

/-- R185: the table, the DOORS entry aside. -/
theorem State.takeConfigure_table (entry : ReverseSound s) (empty : s.drc.table.doors = none) :
    (s.takeConfigure p).drc.table = { s.drc.table with
      reverse := s.drc.table.reverse.map fun _ => internalEntry .ceiling p.reverseCeil.toNat reasonReversing
      doors := ((s.configuring p).configureSdu (!s.configured)).drc.table.doors } := by
  have taken := State.configureSdu_taken (State.configuring_empty (p := p) entry empty) (!s.configured)
  rw [State.takeConfigure_eq]
  generalize (s.configuring p).configureSdu (!s.configured) = m at *
  obtain ⟨table, -⟩ := m.settle_drive
  rw [table, taken.table, State.configuring_table entry]

/-- R39: what a later CONFIGURE leaves of the drive. -/
theorem State.takeConfigure_later (configured : s.configured = true) :
    (s.takeConfigure p).drc.driveState = s.drc.driveState ∧ (s.takeConfigure p).drc.u = s.drc.u ∧
    (s.takeConfigure p).drc.tripReason = s.drc.tripReason ∧ (s.takeConfigure p).drc.loop = s.drc.loop := by
  obtain ⟨beside, u⟩ := State.configuring_later (p := p) configured
  have calm : ((s.configuring p).configureSdu (!s.configured)).drc = (s.configuring p).drc := by
    rw [configured, Bool.not_true, State.configureSdu_later]
    simp
  rw [State.takeConfigure_eq]
  generalize (s.configuring p).configureSdu (!s.configured) = m at *
  generalize s.configuring p = k at *
  obtain ⟨-, -, -, driveState, tripReason, u', -, -, loop⟩ := m.settle_drive
  rw [driveState, tripReason, u', loop, calm]
  exact ⟨(congrArg Drc.driveState beside :), u, (congrArg Drc.tripReason beside :), (congrArg Drc.loop beside :)⟩

/-- R39: what the first CONFIGURE makes of the drive. -/
theorem State.takeConfigure_first (first : s.configured = false) :
    (s.takeConfigure p).drc.driveState = .tripped ∧ (s.takeConfigure p).drc.tripReason = some .configured ∧
    (s.takeConfigure p).drc.u = -100 ∧ (s.takeConfigure p).drc.buffer = -100 ∧
    (s.takeConfigure p).drc.resetCount = 0 ∧ (s.takeConfigure p).drc.loop = s.drc.loop := by
  obtain ⟨tripped, reason, brake, buffered, reset, kept⟩ := State.configuring_first (p := p) first
  have reposted := (s.configuring p).configureSdu_reposted (!s.configured)
  have beside := reposted.besidePosts
  obtain ⟨brake', buffered'⟩ := reposted.brakes (by rw [brake]; decide)
  rw [State.takeConfigure_eq]
  generalize (s.configuring p).configureSdu (!s.configured) = m at *
  generalize s.configuring p = k at *
  obtain ⟨-, -, -, driveState, tripReason, u, buffer, resetCount, loop⟩ := m.settle_drive
  rw [driveState, tripReason, u, buffer, resetCount, loop]
  exact ⟨(congrArg Drc.driveState beside :).trans tripped, (congrArg Drc.tripReason beside :).trans reason,
    brake'.trans brake, buffered'.trans buffered, (congrArg Drc.resetCount beside :).trans reset,
    (congrArg Drc.loop beside :).trans kept⟩

/-- R133: what CONFIGURE leaves and writes of the doors' part. -/
theorem State.takeConfigure_sdu (entry : ReverseSound s) (empty : s.drc.table.doors = none) :
    (s.takeConfigure p).sdu = { s.sdu with
      buttons := (s.takeConfigure p).sdu.buttons, door := (s.takeConfigure p).sdu.door
      closeTimer := (s.takeConfigure p).sdu.closeTimer, outputs := (s.takeConfigure p).sdu.outputs } ∧
    (∀ i : Fin 16, (s.takeConfigure p).sdu.buttons[i] =
      s.sdu.buttons[i].remapped s.now (mapping (storedParams p) i).isSome) ∧
    (∀ i : Fin 16, s.sdu.buttons[i].stuck = true → (mapping (storedParams p) i).isSome = false →
      Inactive .buttonStuck i.val (s.takeConfigure p).clp.faults) := by
  have taken := State.configureSdu_taken (State.configuring_empty (p := p) entry empty) (!s.configured)
  obtain ⟨now, -, sdu, -, params, -⟩ := s.configuring_frame p
  rw [State.takeConfigure_sdu_eq, State.takeConfigure_faults]
  generalize (s.configuring p).configureSdu (!s.configured) = m at *
  obtain ⟨beside, buttons, inactive, -⟩ := taken
  rw [sdu] at beside
  rw [now, params, sdu] at buttons
  rw [params, sdu] at inactive
  exact ⟨beside, buttons, inactive⟩

/-- R133: with every door locked, or at a later CONFIGURE, the doors and their entry stay. -/
theorem State.takeConfigure_calm (entry : ReverseSound s) (empty : s.drc.table.doors = none)
    (calm : s.configured = true ∨ ∀ d : Fin 8, s.sdu.locked[d] = true) :
    (s.takeConfigure p).sdu.door = s.sdu.door ∧ (s.takeConfigure p).drc.table.doors = none := by
  obtain ⟨-, -, sdu, -⟩ := s.configuring_frame p
  have calm : (!s.configured) = false ∨ ∀ d : Fin 8, (s.configuring p).sdu.locked[d] = true := by
    rw [sdu]
    exact calm.imp_left fun configured => by rw [configured]; rfl
  have remapped : (s.configuring p).remapButtons.sdu.door = s.sdu.door := by
    obtain ⟨beside, -⟩ := (s.configuring p).remapButtons_spec
    rw [beside, sdu]
  have drc : (s.configuring p).remapButtons.drc = (s.configuring p).drc := by simp
  have none := State.configuring_empty (p := p) entry empty
  rw [State.takeConfigure_sdu_eq, State.takeConfigure_table entry empty, State.configureSdu_calm calm, drc]
  generalize (s.configuring p).remapButtons = m at remapped
  exact ⟨remapped, none⟩

/-- R133, R150, R151: the doors that the first CONFIGURE finds not locked. -/
theorem State.takeConfigure_unlocked (entry : ReverseSound s) (empty : s.drc.table.doors = none)
    (first : s.configured = false) (unlocked : ∃ d : Fin 8, s.sdu.locked[d] = false) :
    (s.takeConfigure p).sdu.door = (if s.sdu.bypass then .bypassed else .unsafe_) ∧
    (s.takeConfigure p).drc.table.doors = some (if s.sdu.bypass then
      internalEntry .ceiling p.bypassCeil.toNat reasonBypass else internalEntry .hold 0 reasonDoorHold) ∧
    (s.clp.faults.length < 23 → ∀ d : Fin 8, s.sdu.locked[d] = false →
      Latched .doorUnlocked d.val (s.takeConfigure p)) := by
  obtain ⟨-, -, sdu, -, params, faults, -⟩ := s.configuring_frame p
  have finds := State.configureSdu_finds (State.configuring_empty (p := p) entry empty) (by rwa [sdu])
  have bypass : (storedParams p).bypassCeil = p.bypassCeil := rfl
  rw [sdu, params, faults, bypass] at finds
  unfold Latched at finds ⊢
  rw [State.takeConfigure_sdu_eq, State.takeConfigure_table entry empty, State.takeConfigure_faults, first,
    Bool.not_false]
  generalize (s.configuring p).configureSdu true = m at finds
  exact finds

theorem State.takeConfigure_tnu (p : Params) (warning : s.drc.warnVigilance = false) :
    (s.takeConfigure p).tnu = s.tnu := by
  obtain ⟨-, -, -, tnu, -⟩ := s.configuring_frame p
  have beside := ((s.configuring p).configureSdu_reposted (!s.configured)).besidePosts
  have silent : ((s.configuring p).configureSdu (!s.configured)).drc.warnVigilance = false :=
    (congrArg Drc.warnVigilance beside :).trans ((s.configuring_warnVigilance p).trans warning)
  rw [State.takeConfigure_eq, (State.settle_silent silent).1]
  simp [tnu]

theorem State.takeConfigure_replies (p : Params) (s : State) : (s.takeConfigure p).replies = s.replies := by
  obtain ⟨-, -, -, -, -, -, replies⟩ := s.configuring_frame p
  rw [State.takeConfigure_eq, State.settle_replies, State.configureSdu_replies, replies]

/-! ## The obligation -/

/-- R184: an accepted CONFIGURE at the part. -/
theorem State.configure_accepted (good : badField p = none) (door : s.sdu.door = .none)
    (still : s.configured = true → s.amu.atStandstill = true) :
    s.configure p = (s.takeConfigure p, .ok (.configured (s.takeConfigure p).drc.driveState (!s.configured))) := by
  simp only [State.configure, refuseConfigure_none good door still]

/-- R184: an accepted CONFIGURE on the cab link. -/
theorem exec_configure_accepted {t : Nat} {tag : Byte} (ready : LinkReady s) (good : badField p = none)
    (door : s.sdu.door = .none) (still : s.configured = true → s.amu.atStandstill = true) {m : State}
    (taken : (s.atTime t).takeConfigure p = m) :
    exec (.configure t tag p) s = .next { m with clp := { m.clp with outbound := m.clp.outbound ++
      [replyFrame 0x02 tag (.ok (.configured m.drc.driveState (!s.configured)))] } } := by
  have replies := (s.atTime t).takeConfigure_replies p
  have run := State.configure_accepted (s := s.atTime t) (p := p) good door still
  rw [taken] at replies run
  exact exec_replied (i := .configure t tag p) rfl ready run replies

/-- Settles O59: the event is the drive's part, the doors' part and the settling, and each is said by its lemma. -/
theorem configure : Obligations.Configure := by
  unfold Obligations.Configure
  refine ⟨?_, ?_⟩
  · rintro t tag p s bad ready rfl
    change (∀ k, (fieldFails p).findIdx? id = some k → _) ∧ ((fieldFails p).findIdx? id = none → _)
    refine ⟨fun k first => exec_configure_refused ready (refuseConfigure_range first _), fun passes => ?_⟩
    have good : badField p = none := by
      rw [badField_fails, passes]
      rfl
    exact ⟨fun door => exec_configure_refused ready (refuseConfigure_inUse good door),
      fun door configured moving => exec_configure_refused ready (refuseConfigure_moving good door configured moving)⟩
  · rintro t now tag p s ready rfl good door still empty entry
    obtain ⟨-, poweredAt, pending, rtm, lpt, params, configured⟩ := (s.atTime t).takeConfigure_frame p
    obtain ⟨ceiling, supervised, rises⟩ := (s.atTime t).takeConfigure_ceilings p
    have now := ((s.atTime t).takeConfigure_frame p).1
    have amu := (s.atTime t).takeConfigure_amu p
    have table := State.takeConfigure_table (s := s.atTime t) (p := p) entry empty
    obtain ⟨sdu, buttons, inactive⟩ := State.takeConfigure_sdu (s := s.atTime t) (p := p) entry empty
    have later := State.takeConfigure_later (s := s.atTime t) (p := p)
    have first := State.takeConfigure_first (s := s.atTime t) (p := p)
    have calm := State.takeConfigure_calm (s := s.atTime t) (p := p) entry empty
    have unlocked := State.takeConfigure_unlocked (s := s.atTime t) (p := p) entry empty
    have tnu := State.takeConfigure_tnu (s := s.atTime t) p
    generalize taken : (s.atTime t).takeConfigure p = m at *
    refine ⟨_, exec_configure_accepted ready good door still taken, ?_, amu, ceiling, supervised, rises, ?_, ?_, ?_, later,
      first, ?_, ?_, ?_, ?_, ?_, ?_, ?_, ?_, tnu, List.getLast?_concat⟩
    · rw [now, poweredAt, pending, rtm, lpt, params, configured, storedParams_eq]
      rfl
    · rw [table]; rfl
    · rw [table]; rfl
    · rw [table]; rfl
    · rw [sdu]; rfl
    · rw [sdu]; rfl
    · rw [sdu]; rfl
    · rw [sdu]; rfl
    · rw [sdu]; rfl
    · rintro i _ rfl mapped used
      have same : (mapping (storedParams p) i).isSome = mapped := by
        rw [Bool.eq_iff_iff, mapping_stored, used]
      have button := buttons i
      have cleared := inactive i
      rw [same] at button cleared
      exact ⟨button, cleared⟩
    · rintro calmly
      obtain ⟨stays, none⟩ := calm calmly
      exact ⟨stays.trans door, none.trans empty.symm⟩
    · intro isFirst found
      obtain ⟨state, entered, latched⟩ := unlocked isFirst found
      refine ⟨state, entered.trans ?_, latched⟩
      rw [apply_ite some]
      rfl

end Sys2Proof.Machine
end

section
/-! SUPPORT. The Route Manager's plan, its head and its lamps (R74, R81 to R83, R124), said once for each operation. -/

namespace Sys2Proof.Machine

/-! ## The head and the lamps -/

section head
variable {r : Rtm} {h : PlanEntry} {rest : List PlanEntry}

theorem Rtm.headState_nil (plan : r.plan = []) : r.headState = .waiting := by simp only [Rtm.headState, plan]

theorem Rtm.headState_cons (plan : r.plan = h :: rest) : r.headState = h.state := by simp only [Rtm.headState, plan]

theorem Rtm.setHead_cons (plan : r.plan = h :: rest) (st : ExState) :
    r.setHead st = { r with plan := { h with state := st } :: rest } := by
  simp only [Rtm.setHead, plan]

theorem Rtm.selectHead_cons (plan : r.plan = h :: rest) (sel : Selection) :
    r.selectHead sel = { r with plan := { h with selection := sel } :: rest } := by
  simp only [Rtm.selectHead, plan]

end head

/-- R124: the lamps and the half period of the flash are all that `setLamps` writes. -/
theorem Rtm.setLamps_eq (now : Nat) (r : Rtm) : r.setLamps now = { r with
    green := (r.setLamps now).green, amber := (r.setLamps now).amber, red := (r.setLamps now).red
    flashStart := (r.setLamps now).flashStart } := by
  unfold Rtm.setLamps
  (repeat' split) <;> rfl

@[simp] theorem Rtm.setLamps_frame (now : Nat) (r : Rtm) :
    (r.setLamps now).plan = r.plan ∧ (r.setLamps now).context = r.context ∧
    (r.setLamps now).junctions = r.junctions ∧ (r.setLamps now).zone = r.zone ∧
    (r.setLamps now).pendingSel = r.pendingSel := by
  rw [Rtm.setLamps_eq]
  exact ⟨rfl, rfl, rfl, rfl, rfl⟩

/-- R124: the lamps of a head in WAITING, and of an empty plan, are off. -/
theorem Rtm.setLamps_waiting {r : Rtm} (waiting : r.headState = .waiting) (now : Nat) :
    r.setLamps now = { r with green := false, amber := false, red := false, flashStart := none } := by
  simp only [Rtm.setLamps, waiting]

/-- The record of an id depends on the junction table alone. -/
theorem Rtm.record_congr {r r' : Rtm} (junctions : r'.junctions = r.junctions) : r'.record = r.record := by
  unfold Rtm.record
  rw [junctions]

/-! ## A head for the beacon's junction (R80 to R83) -/

section bringing
variable (j : Half) (r : Rtm)

/-- R81: what the first step leaves: a head beyond WAITING for another junction is abandoned. -/
def Rtm.kept : Rtm := if ∃ h ∈ r.plan.head?, h.id ≠ j ∧ h.state ≠ .waiting then r.dropHead else r

/-- R80: the report of the abandoned head. -/
def Rtm.abandoned : List JunctionReport :=
  (r.plan.head?.toList.filter fun h => decide (h.id ≠ j ∧ h.state ≠ .waiting)).map fun h =>
    .abandoned h.id h.selection h.origin h.state j

/-- R82, R83: the plan with a head for J: from its first entry for J on, or behind an ad-hoc entry. -/
def Rtm.sought : List PlanEntry :=
  if ∃ e ∈ r.plan, e.id = j then r.plan.dropWhile fun e => decide (e.id ≠ j)
  else PlanEntry.mk j (r.adhocSelection j) .adhoc .waiting ::
    (if 16 ≤ r.plan.length then r.plan.dropLast else r.plan)

/-- R82: the entries before the first one for J. -/
def Rtm.skipped : List PlanEntry :=
  if ∃ e ∈ r.plan, e.id = j then r.plan.takeWhile fun e => decide (e.id ≠ j) else []

/-- R83: a full plan without an entry for J loses its tail. -/
def Rtm.truncates : List FaultCode :=
  if (∀ e ∈ r.plan, e.id ≠ j) ∧ 16 ≤ r.plan.length then [.routeTruncated] else []

/-- R82: the SKIPPED report, if an entry was skipped. -/
def Rtm.skipReport : List JunctionReport :=
  if r.skipped j = [] then [] else [.skipped ((r.skipped j).map (·.id)) j]

theorem Rtm.insertAdhoc_eq (e : Emit) (missing : ∀ x ∈ r.plan, x.id ≠ j) : r.insertAdhoc j e =
    ({ r with plan := r.sought j }, { e with latches := e.latches ++ r.truncates j }) := by
  have none : ¬∃ x ∈ r.plan, x.id = j := fun ⟨x, mem, eq⟩ => missing x mem eq
  simp only [Rtm.insertAdhoc, Rtm.sought, Rtm.truncates, if_neg none, and_iff_right missing]
  by_cases full : 16 ≤ r.plan.length
  · rw [if_pos full, if_pos full]
    exact if_pos full
  · rw [if_neg full, if_neg full, List.append_nil]
    exact if_neg full

/-- The position at which the search finds J splits the plan as its first entry for J does. -/
theorem findIdx?_splits {l : List PlanEntry} {n : Nat} (found : l.findIdx? (fun p => p.id = j) = some n) :
    (∃ e ∈ l, e.id = j) ∧ l.takeWhile (fun e => decide (e.id ≠ j)) = l.take n ∧
      l.dropWhile (fun e => decide (e.id ≠ j)) = l.drop n := by
  obtain ⟨-, rfl⟩ := List.findIdx?_eq_some_iff_findIdx_eq.mp found
  refine ⟨?_, ?_, ?_⟩
  · have any := List.findIdx?_isSome (xs := l) (p := fun p => decide (p.id = j))
    rw [found] at any
    simpa using any.symm
  · simp [List.takeWhile_eq_take_findIdx_not]
  · simp [List.dropWhile_eq_drop_findIdx_not]

/-- R82, R83: the search for J, from a head in WAITING. -/
theorem Rtm.seek_eq (e : Emit) : r.seek j e = ({ r with plan := r.sought j }, { e with
    latches := e.latches ++ r.truncates j, reports := e.reports ++ r.skipReport j }) := by
  cases found : r.plan.findIdx? (fun p => p.id = j) with
  | none =>
    have missing : ∀ x ∈ r.plan, x.id ≠ j := by simpa [List.findIdx?_eq_none_iff] using found
    have none : ¬∃ x ∈ r.plan, x.id = j := fun ⟨x, mem, eq⟩ => missing x mem eq
    simp only [Rtm.seek, found, Rtm.insertAdhoc_eq j r e missing, Rtm.skipReport, Rtm.skipped, if_neg none,
      if_true, List.append_nil]
  | some n =>
    obtain ⟨member, before, onward⟩ := findIdx?_splits j found
    have listed : ¬((∀ x ∈ r.plan, x.id ≠ j) ∧ 16 ≤ r.plan.length) := fun h =>
      let ⟨x, mem, eq⟩ := member
      h.1 x mem eq
    simp only [Rtm.sought, Rtm.truncates, Rtm.skipReport, Rtm.skipped, if_pos member, if_neg listed, before, onward,
      List.append_nil]
    cases n with
    | zero => simp [Rtm.seek, found]
    | succ n =>
      have some : r.plan.take (n + 1) ≠ [] := by
        obtain ⟨x, mem, -⟩ := member
        simp [List.ne_nil_of_mem mem]
      simp only [Rtm.seek, found, if_neg some]

/-- R81: the head is brought to J in two steps, each with its reports. -/
theorem Rtm.bringHead_eq : r.bringHead j = ({ r.kept j with plan := (r.kept j).sought j },
    { latches := (r.kept j).truncates j, reports := r.abandoned j ++ (r.kept j).skipReport j
      lift := decide (∃ h ∈ r.plan.head?, h.id ≠ j ∧ h.state ≠ .waiting), post := none, warn := false }) := by
  have run : r.bringHead j = (r.kept j).seek j { Emit.nothing with
      reports := r.abandoned j, lift := decide (∃ h ∈ r.plan.head?, h.id ≠ j ∧ h.state ≠ .waiting) } := by
    unfold Rtm.bringHead Rtm.kept Rtm.abandoned
    cases plan : r.plan with
    | nil => simp [Emit.nothing]
    | cons h rest =>
      by_cases mine : h.id = j
      · simp [mine, Rtm.seek, plan, List.findIdx?_cons, Emit.nothing]
      · by_cases calm : h.state = .waiting
        · simp [mine, calm, Emit.nothing]
        · simp [mine, calm, Emit.nothing]
  rw [run, Rtm.seek_eq]
  rfl

/-- R81: the plan's head is then for J. -/
theorem Rtm.sought_cons : ∃ h rest, r.sought j = h :: rest ∧ h.id = j := by
  unfold Rtm.sought
  split
  · next member =>
    cases split : r.plan.dropWhile fun e => decide (e.id ≠ j) with
    | nil =>
      obtain ⟨x, mem, eq⟩ := member
      have all := List.dropWhile_eq_nil_iff.mp split x mem
      simp [eq] at all
    | cons h rest =>
      have head := List.head?_dropWhile_not (fun e : PlanEntry => decide (e.id ≠ j)) r.plan
      rw [split] at head
      exact ⟨h, rest, rfl, by simpa using head⟩
  · exact ⟨_, _, rfl, rfl⟩

end bringing
end Sys2Proof.Machine
end

section
/-! SUPPORT. The ROUTE slot of the restriction table: what writes it, and the operations of the other blocks that leave it
as it stands. -/

namespace Sys2Proof.Machine

variable (s : State)

/-! ## Posts and lifts -/

/-- R21: a post fills its slot. -/
theorem State.post_fills (slot : Slot) (kind : Kind) (ceiling : Nat) (reason : Byte) :
    ((s.post slot kind ceiling reason).drc.table.get slot).isSome = true := by
  unfold State.post
  simp only [State.writeSlot_eq, State.clip_eq]
  split
  · exact congrArg Option.isSome (Table.get_set ..)
  · next old held =>
    have written := congrArg Option.isSome (Table.get_set s.drc.table slot (some (internalEntry kind ceiling reason)))
    (repeat' split)
    · rw [held]; rfl
    · exact written
    · exact written

/-- R21: a post leaves the other slots. -/
theorem State.post_others {slot other : Slot} (apart : other ≠ slot) (kind : Kind) (ceiling : Nat) (reason : Byte) :
    (s.post slot kind ceiling reason).drc.table.get other = s.drc.table.get other := by
  rcases s.post_drc slot kind ceiling reason with e | e <;> rw [e]
  exact Table.get_set_other _ _ _ _ apart

@[simp] theorem State.post_doors_route (kind : Kind) (ceiling : Nat) (reason : Byte) :
    (s.post .doors kind ceiling reason).drc.table.route = s.drc.table.route :=
  s.post_others (slot := .doors) (other := .route) nofun kind ceiling reason

@[simp] theorem State.post_reverse_route (kind : Kind) (ceiling : Nat) (reason : Byte) :
    (s.post .reverse kind ceiling reason).drc.table.route = s.drc.table.route :=
  s.post_others (slot := .reverse) (other := .route) nofun kind ceiling reason

@[simp] theorem State.lift_doors_route : (s.lift .doors).drc.table.route = s.drc.table.route := by
  rw [State.lift_table]; rfl

@[simp] theorem State.lift_reverse_route : (s.lift .reverse).drc.table.route = s.drc.table.route := by
  rw [State.lift_table]; rfl

/-- R126: an event of the RTM fills the ROUTE slot by its post, or else empties it by its lift. -/
theorem State.handOn_route (e : Emit) : (s.handOn e).drc.table.route.isSome =
    (e.post.isSome || !e.lift && s.drc.table.route.isSome) := by
  obtain ⟨latches, reports, lift, post, warn⟩ := e
  have warned : ∀ m : State, (if warn then m.requestJunctionWarning else m).drc = m.drc := fun m => by
    split <;> simp
  simp only [State.handOn, warned]
  cases post with
  | some p => exact State.post_fills _ .route ..
  | none =>
    cases lift with
    | true => simp [State.lift_table, Table.set]
    | false => simp

/-! ## The doors (Chapter 8) and the reverser (R49) -/

@[simp] theorem State.postHold_route : s.postHold.drc.table.route = s.drc.table.route := s.post_doors_route ..

@[simp] theorem State.postBypass_route : s.postBypass.drc.table.route = s.drc.table.route := s.post_doors_route ..

@[simp] theorem State.enterBypassed_route : s.enterBypassed.drc.table.route = s.drc.table.route := by
  simp [State.enterBypassed]

@[simp] theorem State.enterUnsafe_route (doors : List (Fin 8)) :
    (s.enterUnsafe doors).drc.table.route = s.drc.table.route := by
  simp only [State.enterUnsafe]
  split <;> simp

@[simp] theorem State.completeClosing_route : s.completeClosing.drc.table.route = s.drc.table.route := by
  simp only [State.completeClosing]
  split <;> simp

@[simp] theorem State.returnToNone_route : s.returnToNone.drc.table.route = s.drc.table.route := by
  simp [State.returnToNone]

@[simp] theorem State.releaseRequest_route (side : Side) :
    (s.releaseRequest side).drc.table.route = s.drc.table.route := by
  simp only [State.releaseRequest, State.release]
  (repeat' split) <;> simp

@[simp] theorem State.closeRequest_route : s.closeRequest.drc.table.route = s.drc.table.route := by
  simp only [State.closeRequest]
  (repeat' split) <;> simp

@[simp] theorem State.doorLocks_route (door : Fin 8) : (s.doorLocks door).drc.table.route = s.drc.table.route := by
  simp only [State.doorLocks]
  (repeat' split) <;> simp

@[simp] theorem State.doorUnlocks_route (door : Fin 8) :
    (s.doorUnlocks door).drc.table.route = s.drc.table.route := by
  simp only [State.doorUnlocks]
  (repeat' split) <;> simp

@[simp] theorem State.doorInput_route (door : Fin 8) (locked : Bool) :
    (s.doorInput door locked).drc.table.route = s.drc.table.route := by
  simp only [State.doorInput]
  (repeat' split) <;> simp

@[simp] theorem State.examineDoors_route : s.examineDoors.drc.table.route = s.drc.table.route := by
  unfold State.examineDoors
  split <;> simp

@[simp] theorem State.bypassOn_route : s.bypassOn.drc.table.route = s.drc.table.route := by
  simp only [State.bypassOn]
  (repeat' split) <;> simp

@[simp] theorem State.bypassOff_route : s.bypassOff.drc.table.route = s.drc.table.route := by
  simp only [State.bypassOff, State.leaveBypassed]
  (repeat' split) <;> simp

theorem State.doorPress_route (b : DoorButton) {act : State → State}
    (acts : ∀ m : State, (act m).drc.table.route = m.drc.table.route) :
    (s.doorPress b act).drc.table.route = s.drc.table.route := by
  rcases s.doorPress_cases b act with e | e | e <;> rw [e]
  exact acts _

@[simp] theorem State.reverseEntry_route (r : Reverser) :
    (s.reverseEntry r).drc.table.route = s.drc.table.route := by
  cases r <;> simp [State.reverseEntry]

@[simp] theorem State.takeReverser_route (r : Reverser) :
    (s.takeReverser r).settle.drc.table.route = s.drc.table.route := by
  have settled := congrArg (·.table.route) (s.takeReverser r).settle_speeds
  have tripped : ∀ m : State, (m.trip .reverser).drc.table.route = m.drc.table.route := fun m =>
    congrArg (·.table.route) (m.trip_speeds .reverser)
  refine Eq.trans settled ?_
  change (s.takeReverser r).drc.table.route = _
  simp only [State.takeReverser]
  (repeat' split) <;> simp [tripped, State.setU]

/-! ## The control interval (R27, R28) -/

@[simp] theorem State.controlInterval_route : s.controlInterval.drc.table.route = s.drc.table.route := by
  by_cases due : s.drc.intervalDue ≤ s.now
  · exact ((State.controlInterval_intervalSpeeds due).table .route).trans (if_neg (by decide))
  · rw [State.controlInterval, if_neg (by simpa [controlDue] using due)]

/-! ## The commands of the cab link -/

theorem linkSlot_apart {b : Byte} {slot : Slot} (link : linkSlot b = some slot) : Slot.route ≠ slot := by
  unfold linkSlot at link
  split at link
  · cases link; nofun
  · cases link

@[simp] theorem State.restrictPost_route (p : RestrictPost) :
    (s.restrictPost p).1.drc.table.route = s.drc.table.route := by
  cases link : linkSlot p.linkId with
  | none => rw [State.restrictPost_badLink link]
  | some slot =>
    simp only [State.restrictPost, link, State.reportEntry_posted]
    split
    · rfl
    · split
      · rfl
      · split
        · rfl
        · exact Table.get_set_other _ _ .route _ (linkSlot_apart link)

@[simp] theorem State.restrictLift_route (owner linkId : Byte) :
    (s.restrictLift owner linkId).1.drc.table.route = s.drc.table.route := by
  rcases Nat.lt_trichotomy owner.toNat 3 with internal | code | unnamed
  · rw [State.restrictLift_internal linkId (Nat.le_of_lt_succ internal)]
  · cases link : linkSlot linkId with
    | none => rw [State.restrictLift_badLink code link]
    | some slot =>
      cases held : s.drc.table.get slot with
      | none => rw [State.restrictLift_empty code link held]
      | some e =>
        rw [State.restrictLift_held code link held]
        exact Table.get_set_other _ _ .route _ (linkSlot_apart link)
  · rw [State.restrictLift_unnamed linkId unnamed]

@[simp] theorem State.configureDrc_route (first : Bool) :
    (s.configureDrc first).drc.table.route = s.drc.table.route := by
  have reposted : s.entryReposted.drc.table.route = s.drc.table.route := by
    unfold State.entryReposted
    split
    · exact State.post_reverse_route ..
    · rfl
  rw [State.configureDrc_eq]
  split <;> exact reposted

@[simp] theorem State.configureSdu_route (first : Bool) :
    (s.configureSdu first).drc.table.route = s.drc.table.route := by
  simp only [State.configureSdu]
  split <;> simp

@[simp] theorem State.takeConfigure_route (p : Params) :
    (s.takeConfigure p).drc.table.route = s.drc.table.route := by
  refine Eq.trans (congrArg (·.table.route) (State.settle_speeds _)) ?_
  exact (State.configureSdu_route ..).trans (State.configureDrc_route ..)

end Sys2Proof.Machine
end

section
/-! SUPPORT. The commands of the junction table and of the route plan at their owner (R70 to R72, R76, R77). -/

namespace Sys2Proof.Machine

/-! ## The junction table (R67) -/

theorem any_id_iff {l : List JunctionRecord} {id : Half} :
    l.any (fun r => r.id = id) = (l.find? fun r => r.id = id).isSome := by
  rw [Bool.eq_iff_iff, List.find?_isSome]
  simp

/-- R71: after a load the slot of its id holds the new record, and every other slot its own. -/
theorem find?_putRecord (j : JunctionRecord) (l : List JunctionRecord) (id : Half) :
    (putRecord j l).find? (fun r => r.id = id) = if id = j.id then some j else l.find? fun r => r.id = id := by
  unfold putRecord
  rw [any_id_iff]
  split
  · next held =>
    have search : (fun r : JunctionRecord => decide (r.id = id)) ∘ (fun r => if r.id = j.id then j else r) =
        fun r => decide (r.id = id) := by
      funext r
      by_cases mine : r.id = j.id
      · simp [mine]
      · simp [mine]
    rw [List.find?_map, search]
    by_cases same : id = j.id
    · subst same
      obtain ⟨r, found⟩ := Option.isSome_iff_exists.mp held
      have mine : r.id = j.id := by simpa using List.find?_some found
      simp [found, mine]
    · cases found : l.find? fun r => r.id = id with
      | none => simp [same]
      | some r =>
        have mine : r.id = id := by simpa using List.find?_some found
        simp [mine, same]
  · next missing =>
    have none : l.find? (fun r => r.id = j.id) = .none := by simpa using missing
    rw [List.find?_append]
    by_cases same : id = j.id
    · simp [same, none]
    · have other : j.id ≠ id := fun h => same h.symm
      simp [same, other]

/-- R71: a load takes a new slot for a new id alone. -/
theorem length_putRecord (j : JunctionRecord) (l : List JunctionRecord) :
    (putRecord j l).length = l.length + if l.find? (fun r => r.id = j.id) = none then 1 else 0 := by
  unfold putRecord
  rw [any_id_iff]
  cases l.find? fun r => r.id = j.id with
  | none => simp
  | some r => simp

/-- R67: the ids of the table after a load. -/
theorem ids_putRecord (j : JunctionRecord) (l : List JunctionRecord) :
    (putRecord j l).map (·.id) =
      if (l.find? fun r => r.id = j.id).isSome then l.map (·.id) else l.map (·.id) ++ [j.id] := by
  unfold putRecord
  rw [any_id_iff]
  split
  · rw [List.map_map]
    refine List.map_congr_left fun r _ => ?_
    by_cases mine : r.id = j.id
    · simp [mine]
    · simp [mine]
  · rw [List.map_append]
    rfl

/-- R72: a drop empties the slot of its id alone. -/
theorem find?_dropped (l : List JunctionRecord) (id x : Half) :
    (l.filter fun r => r.id ≠ id).find? (fun r => r.id = x) = if x = id then none else l.find? fun r => r.id = x := by
  rw [List.find?_filter]
  by_cases same : x = id
  · rw [if_pos same, List.find?_eq_none]
    simp [same]
  · rw [if_neg same]
    refine congrArg (List.find? · l) (funext fun r => ?_)
    by_cases here : r.id = x
    · simp [here, same]
    · simp [here]

/-! ## JUNCTION_LOAD (R70, R71) -/

variable {s : State}

section load
variable {p : JunctionLoad} {j : JunctionRecord}

theorem State.junctionLoad_refused {n : Byte} (bad : checkLoad p = .error n) : s.junctionLoad p = (s, .range n) := by
  simp only [State.junctionLoad, bad]

theorem State.junctionLoad_inUse (good : checkLoad p = .ok j) (used : s.rtm.inUse j.id = true) :
    s.junctionLoad p = (s, .plain .inUse) := by
  simp only [State.junctionLoad, good, used, if_true]

theorem State.junctionLoad_full (good : checkLoad p = .ok j) (free : s.rtm.inUse j.id = false)
    (new : s.rtm.record j.id = none) (full : 64 ≤ s.rtm.junctions.length) :
    s.junctionLoad p = (s, .plain .full) := by
  have fills : (!(s.rtm.record j.id).isSome) = true ∧ 64 ≤ s.rtm.junctions.length := ⟨by rw [new]; rfl, full⟩
  simp only [State.junctionLoad, good, free]
  exact if_pos fills

theorem State.junctionLoad_loaded (good : checkLoad p = .ok j) (free : s.rtm.inUse j.id = false)
    (room : s.rtm.record j.id ≠ none ∨ s.rtm.junctions.length < 64) : s.junctionLoad p =
      ({ s with rtm := { s.rtm with
          junctions := putRecord j s.rtm.junctions, plan := alignPlan j s.rtm.plan } },
        .ok (.junctionLoaded (s.rtm.record j.id).isSome (putRecord j s.rtm.junctions).length
          (s.rtm.plan.countP (misaligned j)))) := by
  have fits : ¬((!(s.rtm.record j.id).isSome) = true ∧ 64 ≤ s.rtm.junctions.length) := by
    rintro ⟨new, full⟩
    rcases room with held | room
    · simp [held] at new
    · omega
  simp only [State.junctionLoad, good, free]
  exact if_neg fits

/-- R70, R71: a JUNCTION_LOAD changes nothing, or loads a record that is not in use and has room. -/
theorem State.junctionLoad_cases (p : JunctionLoad) (s : State) : (s.junctionLoad p).1 = s ∨
    ∃ j, s.rtm.inUse j.id = false ∧ (s.rtm.record j.id ≠ none ∨ s.rtm.junctions.length < 64) ∧
      (s.junctionLoad p).1 = { s with rtm := { s.rtm with
        junctions := putRecord j s.rtm.junctions, plan := alignPlan j s.rtm.plan } } := by
  cases checked : checkLoad p with
  | error n => rw [State.junctionLoad_refused checked]; exact .inl rfl
  | ok j =>
    cases used : s.rtm.inUse j.id with
    | true => rw [State.junctionLoad_inUse checked used]; exact .inl rfl
    | false =>
      by_cases room : s.rtm.record j.id ≠ none ∨ s.rtm.junctions.length < 64
      · exact .inr ⟨j, used, room, congrArg Prod.fst (State.junctionLoad_loaded checked used room)⟩
      · obtain ⟨new, full⟩ := not_or.mp room
        rw [State.junctionLoad_full checked used (not_not.mp new) (Nat.not_lt.mp full)]
        exact .inl rfl

end load

/-! ## JUNCTION_DROP (R72) -/

section drop
variable {id : Half}

theorem State.junctionDrop_badId (bad : badJunctionId id = true) :
    s.junctionDrop id = (s, .rangeUnnamed 0x05 1) := if_pos bad

theorem State.junctionDrop_inUse (good : badJunctionId id = false) (used : s.rtm.inUse id = true) :
    s.junctionDrop id = (s, .plain .inUse) := by
  simp [State.junctionDrop, good, used]

theorem State.junctionDrop_missing (good : badJunctionId id = false) (free : s.rtm.inUse id = false)
    (missing : s.rtm.record id = none) : s.junctionDrop id = (s, .plain .notFound) := by
  simp [State.junctionDrop, good, free, missing]

theorem State.junctionDrop_dropped (good : badJunctionId id = false) (free : s.rtm.inUse id = false)
    (held : s.rtm.record id ≠ none) : s.junctionDrop id =
      ({ s with rtm := { s.rtm with junctions := s.rtm.junctions.filter fun r => r.id ≠ id } },
        .ok (.junctionCount (s.rtm.junctions.filter fun r => r.id ≠ id).length)) := by
  have held : ¬(s.rtm.record id).isNone = true := by simpa using held
  simp only [State.junctionDrop, good, free, if_neg held, Bool.false_eq_true, if_false]

/-- R72: a JUNCTION_DROP changes nothing, or empties the slot of an id that is not in use. -/
theorem State.junctionDrop_cases (id : Half) (s : State) : (s.junctionDrop id).1 = s ∨
    s.rtm.inUse id = false ∧ (s.junctionDrop id).1 =
      { s with rtm := { s.rtm with junctions := s.rtm.junctions.filter fun r => r.id ≠ id } } := by
  cases bad : badJunctionId id with
  | true => rw [State.junctionDrop_badId bad]; exact .inl rfl
  | false =>
    cases used : s.rtm.inUse id with
    | true => rw [State.junctionDrop_inUse bad used]; exact .inl rfl
    | false =>
      by_cases missing : s.rtm.record id = none
      · rw [State.junctionDrop_missing bad used missing]; exact .inl rfl
      · exact .inr ⟨rfl, congrArg Prod.fst (State.junctionDrop_dropped bad used missing)⟩

end drop

/-! ## ROUTE_APPEND and ROUTE_CLEAR (R76, R77) -/

section append
variable {id : Half} {code : Byte} {sel : Selection}

theorem selectionOf_eq_some : selectionOf code = some sel ↔
    (code.toNat = 0 ∧ sel = .left ∨ code.toNat = 1 ∧ sel = .straight ∨ code.toNat = 2 ∧ sel = .right) := by
  unfold selectionOf
  generalize code.toNat = n
  match n with
  | 0 | 1 | 2 | n + 3 => simp [eq_comm]

theorem selectionOf_none (high : 2 < code.toNat) : selectionOf code = none := by
  refine Option.eq_none_iff_forall_ne_some.mpr fun sel held => ?_
  have := selectionOf_eq_some.mp held
  omega

theorem Rtm.lacks_iff (r : Rtm) : r.lacks id sel = true ↔ ∃ j, r.record id = some j ∧ j.route sel = none := by
  unfold Rtm.lacks
  split
  · next j held => simp [held]
  · next none => simp [none]

theorem Rtm.lacks_false (r : Rtm) : r.lacks id sel = false ↔ ∀ j, r.record id = some j → j.route sel ≠ none := by
  rw [← Bool.not_eq_true, Rtm.lacks_iff]
  simp

theorem State.routeAppend_badId (bad : badJunctionId id = true) : s.routeAppend id code = (s, .range 1) := if_pos bad

theorem State.routeAppend_badSelection (good : badJunctionId id = false) (none : selectionOf code = none) :
    s.routeAppend id code = (s, .range 2) := by
  simp [State.routeAppend, good, none]

theorem State.routeAppend_absent (good : badJunctionId id = false) (named : selectionOf code = some sel)
    (lacks : s.rtm.lacks id sel = true) : s.routeAppend id code = (s, .range 3) := by
  simp [State.routeAppend, good, named, lacks]

theorem State.routeAppend_full (good : badJunctionId id = false) (named : selectionOf code = some sel)
    (has : s.rtm.lacks id sel = false) (full : 16 ≤ s.rtm.plan.length) :
    s.routeAppend id code = (s, .plain .full) := by
  simp only [State.routeAppend, good, named, has]
  exact if_pos full

theorem State.routeAppend_appended (good : badJunctionId id = false) (named : selectionOf code = some sel)
    (has : s.rtm.lacks id sel = false) (room : s.rtm.plan.length < 16) : s.routeAppend id code =
      ({ s with rtm := { s.rtm with plan := s.rtm.plan ++ [⟨id, sel, .plan, .waiting⟩] } },
        .ok (.appended s.rtm.plan.length (s.rtm.plan.length + 1))) := by
  simp only [State.routeAppend, good, named, has]
  exact if_neg (Nat.not_le.mpr room)

/-- R76: a ROUTE_APPEND changes nothing, or adds an entry in WAITING to a plan with room for it. -/
theorem State.routeAppend_cases (id : Half) (code : Byte) (s : State) : (s.routeAppend id code).1 = s ∨
    ∃ sel, s.rtm.plan.length < 16 ∧ (s.routeAppend id code).1 =
      { s with rtm := { s.rtm with plan := s.rtm.plan ++ [⟨id, sel, .plan, .waiting⟩] } } := by
  cases bad : badJunctionId id with
  | true => rw [State.routeAppend_badId bad]; exact .inl rfl
  | false =>
    cases named : selectionOf code with
    | none => rw [State.routeAppend_badSelection bad named]; exact .inl rfl
    | some sel =>
      cases lacks : s.rtm.lacks id sel with
      | true => rw [State.routeAppend_absent bad named lacks]; exact .inl rfl
      | false =>
        by_cases room : s.rtm.plan.length < 16
        · exact .inr ⟨sel, room, congrArg Prod.fst (State.routeAppend_appended bad named lacks room)⟩
        · rw [State.routeAppend_full bad named lacks (Nat.not_lt.mp room)]; exact .inl rfl

/-- R77: a clear leaves a head beyond WAITING alone. -/
theorem keptHead_eq (plan : List PlanEntry) : keptHead plan = plan.head?.toList.filter fun h => h.state ≠ .waiting := by
  cases plan with
  | nil => rfl
  | cons h rest =>
    by_cases waiting : h.state = .waiting
    · simp [keptHead, waiting]
    · simp [keptHead, waiting]

end append
end Sys2Proof.Machine
end

section
/-! SUPPORT. The point selector at the Route Manager (R85, R86, R117). -/

namespace Sys2Proof.Machine

variable {s : State} {h : PlanEntry} {rest : List PlanEntry}

/-- R85: the buttons are no part of the plan. -/
@[simp] theorem Rtm.arm_frame (r : Rtm) (sel : Selection) (v : Bool) :
    (r.arm sel v).plan = r.plan ∧ (r.arm sel v).context = r.context ∧ (r.arm sel v).junctions = r.junctions ∧
    (r.arm sel v).zone = r.zone ∧ (r.arm sel v).pendingSel = r.pendingSel := by
  cases sel <;> exact ⟨rfl, rfl, rfl, rfl, rfl⟩

/-- R86: the press replaces the selection of a head in WAITING, with its report. -/
theorem State.replaceSelection_eq (plan : s.rtm.plan = h :: rest) (sel : Selection) : s.replaceSelection h sel =
    if h.selection = sel then s
    else State.raise (.junction (.selection h.id h.selection sel))
      { s with rtm := { s.rtm with plan := { h with selection := sel } :: rest } } := by
  simp only [State.replaceSelection, Rtm.selectHead_cons plan]
  rfl

/-- R117: the Route Manager after a re-request of the head `h`, in contact with its junction or out of it. -/
def Rtm.reRequested (inContact : Bool) (h : PlanEntry) (rest : List PlanEntry) (c : Context) (pc : PageContext)
    (pages : List Page) (sel : Selection) (r : Rtm) : Rtm :=
  { r with
    plan := { h with selection := sel, state := if inContact then .sending else .contactLost } :: rest
    context := some { c with paging := some (pc.again pages), resume := if inContact then none else some .sending }
    freshDue := true, green := false, amber := inContact, red := !inContact, flashStart := none }

/-- R117, R126: a re-request of a failed head, with its STATE report. -/
theorem State.reRequest_eq {c : Context} {pc : PageContext} (plan : s.rtm.plan = h :: rest)
    (failed : h.state.failed = true) (context : s.rtm.context = some c) (paging : c.paging = some pc)
    (j : JunctionRecord) (sel : Selection) {inContact : Bool} (contact : inContact = decide (s.lpt.contact = some h.id)) :
    s.reRequest h j sel = State.raise (.junction (.state h.id sel h.origin h.state
        (if inContact then .sending else .contactLost) (some (.none, 0, 1, 0)) c.bad
        (distance c.loopMark s.amu.trackMm) none))
      { s with rtm := s.rtm.reRequested inContact h rest c pc (j.pageList sel) sel } := by
  have sending : ExState.sending ≠ h.state := fun same => by rw [← same] at failed; cases failed
  have lost : ExState.contactLost ≠ h.state := fun same => by rw [← same] at failed; cases failed
  simp only [State.reRequest, Rtm.selectHead_cons plan, Rtm.setHead, context, Option.map_some, paging]
  cases inContact with
  | true =>
    have contact := of_decide_eq_true contact.symm
    simp only [if_pos contact, if_true, Rtm.setLamps, Rtm.headState, Rtm.stateReport, if_neg sending]
    rfl
  | false =>
    have contact := of_decide_eq_false contact.symm
    simp only [if_neg contact, Rtm.setLamps, Rtm.headState, Rtm.stateReport, if_neg lost]
    rfl

/-! ## The press by the head's state (Table 4-5) -/

variable {sel : Selection}

theorem State.selectHead_nil (plan : s.rtm.plan = []) (sel : Selection) : s.selectHead sel = s := by
  simp only [State.selectHead, plan]

theorem State.selectHead_replaces (plan : s.rtm.plan = h :: rest) (waiting : h.state = .waiting)
    (has : s.rtm.lacks h.id sel = false) : s.selectHead sel = s.replaceSelection h sel := by
  simp [State.selectHead, plan, waiting, has]

theorem State.selectHead_lacks (plan : s.rtm.plan = h :: rest) (waiting : h.state = .waiting)
    (lacks : s.rtm.lacks h.id sel = true) : s.selectHead sel = s.requestRefuse .route := by
  simp [State.selectHead, plan, waiting, lacks]

theorem State.selectHead_reRequests {j : JunctionRecord} (plan : s.rtm.plan = h :: rest)
    (failed : h.state.failed = true) (still : s.amu.atStandstill = true) (held : s.rtm.record h.id = some j)
    (has : j.route sel ≠ none) : s.selectHead sel = s.reRequest h j sel := by
  have beyond : h.state ≠ .waiting := fun waiting => by rw [waiting] at failed; cases failed
  have has : (j.route sel).isSome = true := Option.isSome_iff_ne_none.mpr has
  simp only [State.selectHead, plan, if_neg beyond, if_pos (And.intro failed still), held, if_pos has]

/-- R117: every other head beyond WAITING refuses the press. -/
theorem State.selectHead_refuses (plan : s.rtm.plan = h :: rest) (beyond : h.state ≠ .waiting)
    (refuses : h.state.failed = true → s.amu.atStandstill = true →
      ∀ j, s.rtm.record h.id = some j → j.route sel = none) : s.selectHead sel = s.requestRefuse .route := by
  simp only [State.selectHead, plan, if_neg beyond]
  split
  · next failed =>
    split
    · next j held =>
      refine if_neg ?_
      rw [refuses failed.1 failed.2 j held]
      nofun
    · rfl
  · rfl

end Sys2Proof.Machine
end

section
/-! O7: the route plan, the exchange context and the ROUTE entry over every command. -/

namespace Sys2Proof.Machine

/-! ## The two forms of a sound plan -/

/-- R67, R74: the capacities of the plan and of the junction table, with one record per id. -/
structure Rtm.Fits (r : Rtm) : Prop where
  fits  : r.plan.length ≤ 16
  ids   : (r.junctions.map (·.id)).Nodup
  slots : r.junctions.length ≤ 64

/-- R75: a plan whose head is in WAITING, or that is empty, has neither a context nor a zone. -/
structure Rtm.Calm (r : Rtm) : Prop where
  waiting : ∀ e ∈ r.plan, e.state = .waiting
  context : r.context = none
  zone    : r.zone = false

/-- R79, R115, R116: the context `c` stands for a head in the state `st`, beyond WAITING and at rest. -/
structure Context.StandsFor (c : Context) (st : ExState) : Prop where
  beyond  : st ≠ .waiting
  settled : st ≠ .contact
  pages   : c.paging = none ↔ st = .unknown
  lost    : st = .contactLost → ∃ resumed, c.resume = some resumed ∧ resumed.losesContact = true
  running : st ≠ .contactLost → c.resume = none

/-- R69, R75: the head `h` alone is beyond WAITING, with the context `c` and, unless it is in UNKNOWN, its record. -/
structure Rtm.Beyond (h : PlanEntry) (c : Context) (r : Rtm) : Prop where
  head    : ∃ rest, r.plan = h :: rest ∧ ∀ e ∈ rest, e.state = .waiting
  context : r.context = some c
  stands  : c.StandsFor h.state
  record  : h.state ≠ .unknown → (r.record h.id).isSome = true

theorem Rtm.Calm.headState {r : Rtm} (calm : r.Calm) : r.headState = .waiting := by
  cases plan : r.plan with
  | nil => exact Rtm.headState_nil plan
  | cons h rest => exact (Rtm.headState_cons plan).trans (calm.waiting h (by simp [plan]))

theorem Rtm.Beyond.headState {r : Rtm} {h : PlanEntry} {c : Context} (beyond : r.Beyond h c) :
    r.headState = h.state := by
  obtain ⟨⟨rest, plan, -⟩, -⟩ := beyond
  exact Rtm.headState_cons plan

/-- R123: the ROUTE entry stands exactly while the head is beyond WAITING. -/
theorem planSound_iff {s : State} : PlanSound s ↔ s.rtm.Fits ∧
    (s.rtm.Calm ∧ s.drc.table.route.isSome = false ∨
      ∃ h c, s.rtm.Beyond h c ∧ s.drc.table.route.isSome = true) := by
  constructor
  · rintro ⟨tail, fits, context, entry, zone, settled, pages, resume, record, ids, slots⟩
    refine ⟨⟨fits, ids, slots⟩, ?_⟩
    by_cases waiting : s.rtm.headState = .waiting
    · refine .inl ⟨⟨?_, ?_, ?_⟩, ?_⟩
      · cases plan : s.rtm.plan with
        | nil => nofun
        | cons h rest =>
          rw [plan] at tail
          exact List.forall_mem_cons.mpr ⟨(Rtm.headState_cons plan).symm.trans waiting, tail⟩
      · simpa [waiting] using context
      · simpa [waiting] using zone
      · simpa [waiting] using entry
    · obtain ⟨c, held⟩ := Option.isSome_iff_exists.mp (context.mpr waiting)
      obtain ⟨lost, running⟩ := resume c held
      cases plan : s.rtm.plan with
      | nil => exact absurd (Rtm.headState_nil plan) waiting
      | cons h rest =>
        have head : s.rtm.headState = h.state := Rtm.headState_cons plan
        have pages := pages c held
        rw [head] at waiting settled pages lost running record
        rw [plan] at tail record
        exact .inr ⟨h, c, ⟨⟨rest, plan, tail⟩, held, ⟨waiting, settled, pages, lost, running⟩,
          fun known => record waiting known h rfl⟩, entry.mpr (head ▸ waiting)⟩
  · rintro ⟨⟨fits, ids, slots⟩, ⟨calm, entry⟩ | ⟨h, c, beyond, entry⟩⟩
    · have waiting := calm.headState
      obtain ⟨plan, context, zone⟩ := calm
      constructor <;> simp_all
      exact fun e mem => plan e (List.mem_of_mem_tail mem)
    · have head := beyond.headState
      obtain ⟨⟨rest, plan, tail⟩, context, ⟨waiting, settled, pages, lost, running⟩, record⟩ := beyond
      constructor <;> simp_all

theorem Rtm.Fits.congr {r r' : Rtm} (fits : r.Fits) (plan : r'.plan = r.plan) (junctions : r'.junctions = r.junctions) :
    r'.Fits := by
  obtain ⟨fits, ids, slots⟩ := fits
  rw [← plan] at fits
  rw [← junctions] at ids slots
  exact ⟨fits, ids, slots⟩

theorem Rtm.Beyond.congr {r r' : Rtm} {h : PlanEntry} {c : Context} (beyond : r.Beyond h c) (plan : r'.plan = r.plan)
    (context : r'.context = r.context) (junctions : r'.junctions = r.junctions) : r'.Beyond h c := by
  obtain ⟨head, held, stands, record⟩ := beyond
  rw [← plan] at head
  rw [← Rtm.record_congr junctions] at record
  exact ⟨head, context.trans held, stands, record⟩

namespace PlanSound

variable {s s' : State}

/-! ## Operations that reach neither the Route Manager nor its entry -/

/-- A sound plan is read off the plan, the context, the zone, the junction table and the ROUTE slot. -/
theorem congr (h : PlanSound s) (plan : s'.rtm.plan = s.rtm.plan) (context : s'.rtm.context = s.rtm.context)
    (zone : s'.rtm.zone = s.rtm.zone) (junctions : s'.rtm.junctions = s.rtm.junctions)
    (entry : s'.drc.table.route.isSome = s.drc.table.route.isSome) : PlanSound s' := by
  obtain ⟨fits, form⟩ := planSound_iff.mp h
  rw [planSound_iff, entry]
  refine ⟨fits.congr plan junctions, form.imp ?_ ?_⟩
  · rintro ⟨⟨waiting, none, outside⟩, empty⟩
    exact ⟨⟨plan ▸ waiting, context.trans none, zone.trans outside⟩, empty⟩
  · rintro ⟨e, c, beyond, held⟩
    exact ⟨e, c, beyond.congr plan context junctions, held⟩

theorem of_entry (h : PlanSound s) (rtm : s'.rtm = s.rtm)
    (entry : s'.drc.table.route.isSome = s.drc.table.route.isSome) : PlanSound s' :=
  h.congr (by rw [rtm]) (by rw [rtm]) (by rw [rtm]) (by rw [rtm]) entry

theorem of_route (h : PlanSound s) (rtm : s'.rtm = s.rtm) (route : s'.drc.table.route = s.drc.table.route) :
    PlanSound s' := h.of_entry rtm (congrArg Option.isSome route)

theorem of_speeds (h : PlanSound s) (rtm : s'.rtm = s.rtm) (speeds : s'.drc.speeds = s.drc.speeds) : PlanSound s' :=
  h.of_route rtm (congrArg (·.table.route) speeds :)

theorem of_eq {m : State} (h : PlanSound s) (eq : s' = m) (rtm : m.rtm = s.rtm)
    (route : m.drc.table.route = s.drc.table.route) : PlanSound s' := eq ▸ h.of_route rtm route

end PlanSound

/-! ## The plan once a beacon has brought its head (R80 to R83) -/

section bringing
variable {r : Rtm} {h : PlanEntry} {c : Context} {j : Half}

theorem Rtm.Calm.kept (calm : r.Calm) : r.kept j = r := by
  refine if_neg ?_
  rintro ⟨e, mem, -, beyond⟩
  exact beyond (calm.waiting e (List.mem_of_mem_head? mem))

theorem Rtm.Beyond.dropHead (beyond : r.Beyond h c) : r.dropHead.Calm := by
  obtain ⟨⟨rest, plan, tail⟩, -⟩ := beyond
  refine ⟨?_, rfl, rfl⟩
  rw [Rtm.dropHead_plan, plan]
  exact tail

theorem Rtm.Beyond.kept (beyond : r.Beyond h c) (apart : h.id ≠ j) : r.kept j = r.dropHead := by
  obtain ⟨⟨rest, plan, -⟩, -, stands, -⟩ := beyond
  exact if_pos ⟨h, by rw [plan]; rfl, apart, stands.beyond⟩

theorem Rtm.Fits.dropHead (fits : r.Fits) : r.dropHead.Fits :=
  ⟨by have := fits.fits; simp; omega, fits.ids, fits.slots⟩

theorem Rtm.Calm.sought (calm : r.Calm) : Rtm.Calm { r with plan := r.sought j } := by
  refine ⟨fun e mem => ?_, calm.context, calm.zone⟩
  have mem : e ∈ r.sought j := mem
  unfold Rtm.sought at mem
  split at mem
  · exact calm.waiting e ((List.dropWhile_suffix _).subset mem)
  · rcases List.mem_cons.mp mem with rfl | mem
    · rfl
    · split at mem
      · exact calm.waiting e (List.mem_of_mem_dropLast mem)
      · exact calm.waiting e mem

theorem Rtm.Fits.sought (fits : r.Fits) : Rtm.Fits { r with plan := r.sought j } := by
  refine ⟨?_, fits.ids, fits.slots⟩
  have whole := fits.fits
  change (r.sought j).length ≤ 16
  unfold Rtm.sought
  split
  · exact (List.dropWhile_suffix _).length_le.trans whole
  · split
    · simp; omega
    · simp; omega

/-- R81: a head that already is for J stays. -/
theorem Rtm.bringHead_same {rest : List PlanEntry} (plan : r.plan = h :: rest) (same : h.id = j) :
    r.bringHead j = (r, Emit.nothing) := by
  simp only [Rtm.bringHead, plan, same, if_true]

end bringing

/-- R119: without a head or without its context an approach interval does nothing. -/
theorem State.approachSteps_idle {s : State} (idle : s.rtm.plan = [] ∨ s.rtm.context = none) : s.approachSteps = s := by
  unfold State.approachSteps
  split
  · next plan context => simp [plan, context] at idle
  · rfl

/-! ## The exchange rules (R105 to R116) -/

/-- The states of a head that runs an exchange with a page list or has ended it, but for CONTACT_LOST. -/
def ExState.paged : ExState → Bool
  | .sending | .awaiting | .queued | .setting | .locked | .refused | .wrongLeg | .timedOut => true
  | .waiting | .contact | .contactLost | .unknown => false

theorem ExState.losesContact_paged (st : ExState) (loses : st.losesContact = true) : st.paged = true := by
  revert loses
  cases st <;> decide

section judging
variable {st : ExState} {addressed acknowledged fresh : Bool} {b : Beacon} {pc : PageContext}

theorem countBeacon_paged (paged : st.paged = true) (limit : Nat) :
    (countBeacon st limit fresh pc).state.paged = true := by
  unfold countBeacon
  dsimp only
  split
  · rfl
  · exact paged

theorem judgeSetting_paged : (judgeSetting addressed fresh b pc).state.paged = true := by
  unfold judgeSetting
  (repeat' split)
  case isTrue.isFalse.isFalse.isFalse | isFalse => exact countBeacon_paged rfl _
  all_goals rfl

theorem judgeAwaiting_paged : (judgeAwaiting addressed fresh b pc).state.paged = true := by
  unfold judgeAwaiting
  split
  · split
    case h_1 => exact judgeSetting_paged
    case h_6 => exact countBeacon_paged rfl _
    all_goals rfl
  · exact countBeacon_paged rfl _

theorem judgeQueued_paged : (judgeQueued addressed fresh b pc).state.paged = true := by
  unfold judgeQueued
  split
  · split
    · exact judgeSetting_paged
    all_goals rfl
  · rfl

theorem judgeSending_paged : (judgeSending addressed acknowledged fresh b pc).state.paged = true := by
  unfold judgeSending judgeLastPage
  dsimp only
  (repeat' split)
  case isFalse.isTrue.isFalse.isFalse => exact judgeAwaiting_paged
  all_goals rfl

theorem judgeLocked_paged : (judgeLocked addressed fresh b pc).state.paged = true := by
  unfold judgeLocked
  split <;> rfl

/-- R107 to R114: a beacon leaves the head in a state of the exchange. -/
theorem judgeState_paged (paged : st.paged = true) :
    (judgeState st addressed acknowledged fresh b pc).state.paged = true := by
  cases st with
  | sending => exact judgeSending_paged
  | awaiting => exact judgeAwaiting_paged
  | queued => exact judgeQueued_paged
  | setting => exact judgeSetting_paged
  | locked => exact judgeLocked_paged
  | _ => exact paged

end judging

/-- R116: the rule by which a beacon is taken is that of a state of the exchange. -/
theorem Context.StandsFor.ruleState {c : Context} {st : ExState} (stands : c.StandsFor st) (pages : c.paging ≠ none) :
    (c.ruleState st).paged = true := by
  obtain ⟨beyond, settled, unknown, lost, running⟩ := stands
  unfold Context.ruleState
  cases st with
  | waiting => exact absurd rfl beyond
  | contact => exact absurd rfl settled
  | unknown => exact absurd (unknown.mpr rfl) pages
  | contactLost =>
    obtain ⟨resumed, held, loses⟩ := lost rfl
    rw [held]
    exact resumed.losesContact_paged loses
  | _ => rfl

/-- R79, R116: a context with pages and no resume state stands for every state of the exchange. -/
theorem Context.StandsFor.of_paged {c : Context} {st : ExState} (paged : st.paged = true) (pages : c.paging ≠ none)
    (resume : c.resume = none) : c.StandsFor st := by
  constructor
  case pages => exact ⟨fun h => absurd h pages, fun h => by subst h; cases paged⟩
  case running => exact fun _ => resume
  all_goals
    intro h
    subst h
    cases paged

/-- R121: a head beyond WAITING has a ROUTE post. -/
theorem Rtm.Beyond.routePost {r : Rtm} {h : PlanEntry} {c : Context} (beyond : r.Beyond h c) (p : Params) (track : Pos) :
    (routePost p r track).isSome = true := by
  obtain ⟨⟨rest, plan, -⟩, context, stands, record⟩ := beyond
  simp only [Machine.routePost, plan, context]
  split
  · next waiting => exact absurd waiting stands.beyond
  · rfl
  · next none _ known =>
    rw [none] at record
    exact nomatch record known
  · rfl
  · rfl

section exchange
variable {m : State} {h : PlanEntry} {c : Context}

/-- R121, R126: a beacon leaves the plan sound if it leaves the head beyond WAITING, with its ROUTE entry where the
state has not changed. -/
theorem State.handOnBeacon_planSound {before : ExState} {e : Emit} (fits : m.rtm.Fits)
    (head : ∃ h c, m.rtm.Beyond h c ∧ (h.state = before → e.lift = false ∧ m.drc.table.route.isSome = true))
    (controller : Nat) (faults : List FaultCode) (warn : Bool) :
    PlanSound (m.handOnBeacon before controller faults warn e) := by
  obtain ⟨h, c, beyond, entry⟩ := head
  obtain ⟨plan, context, junctions, -⟩ := Rtm.setLamps_frame m.now m.rtm
  have lit := beyond.congr plan context junctions
  rw [planSound_iff]
  unfold State.handOnBeacon
  dsimp only
  rw [(State.handOn_frame _ _).2.2.2.2.1, State.handOn_route]
  refine ⟨fits.congr plan junctions, .inr ⟨h, c, lit, ?_⟩⟩
  by_cases same : h.state = before
  · obtain ⟨lift, held⟩ := entry same
    simp [lift, held]
  · have report : m.rtm.stateReport before m.amu.trackMm (some controller) ≠ [] := by
      obtain ⟨⟨rest, plan, -⟩, context, -⟩ := beyond
      simp only [Rtm.stateReport, plan, context, if_neg same]
      nofun
    simp [report, lit.routePost]

/-- R105, R106: a head in WAITING takes its first contact. -/
theorem State.exchange_calm (fits : m.rtm.Fits) (calm : m.rtm.Calm) {rest : List PlanEntry}
    (plan : m.rtm.plan = h :: rest) (b : Beacon) (e : Emit) : PlanSound (m.exchange b e) := by
  have waiting := calm.waiting
  rw [plan] at waiting
  obtain ⟨waiting, tail⟩ := List.forall_mem_cons.mp waiting
  have size : rest.length + 1 ≤ 16 := by simpa [plan] using fits.fits
  simp only [State.exchange, plan, if_pos waiting]
  cases held : m.rtm.record h.id with
  | some j =>
    simp only [State.firstContact, Rtm.setHead_cons plan]
    refine State.handOnBeacon_planSound ?_ ?_ ..
    · exact ⟨size, fits.ids, fits.slots⟩
    · exact ⟨_, _, ⟨⟨rest, rfl, tail⟩, rfl, .of_paged rfl nofun rfl, fun _ => congrArg Option.isSome held⟩, nofun⟩
  | none =>
    simp only [State.enterUnknown, Rtm.setHead_cons plan]
    refine State.handOnBeacon_planSound ?_ ?_ ..
    · exact ⟨size, fits.ids, fits.slots⟩
    · exact ⟨_, _, ⟨⟨rest, rfl, tail⟩, rfl, ⟨nofun, nofun, ⟨fun _ => rfl, fun _ => rfl⟩, nofun, fun _ => rfl⟩,
        fun known => absurd rfl known⟩, nofun⟩

/-- R107 to R116: a head beyond WAITING takes a beacon. -/
theorem State.exchange_beyond (fits : m.rtm.Fits) (beyond : m.rtm.Beyond h c)
    (entry : m.drc.table.route.isSome = true) (b : Beacon) : PlanSound (m.exchange b Emit.nothing) := by
  have sound : PlanSound m := planSound_iff.mpr ⟨fits, .inr ⟨h, c, beyond, entry⟩⟩
  obtain ⟨⟨rest, plan, tail⟩, context, stands, record⟩ := beyond
  have size : rest.length + 1 ≤ 16 := by simpa [plan] using fits.fits
  simp only [State.exchange, plan, if_neg stands.beyond, context]
  obtain ⟨loopMark, paging, resume, bad⟩ := c
  cases paging with
  | some pc =>
    have known : h.state ≠ .unknown := fun unknown => nomatch stands.pages.mpr unknown
    simp only [State.beaconMoves, Rtm.setHead_cons plan]
    have paged := stands.ruleState nofun
    refine State.handOnBeacon_planSound ?_ ?_ ..
    · exact ⟨size, fits.ids, fits.slots⟩
    · exact ⟨_, _, ⟨⟨rest, rfl, tail⟩, rfl, .of_paged (judgeState_paged paged) nofun rfl, fun _ => record known⟩,
        fun _ => ⟨rfl, entry⟩⟩
  | none => exact sound.of_entry (by simp) (State.handOn_route ..)

/-- R81: a beacon first brings its head, and then takes the exchange rules. -/
theorem State.bringHead_planSound (sound : PlanSound m) (b : Beacon) :
    PlanSound (State.exchange b (m.rtm.bringHead b.junction).2
      { m with rtm := (m.rtm.bringHead b.junction).1 }) := by
  obtain ⟨fits, form⟩ := planSound_iff.mp sound
  have brought : ∀ r : Rtm, m.rtm.kept b.junction = r → r.Fits → r.Calm →
      PlanSound (State.exchange b (m.rtm.bringHead b.junction).2
        { m with rtm := (m.rtm.bringHead b.junction).1 }) := by
    rintro _ rfl fits calm
    obtain ⟨h, rest, plan, -⟩ := (m.rtm.kept b.junction).sought_cons b.junction
    rw [Rtm.bringHead_eq]
    exact State.exchange_calm (m := { m with rtm := _ }) fits.sought calm.sought plan ..
  rcases form with ⟨calm, -⟩ | ⟨h, c, beyond, entry⟩
  · exact brought _ calm.kept fits calm
  · by_cases same : h.id = b.junction
    · obtain ⟨⟨rest, plan, -⟩, -⟩ := id beyond
      rw [Rtm.bringHead_same plan same]
      exact State.exchange_beyond fits beyond entry b
    · exact brought _ (beyond.kept same) fits.dropHead beyond.dropHead

end exchange

namespace PlanSound

variable {s s' : State}

theorem validBeacon (sound : PlanSound s) (b : Beacon) : PlanSound (s.validBeacon b) := by
  have heard : PlanSound { s with lpt := s.lpt.hear b.junction s.now } := sound.of_route rfl rfl
  unfold State.validBeacon
  dsimp only
  split
  · exact sound.of_route rfl rfl
  · exact State.bringHead_planSound heard b

/-! ## The other events of the Route Manager -/

/-- R93: a bad beacon counts in the context. -/
theorem badBeacon (sound : PlanSound s) : PlanSound s.badBeacon := by
  obtain ⟨fits, form⟩ := planSound_iff.mp sound
  have counted : PlanSound { s with rtm := { s.rtm with context := s.rtm.context.map Context.countBad } } := by
    refine planSound_iff.mpr ⟨fits.congr rfl rfl, form.imp ?_ ?_⟩
    · rintro ⟨⟨waiting, none, outside⟩, empty⟩
      exact ⟨⟨waiting, by simp [none], outside⟩, empty⟩
    · rintro ⟨h, c, ⟨head, held, ⟨beyond, settled, pages, lost, running⟩, record⟩, entry⟩
      exact ⟨h, c.countBad, ⟨head, by simp [held], ⟨beyond, settled, pages, lost, running⟩, record⟩, entry⟩
  unfold State.badBeacon
  dsimp only
  split <;> exact counted.of_route rfl rfl

theorem loopPage (sound : PlanSound s) (page : List Byte) : PlanSound (s.loopPage page) := by
  unfold State.loopPage State.takePage
  split
  · exact sound
  · split
    · exact sound
    · exact sound
    · exact sound.badBeacon
    · exact sound.validBeacon _

/-- R115: a contact loss takes the head of an exchange to CONTACT_LOST. -/
theorem loseContact (sound : PlanSound s) (j : Half) : PlanSound (s.loseContact j) := by
  unfold State.loseContact
  split
  · exact sound
  · next h rest plan =>
    split
    · next lost =>
      obtain ⟨fits, ⟨calm, -⟩ | ⟨e, c, ⟨⟨_, plan', tail⟩, held, stands, record⟩, entry⟩⟩ := planSound_iff.mp sound
      · rw [calm.waiting h (by simp [plan])] at lost
        exact nomatch lost.2
      · obtain ⟨rfl, rfl⟩ := List.cons.inj (plan.symm.trans plan')
        have known : h.state ≠ .unknown := fun unknown => by simp [unknown, ExState.losesContact] at lost
        have size : rest.length + 1 ≤ 16 := by simpa [plan] using fits.fits
        have pages : c.paging ≠ none := fun none => known (stands.pages.mp none)
        refine planSound_iff.mpr ⟨?_, .inr ⟨{ h with state := .contactLost }, { c with resume := some h.state }, ?_, ?_⟩⟩
        · simp only [State.handOn_frame, Rtm.setHead_cons plan]
          exact Rtm.Fits.congr (r := { s.rtm with plan := { h with state := .contactLost } :: rest })
            ⟨size, fits.ids, fits.slots⟩ (by simp) (by simp)
        · simp only [State.handOn_frame, Rtm.setHead_cons plan]
          refine Rtm.Beyond.congr (r := { s.rtm with
            plan := { h with state := .contactLost } :: rest, context := some { c with resume := some h.state } })
            ⟨⟨rest, rfl, tail⟩, rfl, ⟨nofun, nofun, ⟨fun none => absurd none pages, nofun⟩,
              fun _ => ⟨_, rfl, lost.2⟩, fun h => absurd rfl h⟩, fun _ => record known⟩ (by simp) (by simp [held]) (by simp)
        · rw [State.handOn_route]
          exact entry
    · exact sound

theorem contactLost (sound : PlanSound s) : PlanSound s.contactLost := by
  have dropped : PlanSound { s with lpt := { s.lpt with contact := none, contactTimer := none } } :=
    sound.of_route rfl rfl
  unfold State.contactLost
  split
  · dsimp only
    split
    · exact dropped.loseContact _
    · exact dropped
  · exact sound

/-- R120: a head that passes takes its context and its ROUTE entry along. -/
theorem passHead {h : PlanEntry} {c : Context} (fits : s.rtm.Fits) (beyond : s.rtm.Beyond h c) (d : Int) :
    PlanSound (s.passHead h d) := by
  have calm := beyond.dropHead
  refine planSound_iff.mpr ⟨?_, .inl ⟨?_, ?_⟩⟩
  · simp only [State.passHead, State.handOn_frame]
    exact fits.dropHead.congr (by simp) (by simp)
  · simp only [State.passHead, State.handOn_frame]
    exact ⟨by simpa using calm.waiting, by simp, by simpa using calm.zone⟩
  · simp only [State.passHead]
    rw [State.handOn_route]
    rfl

/-- R119, R121, R123: an approach interval. -/
theorem approachInterval (sound : PlanSound s) : PlanSound s.approachInterval := by
  have steps : ∀ m : State, PlanSound m → PlanSound m.approachSteps := fun m sound => by
    obtain ⟨fits, ⟨calm, -⟩ | ⟨h, c, beyond, entry⟩⟩ := planSound_iff.mp sound
    · rw [State.approachSteps_idle (.inr calm.context)]
      exact sound
    · obtain ⟨⟨rest, plan, -⟩, context, -⟩ := id beyond
      simp only [State.approachSteps, plan, context]
      split
      · split
        · exact passHead fits beyond _
        · refine planSound_iff.mpr ⟨?_, .inr ⟨h, c, ?_, ?_⟩⟩
          · simp only [State.superviseHead, State.handOn_frame]
            exact fits.congr rfl rfl
          · simp only [State.superviseHead, State.handOn_frame]
            exact beyond.congr rfl rfl rfl
          · rw [State.superviseHead, State.handOn_route, beyond.routePost]
            rfl
      · exact sound
  unfold State.approachInterval
  split
  · exact steps _ (sound.congr rfl rfl rfl rfl rfl)
  · exact sound

theorem amberFlash (sound : PlanSound s) : PlanSound s.amberFlash := by
  unfold State.amberFlash
  split
  · exact sound.congr rfl rfl rfl rfl rfl
  · exact sound

/-! ## The point selector (R85, R86, R117) -/

/-- R117: a re-request takes a failed head, in SENDING or in CONTACT_LOST, through the exchange again. -/
theorem reRequest {h : PlanEntry} {rest : List PlanEntry} (sound : PlanSound s) (plan : s.rtm.plan = h :: rest)
    (failed : h.state.failed = true) (j : JunctionRecord) (sel : Selection) : PlanSound (s.reRequest h j sel) := by
  obtain ⟨fits, ⟨calm, -⟩ | ⟨e, c, ⟨⟨_, plan', tail⟩, held, stands, record⟩, entry⟩⟩ := planSound_iff.mp sound
  · rw [calm.waiting h (by simp [plan])] at failed
    cases failed
  · obtain ⟨rfl, rfl⟩ := List.cons.inj (plan.symm.trans plan')
    have known : h.state ≠ .unknown := fun unknown => by simp [unknown, ExState.failed] at failed
    have size : rest.length + 1 ≤ 16 := by simpa [plan] using fits.fits
    obtain ⟨pc, pages⟩ := Option.ne_none_iff_exists'.mp fun none => known (stands.pages.mp none)
    rw [State.reRequest_eq plan failed held pages j sel rfl]
    generalize decide (s.lpt.contact = some h.id) = inContact
    have again : Context.StandsFor
        { c with paging := some (pc.again (j.pageList sel)), resume := if inContact then none else some .sending }
        (if inContact then .sending else .contactLost) := by
      cases inContact with
      | true => exact .of_paged rfl nofun rfl
      | false => exact ⟨nofun, nofun, ⟨nofun, nofun⟩, fun _ => ⟨_, rfl, rfl⟩, fun h => absurd rfl h⟩
    exact planSound_iff.mpr ⟨⟨size, fits.ids, fits.slots⟩,
      .inr ⟨_, _, ⟨⟨rest, rfl, tail⟩, rfl, again, fun _ => record known⟩, entry⟩⟩

/-- R86: a taken press. -/
theorem selectHead (sound : PlanSound s) (sel : Selection) : PlanSound (s.selectHead sel) := by
  have refused : PlanSound (s.requestRefuse .route) := sound.of_route (by simp) (by simp)
  unfold State.selectHead
  split
  · exact sound
  · next h rest plan =>
    dsimp only
    split
    · next waiting =>
      split
      · exact refused
      · unfold State.replaceSelection
        split
        · exact sound
        · obtain ⟨fits, ⟨⟨calm, none, outside⟩, empty⟩ | ⟨e, c, ⟨⟨_, plan', -⟩, -, stands, -⟩, -⟩⟩ := planSound_iff.mp sound
          · have size : rest.length + 1 ≤ 16 := by simpa [plan] using fits.fits
            rw [plan] at calm
            refine planSound_iff.mpr ⟨?_, .inl ⟨?_, ?_⟩⟩
            · simp only [State.handOn_frame, Rtm.selectHead_cons plan]
              exact ⟨size, fits.ids, fits.slots⟩
            · simp only [State.handOn_frame, Rtm.selectHead_cons plan]
              exact ⟨List.forall_mem_cons.mpr ⟨waiting, (List.forall_mem_cons.mp calm).2⟩, none, outside⟩
            · rw [State.handOn_route]
              exact empty
          · obtain ⟨rfl, -⟩ := List.cons.inj (plan.symm.trans plan')
            exact absurd waiting stands.beyond
    · split
      · next failed =>
        split
        · split
          · exact sound.reRequest plan failed.1 ..
          · exact refused
        · exact refused
      · exact refused

theorem selectorPress (sound : PlanSound s) (sel : Selection) : PlanSound (s.selectorPress sel) := by
  unfold State.selectorPress
  split
  · have pressed : PlanSound { s with rtm := { s.rtm.arm sel false with pendingSel := some sel } } :=
      sound.congr (by simp) (by simp) (by simp) (by simp) rfl
    exact pressed.selectHead sel
  · exact sound

/-! ## The commands of the junction table and of the plan (R70 to R77) -/

theorem junctionLoad (sound : PlanSound s) (p : JunctionLoad) : PlanSound (s.junctionLoad p).1 := by
  rcases s.junctionLoad_cases p with e | ⟨j, free, room, e⟩ <;> rw [e]
  · exact sound
  · have aligned : ∀ e : PlanEntry, (if misaligned j e then { e with selection := j.dflt } else e).state = e.state ∧
        (if misaligned j e then { e with selection := j.dflt } else e).id = e.id := fun e => by
      split <;> exact ⟨rfl, rfl⟩
    have states : ∀ l : List PlanEntry, (∀ e ∈ l, e.state = .waiting) → ∀ e ∈ alignPlan j l, e.state = .waiting := by
      intro l waiting e mem
      obtain ⟨old, was, rfl⟩ := List.mem_map.mp mem
      exact (aligned old).1.trans (waiting old was)
    obtain ⟨⟨fits, ids, slots⟩, form⟩ := planSound_iff.mp sound
    refine planSound_iff.mpr ⟨⟨?_, ?_, ?_⟩, form.imp ?_ ?_⟩
    · exact (List.length_map ..).trans_le fits
    · rw [ids_putRecord]
      split
      · exact ids
      · next new =>
        refine List.nodup_append.mpr ⟨ids, List.nodup_singleton _, ?_⟩
        rintro _ mem _ new' rfl
        obtain ⟨r, held, same⟩ := List.mem_map.mp mem
        obtain rfl := List.mem_singleton.mp new'
        refine new (List.find?_isSome.mpr ⟨r, held, ?_⟩)
        simpa using same
    · rw [length_putRecord]
      split
      · next new =>
        have room := room.resolve_left fun held => held new
        exact room
      · exact slots
    · rintro ⟨⟨waiting, none, outside⟩, empty⟩
      exact ⟨⟨states _ waiting, none, outside⟩, empty⟩
    · rintro ⟨h, c, ⟨⟨rest, plan, tail⟩, held, stands, record⟩, entry⟩
      obtain ⟨state, id⟩ := aligned h
      refine ⟨_, c, ⟨⟨alignPlan j rest, by rw [plan]; rfl, states _ tail⟩, held, state ▸ stands, fun known => ?_⟩, entry⟩
      rw [id, Rtm.record, find?_putRecord]
      split
      · rfl
      · exact record (state ▸ known)

theorem junctionDrop (sound : PlanSound s) (id : Half) : PlanSound (s.junctionDrop id).1 := by
  rcases s.junctionDrop_cases id with e | ⟨free, e⟩ <;> rw [e]
  · exact sound
  · obtain ⟨⟨fits, ids, slots⟩, form⟩ := planSound_iff.mp sound
    refine planSound_iff.mpr ⟨⟨fits, ?_, ?_⟩, form.imp ?_ ?_⟩
    · exact ids.sublist (List.filter_sublist.map _)
    · exact (List.length_filter_le ..).trans slots
    · rintro ⟨⟨waiting, none, outside⟩, empty⟩
      exact ⟨⟨waiting, none, outside⟩, empty⟩
    · rintro ⟨h, c, ⟨⟨rest, plan, tail⟩, held, stands, record⟩, entry⟩
      refine ⟨h, c, ⟨⟨rest, plan, tail⟩, held, stands, fun known => ?_⟩, entry⟩
      have apart : h.id ≠ id := fun same => by
        rw [Rtm.inUse_eq, plan] at free
        exact of_decide_eq_false free ⟨h, rfl, same, stands.beyond⟩
      rw [Rtm.record, find?_dropped, if_neg apart]
      exact record known

theorem routeAppend (sound : PlanSound s) (id : Half) (code : Byte) : PlanSound (s.routeAppend id code).1 := by
  rcases s.routeAppend_cases id code with e | ⟨sel, room, e⟩ <;> rw [e]
  · exact sound
  · have states : ∀ l : List PlanEntry, (∀ e ∈ l, e.state = .waiting) →
        ∀ e ∈ l ++ [⟨id, sel, .plan, .waiting⟩], e.state = .waiting := fun l waiting =>
      List.forall_mem_append.mpr ⟨waiting, by simp⟩
    obtain ⟨⟨-, ids, slots⟩, form⟩ := planSound_iff.mp sound
    refine planSound_iff.mpr ⟨⟨?_, ids, slots⟩, form.imp ?_ ?_⟩
    · simp; omega
    · rintro ⟨⟨waiting, none, outside⟩, empty⟩
      exact ⟨⟨states _ waiting, none, outside⟩, empty⟩
    · rintro ⟨h, c, ⟨⟨rest, plan, tail⟩, held, stands, record⟩, entry⟩
      exact ⟨h, c, ⟨⟨_, by rw [plan]; rfl, states _ tail⟩, held, stands, record⟩, entry⟩

theorem routeClear (sound : PlanSound s) : PlanSound s.routeClear.1 := by
  obtain ⟨⟨fits, ids, slots⟩, form⟩ := planSound_iff.mp sound
  have kept : (keptHead s.rtm.plan).length ≤ 16 := by
    unfold keptHead
    (repeat' split) <;> simp
  refine planSound_iff.mpr ⟨⟨kept, ids, slots⟩, form.imp ?_ ?_⟩
  · rintro ⟨⟨waiting, none, outside⟩, empty⟩
    refine ⟨⟨fun e mem => ?_, none, outside⟩, empty⟩
    change e ∈ keptHead s.rtm.plan at mem
    rw [keptHead_eq] at mem
    exact waiting e (List.mem_of_mem_head? (Option.mem_toList.mp (List.mem_filter.mp mem).1))
  · rintro ⟨h, c, ⟨⟨rest, plan, tail⟩, held, stands, record⟩, entry⟩
    refine ⟨h, c, ⟨⟨[], ?_, nofun⟩, held, stands, record⟩, entry⟩
    change keptHead s.rtm.plan = [h]
    rw [plan]
    exact if_neg stands.beyond

/-- R87, R181: RESTART empties the plan and lifts the ROUTE entry of a head beyond WAITING. -/
theorem restartCommand (sound : PlanSound s) : PlanSound s.restartCommand.1 := by
  have empty : ∀ m : State, m.rtm = s.rtm.restarted → m.drc.table.route.isSome = false → PlanSound m := by
    intro m rtm route
    rw [planSound_iff, rtm]
    exact ⟨⟨by simp, by simp, by simp⟩, .inl ⟨⟨by simp, rfl, rfl⟩, route⟩⟩
  unfold State.restartCommand
  split
  · have route : s.dropLinkEntries.restartRoute.rtm = s.rtm.restarted ∧
        s.dropLinkEntries.restartRoute.drc.table.route.isSome = false := by
      unfold State.restartRoute
      dsimp only
      split
      · refine ⟨(State.lift_frame _ _).2.2.2.2.1, ?_⟩
        rw [State.lift_table]
        rfl
      · next waiting =>
        have waiting : ¬s.rtm.headState ≠ .waiting := waiting
        exact ⟨rfl, (Bool.eq_false_iff.mpr (mt sound.entry.mp waiting) :)⟩
    exact empty _ route.1 route.2
  · exact sound

/-! ## Every command -/

/-- R142: a press of a cab door button. -/
theorem doorPress (sound : PlanSound s) (b : DoorButton) {act : State → State} (rtm : ∀ m : State, (act m).rtm = m.rtm)
    (route : ∀ m : State, (act m).drc.table.route = m.drc.table.route) : PlanSound (s.doorPress b act) := by
  refine sound.of_route ?_ (s.doorPress_route b route)
  rcases s.doorPress_cases b act with e | e | e <;> rw [e]
  exact rtm _

/-- No event of a block breaks it. -/
theorem event (sound : PlanSound s) (e : Event s s') : PlanSound s' := by
  cases e with
  | nothing => exact sound
  | selectorPress sel => exact sound.selectorPress sel
  | selectorRelease sel => exact sound.congr (by simp) (by simp) (by simp) (by simp) rfl
  | approachInterval => exact sound.approachInterval
  | amberFlash => exact sound.amberFlash
  | loopPage page => exact sound.loopPage page
  | contactLost => exact sound.contactLost
  | controlInterval => exact sound.of_route (by simp) (by simp)
  | handleRise | detentOpen | buttonInactive => exact sound.of_route rfl rfl
  | reverser r => exact sound.of_route (by simp) (by simp)
  | deadman pressed => exact sound.of_speeds (by simp) (by simp; rfl)
  | vigilanceWarning => exact sound.of_speeds (by simp) (by simp; rfl)
  | releasePress side => exact sound.doorPress _ (fun m => by simp) fun m => m.releaseRequest_route side
  | closePress => exact sound.doorPress _ (fun m => by simp) State.closeRequest_route
  | doorInput door locked => exact sound.of_route (by simp) (by simp)
  | bypassOn => exact sound.of_route (by simp) (by simp)
  | bypassOff => exact sound.of_route (by simp) (by simp)
  | _ => exact sound.of_speeds (by simp) (by simp)

/-- No command of the cab link breaks it. -/
theorem runCommand (sound : PlanSound s) (c : LinkCommand) : PlanSound (s.runCommand c).1 := by
  cases c with
  | configure p =>
    change PlanSound (s.configure p).1
    rcases s.configure_cases p with e | e <;> rw [e]
    · exact sound
    · exact sound.of_route (by simp) (by simp)
  | junctionLoad load => exact sound.junctionLoad load
  | junctionDrop id => exact sound.junctionDrop id
  | routeAppend id sel => exact sound.routeAppend id sel
  | routeClear => exact sound.routeClear
  | restart => exact sound.restartCommand
  | patternLoad load => exact sound.of_eq (s.patternLoad_frame load) rfl rfl
  | stopClear target => exact sound.of_eq (s.stopClear_frame target) rfl rfl
  | buttonIsolate i a => exact sound.of_eq (s.buttonIsolate_frame i a) rfl rfl
  | reportRate r => exact sound.of_eq (s.reportRate_frame r) rfl rfl
  | faultsRead n => exact sound.of_eq (s.faultsRead_frame n) rfl rfl
  | _ => exact sound.of_route (by simp [State.runCommand]) (by simp [State.runCommand])

theorem kept : Kept PlanSound where
  time _ _ h := h.of_route rfl rfl
  clp _ _ h := h.of_route rfl rfl
  event _ _ e h := h.event e
  run c _ h := h.runCommand c

/-- R65, R183: after POWER_ON the plan, the junction table and the ROUTE slot are empty. -/
theorem poweredOn (now : Nat) (q : List Instr) (p : PowerInputs) : PlanSound (State.poweredOn now q p) := by
  have route : ∀ r : Reverser, (Drc.withReverser 0 r).table.route = none := fun r => by cases r <;> rfl
  refine planSound_iff.mpr ⟨⟨Nat.zero_le _, List.nodup_nil, Nat.zero_le _⟩, .inl ⟨⟨nofun, rfl, rfl⟩, ?_⟩⟩
  exact congrArg Option.isSome (route (reverserOf p.forward p.reverse))

end PlanSound

/-- Settles O7: every command but POWER_ON keeps the plan sound, and after POWER_ON it is sound anyway. -/
theorem planKept : Obligations.PlanKept := fun _ _ =>
  PlanSound.kept.step (fun _ _ h => h.of_route rfl rfl) .poweredOn

end Sys2Proof.Machine
end

section
/-! O34: JUNCTION_DROP, ROUTE_APPEND and ROUTE_CLEAR on the cab link. -/

namespace Sys2Proof.Machine

/-- R174: a command of the cab link that changes the Route Manager alone. -/
theorem exec_rtmReplied {i : Instr} {s : State} {r : Rtm} {t : Nat} {kind tag : Byte} {c : LinkCommand} {v : Verdict}
    (row : exec i s = .next (s.command t kind tag c)) (ready : LinkReady s)
    (run : (s.atTime t).runCommand c = ({ s.atTime t with rtm := r }, v)) :
    exec i s = .next { s.answered t kind tag v with rtm := r } :=
  exec_replied row ready run rfl

theorem badJunctionId_false {id : Half} (low : 1 ≤ id.toNat) (high : id.toNat ≤ 4095) : badJunctionId id = false := by
  rw [← Bool.not_eq_true, badJunctionId_iff]
  omega

theorem selectionOf_named {code : Byte} {sel : Selection} (named : code.toNat = 0 ∧ sel = .left ∨
    code.toNat = 1 ∧ sel = .straight ∨ code.toNat = 2 ∧ sel = .right ∨ 2 < code.toNat) (coded : code.toNat ≤ 2) :
    selectionOf code = some sel := by
  refine selectionOf_eq_some.mpr ?_
  rcases named with left | straight | right | beyond
  · exact .inl left
  · exact .inr (.inl straight)
  · exact .inr (.inr right)
  · omega

/-- Settles O34: each branch is the command at its owner, and its reply on a ready link. -/
theorem routeCommands : Obligations.RouteCommands := by
  intro t tag code id s sel used ready inUse named
  have inUse : s.rtm.inUse id = used := by
    rw [Rtm.inUse_eq, Bool.eq_iff_iff, decide_eq_true_iff, inUse]
  refine ⟨fun bad => ?_, fun low high => ?_, ?_⟩
  · have bad : badJunctionId id = true := badJunctionId_iff.mpr bad
    exact ⟨⟨_, exec_answered rfl ready (State.junctionDrop_badId bad)⟩,
      exec_answered rfl ready (State.routeAppend_badId bad)⟩
  · have good := badJunctionId_false low high
    refine ⟨fun yes => ?_, fun no missing => ?_, fun no held => ?_, fun beyond => ?_, fun coded absent => ?_,
      fun coded present => ?_⟩
    · exact exec_answered rfl ready (State.junctionDrop_inUse good (inUse.trans yes))
    · exact exec_answered rfl ready (State.junctionDrop_missing good (inUse.trans no) missing)
    · refine ⟨_, exec_rtmReplied rfl ready
        (State.junctionDrop_dropped (s := s.atTime t) good (inUse.trans no) held), rfl, ?_, fun x apart => ?_⟩
      · exact (find?_dropped ..).trans (if_pos rfl)
      · exact (find?_dropped ..).trans (if_neg apart)
    · exact exec_answered rfl ready (State.routeAppend_badSelection good (selectionOf_none beyond))
    · have named := selectionOf_named named coded
      exact exec_answered rfl ready (State.routeAppend_absent good named (s.rtm.lacks_iff.mpr absent))
    · have named := selectionOf_named named coded
      have has := s.rtm.lacks_false.mpr present
      exact ⟨fun full => exec_answered rfl ready (State.routeAppend_full good named has full),
        fun room => exec_rtmReplied rfl ready (State.routeAppend_appended (s := s.atTime t) good named has room)⟩
  · rw [← keptHead_eq]
    exact exec_rtmReplied rfl ready rfl

end Sys2Proof.Machine
end

section
/-! O33: the checks of Table 4-2, and JUNCTION_LOAD on the cab link. -/

namespace Sys2Proof.Machine

/-! ## A run of checks -/

/-- The number of the first check that fails, counted from `n + 1` on, or what all of them let through. -/
def firstFailing {α : Type} (n : Nat) (fails : List Bool) (a : α) : Except Byte α :=
  match fails.findIdx? id with
  | some k => .error (BitVec.ofNat 8 (k + 1 + n))
  | none => .ok a

theorem firstFailing_cons {α : Type} (n : Nat) (fail : Bool) (fails : List Bool) (a : α) :
    firstFailing n (fail :: fails) a =
      if fail = true then .error (BitVec.ofNat 8 (n + 1)) else firstFailing (n + 1) fails a := by
  unfold firstFailing
  rw [List.findIdx?_cons]
  cases fail with
  | true => simp [Nat.add_comm]
  | false =>
    cases fails.findIdx? id with
    | none => rfl
    | some k =>
      have count : k + 1 + 1 + n = k + 1 + (n + 1) := by omega
      simp [count]

/-! ## The requirement bytes (Table 10-7) -/

/-- The requirement of set `i`, where its two bits are none of the refused code 3. -/
def requirementAt (b : Byte) (i : Nat) : Requirement :=
  if b.toNat / 4 ^ i % 4 = 1 then .normal else if b.toNat / 4 ^ i % 4 = 2 then .reverse else .any

theorem requirementOf_eq (b : Byte) (i : Nat) : requirementOf b i =
    if b.toNat / 4 ^ i % 4 = 3 then none else some (requirementAt b i) := by
  have four : b.toNat / 4 ^ i % 4 < 4 := Nat.mod_lt _ (by decide)
  unfold requirementOf requirementAt
  generalize b.toNat / 4 ^ i % 4 = d at four
  match d, four with
  | 0, _ | 1, _ | 2, _ | 3, _ => rfl

theorem requirements_eq (b : Byte) (n : Nat) : requirements b n =
    if (List.range n).any fun i => b.toNat / 4 ^ i % 4 = 3 then none
    else some ((List.range n).map (requirementAt b)) := by
  unfold requirements
  induction List.range n with
  | nil => rfl
  | cons i l ih =>
    rw [List.mapM_cons, ih, requirementOf_eq]
    by_cases bad : b.toNat / 4 ^ i % 4 = 3
    · simp [bad]
    · simp only [if_neg bad, List.any_cons, decide_eq_false bad, Bool.false_or]
      split <;> rfl

/-- R70 check 4: a selection has ANY for every one of its sets. -/
theorem requirements_idle (b : Byte) (n : Nat) : (requirements b n).any (fun l => l.all fun q => q = .any) =
    (List.range n).all fun i => b.toNat / 4 ^ i % 4 = 0 := by
  rw [requirements_eq, Bool.eq_iff_iff]
  split
  · next refused =>
    obtain ⟨i, mem, code⟩ := List.any_eq_true.mp refused
    have code : b.toNat / 4 ^ i % 4 = 3 := of_decide_eq_true code
    refine ⟨nofun, fun all => ?_⟩
    have zero : b.toNat / 4 ^ i % 4 = 0 := of_decide_eq_true (List.all_eq_true.mp all i mem)
    omega
  · next allowed =>
    have idle : ∀ i ∈ List.range n, requirementAt b i = .any ↔ b.toNat / 4 ^ i % 4 = 0 := fun i mem => by
      have code : b.toNat / 4 ^ i % 4 ≠ 3 := fun code => allowed (List.any_eq_true.mpr ⟨i, mem, decide_eq_true code⟩)
      have four : b.toNat / 4 ^ i % 4 < 4 := Nat.mod_lt _ (by decide)
      unfold requirementAt
      generalize b.toNat / 4 ^ i % 4 = d at code four
      match d, four, code with
      | 0, _, _ | 1, _, _ | 2, _, _ => decide
      | d + 3, code, four => omega
    simp only [Option.any_some, List.all_map, List.all_eq_true, Function.comp, decide_eq_true_eq]
    exact forall₂_congr idle

/-! ## The checks of Table 4-2 (R70) -/

section checks
variable (p : JunctionLoad)

/-- R70 check 5: the default is none of the present selections. -/
def missesDefault : Bool :=
  !((p.dflt.toNat = 0 && p.present.getLsbD 0) || (p.dflt.toNat = 1 && p.present.getLsbD 1) ||
    (p.dflt.toNat = 2 && p.present.getLsbD 2))

/-- The selection that a default code names. -/
def namedDefault : Selection := if p.dflt.toNat = 0 then .left else if p.dflt.toNat = 1 then .straight else .right

/-- Table 4-2: which of the checks 1 to 10 fail. -/
def loadFails : List Bool :=
  [ decide (p.id.toNat < 1 ∨ 4095 < p.id.toNat), decide (p.setCount.toNat < 1 ∨ 4 < p.setCount.toNat),
    [p.reqLeft, p.reqStraight, p.reqRight].any
      (fun b => (List.range p.setCount.toNat).any fun i => b.toNat / 4 ^ i % 4 = 3),
    (p.present.getLsbD 0 && (List.range p.setCount.toNat).all fun i => p.reqLeft.toNat / 4 ^ i % 4 = 0) ||
      (p.present.getLsbD 1 && (List.range p.setCount.toNat).all fun i => p.reqStraight.toNat / 4 ^ i % 4 = 0) ||
      (p.present.getLsbD 2 && (List.range p.setCount.toNat).all fun i => p.reqRight.toNat / 4 ^ i % 4 = 0),
    missesDefault p,
    decide (p.loopToPoint.toNat < 5000 ∨ 80000 < p.loopToPoint.toNat),
    decide (p.clearing.toNat < 3000 ∨ 60000 < p.clearing.toNat),
    decide (p.stopMargin.toNat < 2000 ∨ 10000 < p.stopMargin.toNat ∨ p.loopToPoint.toNat ≤ p.stopMargin.toNat),
    decide (p.approachCeil.toNat < 100 ∨ 800 < p.approachCeil.toNat),
    decide (p.passingCeil.toNat < 100 ∨ 800 < p.passingCeil.toNat) ]

/-- R71: the record that a load carries. -/
def loadedRecord : JunctionRecord where
  id := p.id
  setCount := p.setCount.toNat
  left := if p.present.getLsbD 0 then some ((List.range p.setCount.toNat).map (requirementAt p.reqLeft)) else none
  straight := if p.present.getLsbD 1 then some ((List.range p.setCount.toNat).map (requirementAt p.reqStraight)) else none
  right := if p.present.getLsbD 2 then some ((List.range p.setCount.toNat).map (requirementAt p.reqRight)) else none
  dflt := namedDefault p
  loopToPoint := p.loopToPoint.toNat
  clearing := p.clearing.toNat
  stopMargin := p.stopMargin.toNat
  approachCeil := p.approachCeil.toNat
  passingCeil := p.passingCeil.toNat

theorem badRequirement_eq : badRequirement p = [p.reqLeft, p.reqStraight, p.reqRight].any
    (fun b => (List.range p.setCount.toNat).any fun i => b.toNat / 4 ^ i % 4 = 3) := by
  unfold badRequirement
  refine congrArg _ (funext fun b => ?_)
  rw [requirements_eq]
  split
  · next bad => exact bad.symm
  · next good => exact (Bool.eq_false_iff.mpr good).symm

theorem idleSelection_eq : idleSelection p =
    ((p.present.getLsbD 0 && (List.range p.setCount.toNat).all fun i => p.reqLeft.toNat / 4 ^ i % 4 = 0) ||
      (p.present.getLsbD 1 && (List.range p.setCount.toNat).all fun i => p.reqStraight.toNat / 4 ^ i % 4 = 0) ||
      (p.present.getLsbD 2 && (List.range p.setCount.toNat).all fun i => p.reqRight.toNat / 4 ^ i % 4 = 0)) := by
  have idle : ∀ sel, (loadRoute p sel).any (fun l => l.all fun q => q = .any) =
      (loadHas p sel && (List.range p.setCount.toNat).all fun i => (loadReqByte p sel).toNat / 4 ^ i % 4 = 0) := by
    intro sel
    unfold loadRoute
    cases loadHas p sel with
    | true => exact requirements_idle ..
    | false => rfl
  simp only [idleSelection, allSelections, idle, List.any_cons, List.any_nil, Bool.or_false, Bool.or_assoc]
  rfl

theorem loadDefault_eq : loadDefault p = if missesDefault p then none else some (namedDefault p) := by
  unfold loadDefault missesDefault namedDefault selectionOf
  have present : ∀ (has : Bool) (sel : Selection),
      (if has = true then some sel else none) = if has = false then none else some sel := fun has _ => by
    cases has <;> rfl
  generalize p.dflt.toNat = n
  match n with
  | 0 | 1 | 2 => simp [Option.filter_some, loadHas, present]
  | n + 3 => simp

theorem loadRoute_eq (good : badRequirement p = false) (sel : Selection) : loadRoute p sel =
    if loadHas p sel then some ((List.range p.setCount.toNat).map (requirementAt (loadReqByte p sel))) else none := by
  rw [badRequirement_eq] at good
  simp only [List.any_cons, List.any_nil, Bool.or_false, Bool.or_eq_false_iff] at good
  obtain ⟨left, straight, right⟩ := good
  have allowed : ((List.range p.setCount.toNat).any fun i => (loadReqByte p sel).toNat / 4 ^ i % 4 = 3) = false := by
    cases sel
    · exact left
    · exact straight
    · exact right
  rw [loadRoute, requirements_eq, allowed]
  rfl

/-- R70: the load is refused by the first check of Table 4-2 that fails, and else carries its record. -/
theorem checkLoad_eq : checkLoad p = firstFailing 0 (loadFails p) (loadedRecord p) := by
  simp only [loadFails, firstFailing_cons, decide_eq_true_eq, ← badRequirement_eq, ← idleSelection_eq]
  unfold checkLoad
  refine ite_congr rfl (fun _ => rfl) fun _ => ite_congr rfl (fun _ => rfl) fun _ => ?_
  refine ite_congr rfl (fun _ => rfl) fun good => ite_congr rfl (fun _ => rfl) fun _ => ?_
  rw [loadDefault_eq]
  have route := loadRoute_eq p (Bool.eq_false_iff.mpr good)
  cases missesDefault p with
  | true => rfl
  | false =>
    simp only [route]
    rfl

end checks

/-! ## The obligation -/

/-- Settles O33: the checks are Table 4-2's, and each outcome is the load at its owner with its reply. -/
theorem junctionLoadChecked : Obligations.JunctionLoadChecked := by
  rintro t n tag p s checks at_ dflt j misfits ready rfl rfl rfl rfl rfl rfl
  change (∀ k, (loadFails p).findIdx? id = some k → _) ∧ ((loadFails p).findIdx? id = none → _)
  have checked := checkLoad_eq p
  unfold firstFailing at checked
  refine ⟨fun k fails => ?_, fun passes => ?_⟩
  · rw [fails] at checked
    exact exec_answered rfl ready (State.junctionLoad_refused checked)
  · rw [passes] at checked
    have inUse := s.rtm.inUse_eq p.id
    refine ⟨fun used => ?_, fun free => ?_⟩
    · exact exec_answered rfl ready (State.junctionLoad_inUse checked (inUse.trans (decide_eq_true used)))
    · have free : s.rtm.inUse p.id = false := inUse.trans (decide_eq_false fun ⟨h, mem, same, beyond⟩ =>
        beyond (free h mem same))
      refine ⟨fun new full => ?_, fun room => ?_⟩
      · exact exec_answered rfl ready (State.junctionLoad_full checked free new full)
      · refine ⟨_, exec_rtmReplied rfl ready (State.junctionLoad_loaded (s := s.atTime t) checked free room), rfl, ?_,
          fun x other => ?_, ?_⟩
        · exact (find?_putRecord ..).trans (if_pos rfl)
        · exact (find?_putRecord ..).trans (if_neg other)
        · exact length_putRecord ..

end Sys2Proof.Machine
end

section
/-! O35: the selector buttons. -/

namespace Sys2Proof.Machine

variable {s : State} {t stood : Nat} {sel : Selection}

/-- R85: the state in which a taken press finds the head. -/
def State.pressed (t : Nat) (sel : Selection) (s : State) : State :=
  { s with now := max s.now t, rtm := { s.rtm.arm sel false with pendingSel := some sel } }

theorem exec_selectorPress_taken (long : 40 ≤ stood) (armed : s.rtm.armed sel = true) :
    exec (.selectorPress t stood sel) s = .next ((s.pressed t sel).selectHead sel) := by
  have press : (s.atTime t).selectorPress sel = (s.pressed t sel).selectHead sel := if_pos armed
  rw [← press]
  exact congrArg Host.Outcome.next (if_pos long)

theorem exec_selectorPress_ignored (ignored : stood < 40 ∨ s.rtm.armed sel = false) :
    exec (.selectorPress t stood sel) s = .next (s.atTime t) := by
  refine congrArg Host.Outcome.next ?_
  change (if 40 ≤ stood then (s.atTime t).selectorPress sel else s.atTime t) = s.atTime t
  split
  · next long =>
    have disarmed : s.rtm.armed sel = false := ignored.resolve_left (Nat.not_lt.mpr long)
    exact if_neg (by simp [disarmed])
  · rfl

@[simp] theorem State.pressed_plan : (s.pressed t sel).rtm.plan = s.rtm.plan := (Rtm.arm_frame ..).1

@[simp] theorem State.pressed_context : (s.pressed t sel).rtm.context = s.rtm.context := (Rtm.arm_frame ..).2.1

@[simp] theorem State.pressed_record : (s.pressed t sel).rtm.record = s.rtm.record :=
  Rtm.record_congr (Rtm.arm_frame ..).2.2.1

theorem State.pressed_lacks (id : Half) : (s.pressed t sel).rtm.lacks id sel = s.rtm.lacks id sel := by
  unfold Rtm.lacks
  rw [State.pressed_record]

theorem ExState.failed_iff (st : ExState) : st.failed = true ↔ st ∈ [ExState.refused, .wrongLeg, .timedOut] := by
  cases st <;> decide

theorem Amu.atStandstill_iff (a : Amu) : a.atStandstill = true ↔ a.standstill = .standstill := decide_eq_true_iff

/-- R86, R117: the presses that Table 4-5 refuses. -/
theorem State.pressed_refused {h : PlanEntry} {rest : List PlanEntry} (plan : s.rtm.plan = h :: rest)
    (refuses : (h.state = .waiting ∧ ∃ j, s.rtm.record h.id = some j ∧ j.route sel = none) ∨
      (h.state ∈ [ExState.sending, .awaiting, .queued, .setting, .locked, .contactLost, .unknown]) ∨
      (h.state ∈ [ExState.refused, .wrongLeg, .timedOut] ∧ (s.amu.standstill ≠ .standstill ∨
        ∃ j, s.rtm.record h.id = some j ∧ j.route sel = none))) :
    (s.pressed t sel).selectHead sel = (s.pressed t sel).requestRefuse .route := by
  have plan' : (s.pressed t sel).rtm.plan = h :: rest := State.pressed_plan.trans plan
  rcases refuses with ⟨waiting, lacks⟩ | running | ⟨failed, moving | lacks⟩
  · exact State.selectHead_lacks plan' waiting ((State.pressed_lacks _).trans (s.rtm.lacks_iff.mpr lacks))
  · have states : h.state ≠ .waiting ∧ h.state.failed = false := by
      revert running
      cases h.state <;> decide
    exact State.selectHead_refuses plan' states.1 fun failed => nomatch states.2.symm.trans failed
  · have beyond : h.state ≠ .waiting := fun waiting => by simp [waiting] at failed
    exact State.selectHead_refuses plan' beyond fun _ still => absurd ((Amu.atStandstill_iff _).mp still) moving
  · have beyond : h.state ≠ .waiting := fun waiting => by simp [waiting] at failed
    obtain ⟨j, held, absent⟩ := lacks
    refine State.selectHead_refuses plan' beyond fun _ _ j' held' => ?_
    rw [State.pressed_record, held] at held'
    cases held'
    exact absent

/-- Settles O35: a taken press goes by the head's state. -/
theorem selectorButtons : Obligations.SelectorButtons := by
  rintro t stood sel s _ rfl
  refine ⟨exec_selectorPress_ignored, ?_, fun long armed => ?_⟩
  · refine congrArg Host.Outcome.next ?_
    change (if 40 ≤ stood then _ else _) = _
    split <;> rfl
  · rw [exec_selectorPress_taken long armed]
    refine ⟨fun plan => ?_, fun h head waiting has => ?_, fun h head refuses => ?_,
      fun h head j held c context pc paging failed still has => ?_⟩
    · exact congrArg Host.Outcome.next (State.selectHead_nil (State.pressed_plan.trans plan) sel)
    · obtain ⟨rest, plan⟩ := List.head?_eq_some_iff.mp head
      have plan' : (s.pressed t sel).rtm.plan = h :: rest := State.pressed_plan.trans plan
      rw [State.selectHead_replaces plan' waiting ((State.pressed_lacks _).trans (s.rtm.lacks_false.mpr has)),
        State.replaceSelection_eq plan', plan]
      rfl
    · obtain ⟨rest, plan⟩ := List.head?_eq_some_iff.mp head
      exact congrArg Host.Outcome.next (State.pressed_refused plan refuses)
    · obtain ⟨rest, plan⟩ := List.head?_eq_some_iff.mp head
      have plan' : (s.pressed t sel).rtm.plan = h :: rest := State.pressed_plan.trans plan
      have failed := (ExState.failed_iff _).mpr failed
      rw [State.selectHead_reRequests plan' failed ((Amu.atStandstill_iff _).mpr still)
          ((congrFun State.pressed_record _).trans held) has,
        State.reRequest_eq plan' failed (State.pressed_context.trans context) paging j sel rfl, plan]
      refine ⟨_, rfl, rfl, ?_, ?_⟩
      · change Rtm.reRequested (decide (s.lpt.contact = some h.id)) .. = _
        simp only [Rtm.reRequested, decide_eq_true_eq]
        rfl
      · change Clp.raise _ _ = _
        simp only [decide_eq_true_eq]
        rfl

end Sys2Proof.Machine
end

section
/-! SUPPORT. What an event of the Route Manager hands on (R126), as a function of the state that the event finds: the ROUTE
post of Table R121 with the braking curve of R122, and the latches, reports, lifts and posts in their order. -/

namespace Sys2Proof.Machine

/-! ## The braking curve (R122) -/

/-- R122: the bits below `k` are found while the root lies within 2^k of `r`. -/
theorem isqrtFrom_eq (n : Nat) : ∀ k r : Nat, r * r ≤ n → n < (r + 2 ^ k) * (r + 2 ^ k) → isqrtFrom n k r = Nat.sqrt n
  | 0, r, low, high => Nat.eq_sqrt.mpr ⟨low, high⟩
  | k + 1, r, low, high => by
    unfold isqrtFrom
    split
    · next fits =>
      refine isqrtFrom_eq n k _ fits ?_
      rwa [Nat.pow_succ, Nat.mul_two, ← Nat.add_assoc] at high
    · next above => exact isqrtFrom_eq n k r low (Nat.not_le.mp above)

/-- R122: eleven bits hold the root of every argument that the curve forms. -/
theorem isqrt_eq {n : Nat} (small : n < 2048 * 2048) : isqrt n = Nat.sqrt n :=
  isqrtFrom_eq n 11 0 (Nat.zero_le n) small

theorem curve_eq (a : Byte) (e : Int) : curve a.toNat e = brakingCurve a.toNat e := by
  unfold curve brakingCurve
  split
  · rfl
  · refine isqrt_eq ?_
    have slow : a.toNat ≤ 255 := Nat.le_of_lt_succ a.isLt
    have near : (min e Config.curveTop).toNat / 10 ≤ 7800 := by
      have : min e Config.curveTop ≤ 78000 := Int.min_le_right ..
      omega
    calc 2 * a.toNat * ((min e Config.curveTop).toNat / 10) ≤ 2 * 255 * 7800 := by gcongr
      _ < 2048 * 2048 := by decide

theorem approachSpeed_eq (p : Params) (j : JunctionRecord) (d : Int) :
    approachSpeed p.curveDecel.toNat j d = curveSpeed p j d := by
  rw [approachSpeed, curve_eq, curveSpeed]

/-! ## The ROUTE post (R121) -/

/-- A post as it is handed on. -/
def State.postGiven (post : Option (Kind × Nat × Byte)) (s : State) : State :=
  match post with
  | some (kind, ceiling, reason) => s.post .route kind ceiling reason
  | none => s

theorem State.postGiven_approach (j : JunctionRecord) (d : Int) (s : State) :
    s.postGiven (some (approachPost (approachSpeed s.params.curveDecel.toNat j d))) = s.postCurve j d := by
  rw [approachSpeed_eq]
  unfold State.postCurve approachPost
  split <;> rfl

/-- R121: the ROUTE post of a head beyond WAITING, taken by a state with the same records and parameters. -/
theorem State.postGiven_routePost {r : Rtm} {h : PlanEntry} {rest : List PlanEntry} {c : Context} (plan : r.plan = h :: rest)
    (context : r.context = some c) (beyond : h.state ≠ .waiting) (track : Pos) {s : State}
    (records : r.record = s.rtm.record) {e : PlanEntry} (same : e.id = h.id) :
    s.postGiven (routePost s.params r track) = State.postFor e h.state (distance c.loopMark track) s := by
  obtain ⟨id, selection, origin, state⟩ := h
  dsimp only at beyond same
  subst same
  unfold State.postFor
  simp only [routePost, plan, context, records]
  cases state with
  | waiting => exact absurd rfl beyond
  | unknown => rfl
  | locked =>
    cases s.rtm.record e.id with
    | none => rfl
    | some j => rfl
  | _ =>
    cases s.rtm.record e.id with
    | none => rfl
    | some j => exact State.postGiven_approach j _ s

/-! ## The hand-on does not read the moment, the Route Manager or the Loop Transceiver -/

/-- The state at another moment, with another Route Manager and Loop Transceiver. -/
def State.within (now : Nat) (r : Rtm) (l : Lpt) (s : State) : State := { s with now := now, rtm := r, lpt := l }

section within
variable (now : Nat) (r : Rtm) (l : Lpt) (s : State)

theorem State.post_within (slot : Slot) (kind : Kind) (ceiling : Nat) (reason : Byte) :
    (s.within now r l).post slot kind ceiling reason = (s.post slot kind ceiling reason).within now r l := by
  by_cases stands : ∃ old, s.drc.table.get slot = some old ∧ old.kind = kind ∧ old.reason = reason
  · obtain ⟨old, held, same⟩ := stands
    by_cases ceilings : old.ceiling = storedCeiling kind ceiling
    · rw [State.post_standing (s := s.within now r l) held ⟨same.1, ceilings, same.2⟩,
        State.post_standing held ⟨same.1, ceilings, same.2⟩]
    · rw [State.post_recast (s := s.within now r l) held ceilings same, State.post_recast held ceilings same]
      rfl
  · have changed : ∀ old, s.drc.table.get slot = some old → ¬(old.kind = kind ∧ old.reason = reason) :=
      fun old held same => stands ⟨old, held, same⟩
    rw [State.post_posted (s := s.within now r l) changed, State.post_posted changed]
    rfl

theorem State.lift_within (slot : Slot) : (s.within now r l).lift slot = (s.lift slot).within now r l := by
  cases held : s.drc.table.get slot with
  | none => rw [State.lift_empty (s := s.within now r l) held, State.lift_empty held]
  | some e =>
    rw [State.lift_held (s := s.within now r l) held, State.lift_held held]
    rfl

theorem State.postGiven_within (post : Option (Kind × Nat × Byte)) :
    (s.within now r l).postGiven post = (s.postGiven post).within now r l := by
  cases post with
  | none => rfl
  | some p => exact State.post_within ..

/-- R126: what an event without a junction warning hands on, from the state that it found. -/
theorem State.handOn_within (t : Nat) {e : Emit} (silent : e.warn = false) : (s.within now r l).handOn e =
    (s.handedOn t e.latches e.reports e.lift (State.postGiven e.post) false).within now r l := by
  have latched : ∀ m : State, e.latches.foldl (fun m c => m.latch c 0) (m.within now r l) =
      (e.latches.foldl (fun m c => m.latch c 0) m).within now r l := fun m =>
    (List.foldl_hom (State.within now r l) fun _ _ => rfl)
  have reported : ∀ m : State, e.reports.foldl (fun m c => m.raise (.junction c)) (m.within now r l) =
      (e.reports.foldl (fun m c => m.raise (.junction c)) m).within now r l := fun m =>
    (List.foldl_hom (State.within now r l) fun _ _ => rfl)
  have lifted : ∀ m : State, (if e.lift then (m.within now r l).lift .route else m.within now r l) =
      (if e.lift then m.lift .route else m).within now r l := fun m => by
    split
    · exact State.lift_within ..
    · rfl
  unfold State.handOn State.handedOn
  simp only [silent, latched, reported, lifted, Bool.false_eq_true, if_false]
  exact State.postGiven_within ..

end within

/-! ## What of the state the hand-on reaches -/

section reach
variable {s : State} {t : Nat} {codes : List FaultCode} {reports : List JunctionReport} {lifts : Bool}
  {post : State → State}

/-- The drive after a lift depends on the drive and the record alone. -/
theorem State.lift_drc_congr {m : State} (drc : m.drc = s.drc) (params : m.params = s.params) (slot : Slot) :
    (m.lift slot).drc = (s.lift slot).drc := by
  cases held : s.drc.table.get slot with
  | none => rw [State.lift_empty held, State.lift_empty (s := m) (by rw [drc, held]), drc]
  | some e =>
    rw [State.lift_held held, State.lift_held (s := m) (by rw [drc, held])]
    simp only [State.lifted, drc, params]

/-- R120: an event that lifts and does not post reaches the drive by the lift alone. -/
theorem State.handedOn_lift_drc : (s.handedOn t codes reports true id false).drc = (s.lift .route).drc :=
  State.lift_drc_congr (by simp) (by simp) .route

/-- R179: reports, lifts and posts leave the fault set that the latches have made. -/
theorem State.handedOn_faults (posts : ∀ m : State, (post m).clp.faults = m.clp.faults) :
    (s.handedOn t codes reports lifts post false).clp.faults =
      (codes.foldl (fun m c => m.latch c 0) s).clp.faults := by
  have reported : ∀ m : State, (reports.foldl (fun m r => m.raise (.junction r)) m).clp.faults = m.clp.faults := by
    induction reports with
    | nil => exact fun _ => rfl
    | cons report rest ih =>
      intro m
      exact (ih (m.raise (.junction report))).trans (Clp.raise_frame _ _).2.2.1
  refine (posts _).trans ?_
  split
  · exact (State.lift_faults ..).trans (reported _)
  · exact reported _

/-- R179: the first fault that an event latches stands in the fault set after it. -/
theorem State.handedOn_latched {code : FaultCode} (room : HasRoom code 0 s)
    (posts : ∀ m : State, (post m).clp.faults = m.clp.faults) :
    Latched code 0 (s.handedOn t (code :: codes) reports lifts post false) := by
  have first : Latched code 0 (s.latch code 0) := Clp.latch_holds _ _ _ _ room
  have further : ∀ m : State, Latched code 0 m → Latched code 0 (codes.foldl (fun m c => m.latch c 0) m) := by
    induction codes with
    | nil => exact fun _ => id
    | cons c rest ih =>
      intro m held
      have one : Latchings (fun _ => True) 1 m.clp.faults (m.latch c 0).clp.faults :=
        Clp.latch_latchings trivial ..
      exact ih _ (one.latched held)
  unfold Latched
  rw [State.handedOn_faults posts]
  exact further _ first

end reach
end Sys2Proof.Machine
end

section
/-! SUPPORT. Of the part, an event of the Route Manager without a junction warning reaches the drive and the cab link
alone by what it hands on (R126). -/

namespace Sys2Proof.Machine

/-- The state `m` differs from `s` in the drive and the cab link at most. -/
def ByDriveAndLink (s m : State) : Prop := m = { s with drc := m.drc, clp := m.clp }

namespace ByDriveAndLink

theorem trans {a b c : State} (first : ByDriveAndLink a b) (second : ByDriveAndLink b c) : ByDriveAndLink a c :=
  Eq.trans second (congrArg (fun m : State => { m with drc := c.drc, clp := c.clp }) first)

variable (s : State)

theorem foldl {α : Type} (f : State → α → State) (step : ∀ m a, ByDriveAndLink m (f m a)) (l : List α) :
    ByDriveAndLink s (l.foldl f s) := by
  induction l generalizing s with
  | nil => rfl
  | cons a l ih => exact (step s a).trans (ih (f s a))

theorem lift (slot : Slot) : ByDriveAndLink s (s.lift slot) := by
  cases held : s.drc.table.get slot with
  | none => rw [State.lift_empty held]; rfl
  | some e => rw [State.lift_held held]; rfl

theorem post (slot : Slot) (kind : Kind) (ceiling : Nat) (reason : Byte) :
    ByDriveAndLink s (s.post slot kind ceiling reason) := by
  by_cases stands : ∃ old, s.drc.table.get slot = some old ∧ old.kind = kind ∧ old.reason = reason
  · obtain ⟨old, held, same⟩ := stands
    by_cases ceilings : old.ceiling = storedCeiling kind ceiling
    · rw [State.post_standing held ⟨same.1, ceilings, same.2⟩]; rfl
    · rw [State.post_recast held ceilings same]; rfl
  · rw [State.post_posted fun old held same => stands ⟨old, held, same⟩]; rfl

theorem postGiven (given : Option (Kind × Nat × Byte)) : ByDriveAndLink s (s.postGiven given) := by
  cases given with
  | none => rfl
  | some p => exact post ..

theorem handedOn (t : Nat) (codes : List FaultCode) (reports : List JunctionReport) (lifts : Bool)
    (given : Option (Kind × Nat × Byte)) :
    ByDriveAndLink s (s.handedOn t codes reports lifts (State.postGiven given) false) := by
  have latched := foldl s (fun m c => m.latch c 0) (fun _ _ => rfl) codes
  have reported := latched.trans (foldl _ (fun m r => m.raise (.junction r)) (fun _ _ => rfl) reports)
  cases lifts with
  | true => exact (reported.trans (lift _ .route)).trans (postGiven ..)
  | false => exact reported.trans (postGiven ..)

end ByDriveAndLink
end Sys2Proof.Machine
end

section
/-! O37: the approach interval and the flashing lamp. -/

namespace Sys2Proof.Machine

section approach
variable {p : Params} {r : Rtm} {h : PlanEntry} {j : JunctionRecord} {d : Int}

/-! ## The distances of the head (R120, R123) -/

theorem passingDistance_unknown (unknown : h.state = .unknown) : passingDistance p r h = some (p.fallback.toNat : Int) := by
  simp only [passingDistance, unknown]

theorem passingDistance_known (known : h.state ≠ .unknown) (held : r.record h.id = some j) :
    passingDistance p r h = some ((j.loopToPoint : Int) + j.clearing) := by
  simp only [passingDistance, held]

theorem inZone_unknown (unknown : h.state = .unknown) : inZone p r h d = decide (d < (p.fallback.toNat : Int)) := by
  simp only [inZone, unknown]

theorem inZone_known (known : h.state ≠ .unknown) (held : r.record h.id = some j) : inZone p r h d =
    (decide ((j.loopToPoint : Int) - j.stopMargin ≤ d) && decide (d < (j.loopToPoint : Int) + j.clearing)) := by
  simp only [inZone, held]

/-! ## The post of R121, by the head's state -/

theorem State.postFor_unknown (e : PlanEntry) (d : Int) (s : State) : State.postFor e .unknown d s = s.postUnknown := by
  simp only [State.postFor]

theorem State.postFor_locked {s : State} (held : s.rtm.record h.id = some j) :
    State.postFor h .locked d s = s.postPassing j := by
  simp only [State.postFor, held]

theorem State.postFor_approach {s : State} {st : ExState} (held : s.rtm.record h.id = some j) (known : st ≠ .unknown)
    (approaching : st ≠ .locked) : State.postFor h st d s = s.postCurve j d := by
  simp only [State.postFor, held]

theorem State.postFor_reach {e : PlanEntry} {st : ExState} {d : Int} {s : State} :
    ByDriveAndLink s (State.postFor e st d s) := by
  unfold State.postFor
  split
  · exact ByDriveAndLink.post ..
  · rfl
  · exact ByDriveAndLink.post ..
  · unfold State.postCurve
    split
    · exact ByDriveAndLink.post ..
    · exact ByDriveAndLink.post ..

end approach

/-! ## The interval (R119 to R121) -/

section interval
variable {s : State} {r : Rtm} {h : PlanEntry} {rest : List PlanEntry} {c : Context} {d limit : Int} {t : Nat}

theorem State.approachSteps_head (plan : s.rtm.plan = h :: rest) (context : s.rtm.context = some c)
    (passes : passingDistance s.params s.rtm h = some limit) : s.approachSteps =
      if limit ≤ distance c.loopMark s.amu.trackMm then s.passHead h (distance c.loopMark s.amu.trackMm)
      else s.superviseHead h (distance c.loopMark s.amu.trackMm) := by
  simp only [State.approachSteps, plan, context, passes]

/-- R119: the interval after a due one comes 20 ms later. -/
def Rtm.intervalBegun (r : Rtm) : Rtm := { r with intervalDue := r.intervalDue + 20000 }

/-- R119: the state whose due approach interval begins. -/
def State.intervalBegun (t : Nat) (s : State) : State := s.within (max s.now t) s.rtm.intervalBegun s.lpt

theorem exec_approachInterval_early (early : max s.now t < s.rtm.intervalDue) :
    exec (.approachInterval t) s = .next { s with now := max s.now t } :=
  congrArg _ (if_neg (Nat.not_le.mpr early))

theorem exec_approachInterval_due (due : s.rtm.intervalDue ≤ max s.now t) :
    exec (.approachInterval t) s = .next (s.intervalBegun t).approachSteps :=
  congrArg _ (if_pos due)

/-- R120: what the passing of the head hands on, from the state before the interval. -/
def State.passed (t : Nat) (h : PlanEntry) (d : Int) (s : State) : State :=
  let overrun := h.state ≠ .locked && h.state ≠ .unknown
  s.handedOn t (if overrun then [.junctionOverrun] else []) [.passed h.id h.selection h.origin h.state d overrun] true
    (State.postGiven none) false

/-- R120: the Route Manager once its head has passed. -/
def Rtm.passed (now : Nat) (r : Rtm) : Rtm := Rtm.setLamps now { r.dropHead with pendingSel := none }

theorem State.passHead_within (now : Nat) (l : Lpt) (t : Nat) : (s.within now r l).passHead h d =
    (s.passed t h d).within now (r.passed now) l :=
  State.handOn_within (e := { Emit.nothing with
    latches := _, reports := [.passed h.id h.selection h.origin h.state d _], lift := true }) now (r.passed now) l s t rfl

/-- R121: the supervision of a head beyond WAITING posts for it on the state before the interval. -/
theorem State.superviseHead_within (plan : r.plan = h :: rest) (context : r.context = some c) (beyond : h.state ≠ .waiting)
    (records : r.junctions = s.rtm.junctions) (now : Nat) (l : Lpt) : (s.within now r l).superviseHead h d =
      (State.postFor h h.state (distance c.loopMark s.amu.trackMm) s).within now
        { r with zone := inZone s.params r h d } l := by
  rw [← State.postGiven_routePost plan context beyond _ (Rtm.record_congr records) rfl]
  exact State.handOn_within (e := { Emit.nothing with post := _ }) now { r with zone := inZone s.params r h d } l s 0 rfl

theorem State.passed_lift_drc : (s.passed t h d).drc = (s.lift .route).drc :=
  State.handedOn_lift_drc (t := t)

theorem State.passed_reach : ByDriveAndLink s (s.passed t h d) :=
  ByDriveAndLink.handedOn s t _ _ true none

theorem State.passed_overrun (room : HasRoom .junctionOverrun 0 s)
    (overrun : h.state ≠ .locked ∧ h.state ≠ .unknown) : Latched .junctionOverrun 0 (s.passed t h d) := by
  have latches : (h.state ≠ .locked && h.state ≠ .unknown) = true := by simpa using overrun
  unfold State.passed
  rw [latches]
  exact State.handedOn_latched room fun _ => rfl

/-- R120, R124: the Route Manager after a passing, but for the lamps. -/
theorem Rtm.passed_eq (now : Nat) (r : Rtm) : r.passed now = { r with
    plan := r.plan.tail, context := none, freshDue := false, zone := false, pendingSel := none
    green := (r.passed now).green, amber := (r.passed now).amber, red := (r.passed now).red
    flashStart := (r.passed now).flashStart } :=
  Rtm.setLamps_eq now { r.dropHead with pendingSel := none }

theorem Rtm.passed_lamps {now : Nat} (tail : ∀ e ∈ r.plan.tail, e.state = .waiting) :
    (r.passed now).lampsAre false false false := by
  have waiting : ({ r.dropHead with pendingSel := none } : Rtm).headState = .waiting := by
    cases rest : r.plan.tail with
    | nil => exact Rtm.headState_nil (by rw [← rest]; rfl)
    | cons e l => exact (Rtm.headState_cons (by rw [← rest]; rfl)).trans (tail e (by simp [rest]))
  rw [Rtm.passed, Rtm.setLamps_waiting waiting]
  exact ⟨rfl, rfl, rfl, rfl⟩

/-- R120: the passing of the head, in an interval that is due. -/
theorem approachInterval_passes (due : s.rtm.intervalDue ≤ max s.now t) (plan : s.rtm.plan = h :: rest)
    (context : s.rtm.context = some c) (passes : passingDistance s.params s.rtm h = some limit)
    (track : d = distance c.loopMark s.amu.trackMm) (reached : limit ≤ d) : exec (.approachInterval t) s =
      .next ((s.passed t h d).within (max s.now t) (s.rtm.intervalBegun.passed (max s.now t)) s.lpt) := by
  subst track
  rw [exec_approachInterval_due due, State.approachSteps_head (s := s.intervalBegun t) plan context passes]
  exact congrArg _ ((if_pos reached).trans (State.passHead_within ..))

/-- R121, R123: the supervision of the head, in an interval that is due. -/
theorem approachInterval_supervises (due : s.rtm.intervalDue ≤ max s.now t) (plan : s.rtm.plan = h :: rest)
    (context : s.rtm.context = some c) (passes : passingDistance s.params s.rtm h = some limit)
    (beyond : h.state ≠ .waiting) (track : d = distance c.loopMark s.amu.trackMm) (before : d < limit) :
    exec (.approachInterval t) s = .next ((State.postFor h h.state d s).within (max s.now t)
      { s.rtm.intervalBegun with zone := inZone s.params s.rtm h d } s.lpt) := by
  subst track
  rw [exec_approachInterval_due due, State.approachSteps_head (s := s.intervalBegun t) plan context passes]
  exact congrArg _ ((if_neg (Int.not_le.mpr before)).trans
    (State.superviseHead_within (r := s.rtm.intervalBegun) plan context beyond rfl ..))

end interval

/-! ## The flashing lamp (R124) -/

section lamp
variable {s : State} {t : Nat}

theorem exec_amberFlash_due {st : Nat} (unknown : s.rtm.headState = .unknown) (running : s.rtm.flashStart = some st)
    (due : st + 500000 ≤ max s.now t) : exec (.amberFlash t) s = .next { s with
      now := max s.now t, rtm := { s.rtm with amber := !s.rtm.amber, flashStart := some (max s.now t) } } :=
  congrArg _ (if_pos ⟨unknown, expired_iff.mpr ⟨st, running, due⟩⟩)

theorem exec_amberFlash_early (early : (∀ st, s.rtm.flashStart = some st → max s.now t < st + 500000) ∨
    s.rtm.headState ≠ .unknown) : exec (.amberFlash t) s = .next { s with now := max s.now t } := by
  refine congrArg _ (if_neg ?_)
  rintro ⟨unknown, due⟩
  exact early.elim (fun early => not_expired early due) (· unknown)

end lamp

/-- Settles O37, through what an event hands on (R126): the lift of a passed head, or the post of a supervised one, is
taken by the state that the interval finds. -/
theorem approachInterval : Obligations.ApproachInterval := by
  unfold Obligations.ApproachInterval
  rintro t s _ h c d limit overrun rfl
  refine ⟨exec_approachInterval_early, fun due => ⟨fun idle => ?_, fun head context beyond track overruns passing => ?_⟩,
    fun head unknown st running due => ?_, exec_amberFlash_early⟩
  · rw [exec_approachInterval_due due]
    exact congrArg _ (State.approachSteps_idle (s := s.intervalBegun t) idle)
  · obtain ⟨rest, plan⟩ := List.head?_eq_some_iff.mp head
    have passes : passingDistance s.params s.rtm h = some limit := by
      obtain ⟨unknown, rfl⟩ | ⟨known, j, held, rfl⟩ := passing
      · exact passingDistance_unknown unknown
      · exact passingDistance_known known held
    constructor
    · intro reached
      have same : overrun = (h.state ≠ .locked && h.state ≠ .unknown) := by
        rw [Bool.eq_iff_iff, overruns]
        simp
      refine ⟨_, approachInterval_passes due plan context passes track reached, ?_,
        Rtm.passed_eq _ s.rtm.intervalBegun, Rtm.passed_lamps (r := s.rtm.intervalBegun),
        fun latches room => State.passed_overrun room (overruns.mp latches), ?_⟩
      · rw [← State.passed_lift_drc (t := t) (h := h) (d := d)]
        exact congrArg (State.within _ _ _) State.passed_reach
      · rw [same]
        rfl
    · intro before
      refine ⟨_, approachInterval_supervises due plan context passes beyond track before,
        congrArg (State.within _ _ _) State.postFor_reach, fun unknown => ?_, fun known j held => ?_⟩
      · obtain ⟨-, rfl⟩ : h.state = .unknown ∧ limit = s.params.fallback.toNat := by
          simpa [unknown] using passing
        rw [unknown, State.postFor_unknown]
        exact ⟨(inZone_unknown unknown).trans (decide_eq_true before), rfl, rfl⟩
      · have limits : limit = j.loopToPoint + j.clearing := by
          simpa [passingDistance_known known held, eq_comm] using passes
        refine ⟨?_, fun locked => ?_, fun approaching => ?_⟩
        · rw [State.within, inZone_known known held]
          simp [← limits, before]
        · rw [locked, State.postFor_locked held]
          exact ⟨rfl, rfl⟩
        · rw [State.postFor_approach held known approaching]
          exact ⟨rfl, rfl⟩
  · obtain ⟨rest, plan⟩ := List.head?_eq_some_iff.mp head
    exact exec_amberFlash_due ((Rtm.headState_cons plan).trans unknown) running due

end Sys2Proof.Machine
end

section
/-! SUPPORT. What a beacon event does once the head stands (R105 to R116, R126): of the plan it moves the head's state alone,
and a first contact hands on its latches, reports and posts to the state that the beacon finds. -/

namespace Sys2Proof.Machine

/-! ## The posts of an event, by the records and the parameters that they read -/

/-- R126: the post of an event is taken by a state that the latches, reports and the lift have not moved beyond the drive
and the cab link. -/
theorem State.handedOn_congr {s : State} {t : Nat} {codes : List FaultCode} {reports : List JunctionReport} {lifts : Bool}
    {post post' : State → State} (same : ∀ m, ByDriveAndLink s m → post m = post' m) :
    s.handedOn t codes reports lifts post false = s.handedOn t codes reports lifts post' false :=
  same _ (ByDriveAndLink.handedOn s t codes reports lifts none)

/-! ## A head beyond WAITING whose state a beacon has changed (R121, R126) -/

section beacon
variable {s : State} {r : Rtm} {h : PlanEntry} {rest : List PlanEntry} {c : Context} {b : Beacon} {e : Emit}

theorem State.handOnBeacon_rtm {m : State} (before : ExState) (controller : Nat) (faults : List FaultCode) (warn : Bool) :
    (m.handOnBeacon before controller faults warn e).rtm = m.rtm.setLamps m.now := by
  unfold State.handOnBeacon
  dsimp only
  exact (State.handOn_frame ..).2.2.2.2.1

theorem State.handOnBeacon_within {before : ExState} (plan : r.plan = h :: rest) (context : r.context = some c)
    (changed : h.state ≠ before) (beyond : h.state ≠ .waiting) (records : r.junctions = s.rtm.junctions) (now : Nat)
    (l : Lpt) (t controller : Nat) (faults : List FaultCode) :
    (s.within now r l).handOnBeacon before controller faults false e =
      (s.handedOn t (e.latches ++ faults)
        (e.reports ++ [.state h.id h.selection h.origin before h.state
          (c.paging.map fun pc => (pc.answer, pc.index, pc.sends, pc.counter)) c.bad
          (distance c.loopMark s.amu.trackMm) (some controller)])
        e.lift (State.postFor h h.state (distance c.loopMark s.amu.trackMm)) false).within now (r.setLamps now) l := by
  obtain ⟨lampsPlan, lampsContext, lampsRecords, -⟩ := Rtm.setLamps_frame now r
  have report : r.stateReport before s.amu.trackMm (some controller) = [.state h.id h.selection h.origin before h.state
      (c.paging.map fun pc => (pc.answer, pc.index, pc.sends, pc.counter)) c.bad (distance c.loopMark s.amu.trackMm)
      (some controller)] := by
    simp only [Rtm.stateReport, plan, context, if_neg changed]
  have posts : ∀ m, ByDriveAndLink s m → m.postGiven (routePost s.params (r.setLamps now) s.amu.trackMm) =
      State.postFor h h.state (distance c.loopMark s.amu.trackMm) m := fun m reached => by
    have params : m.params = s.params := by rw [reached]
    have rtm : m.rtm = s.rtm := by rw [reached]
    rw [← params]
    refine State.postGiven_routePost (lampsPlan.trans plan) (lampsContext.trans context) beyond _ ?_ rfl
    exact Rtm.record_congr (by rw [lampsRecords, records, rtm])
  rw [← State.handedOn_congr posts, ← report]
  obtain ⟨one, given⟩ : ∃ one, r.stateReport before s.amu.trackMm (some controller) = [one] := ⟨_, report⟩
  rw [given]
  have run := State.handOn_within (e := { e with
    latches := e.latches ++ faults
    reports := e.reports ++ [one]
    post := routePost s.params (r.setLamps now) s.amu.trackMm
    warn := false }) now (r.setLamps now) l s t rfl
  rw [← run]
  unfold State.handOnBeacon
  simp only [State.within, given, List.cons_ne_nil, if_false]

/-! ## The exchange rules on the plan -/

/-- R105 to R116: a beacon moves of the plan the state of its head alone. -/
theorem State.exchange_plan {m : State} (plan : m.rtm.plan = h :: rest) (b : Beacon) (e : Emit) :
    (∃ st, (m.exchange b e).rtm.plan = { h with state := st } :: rest) ∧
    (m.exchange b e).rtm.junctions = m.rtm.junctions ∧ (m.exchange b e).rtm.pendingSel = m.rtm.pendingSel := by
  unfold State.exchange
  simp only [plan]
  split
  · split
    · simp only [State.firstContact, State.handOnBeacon_rtm, Rtm.setHead_cons plan, Rtm.setLamps_frame, and_true]
      exact ⟨_, rfl⟩
    · simp only [State.enterUnknown, State.handOnBeacon_rtm, Rtm.setHead_cons plan, Rtm.setLamps_frame, and_true]
      exact ⟨_, rfl⟩
  · split
    · simp only [State.beaconMoves, State.handOnBeacon_rtm, Rtm.setHead_cons plan, Rtm.setLamps_frame, and_true]
      exact ⟨_, rfl⟩
    · simp only [State.handOn_frame, and_true]
      exact ⟨_, plan⟩

theorem distance_self (x : Pos) : distance x x = 0 := by simp [distance]

/-- R126: what the STATE report shows of the page fields. -/
def PageContext.shown (pc : PageContext) : Answer × Nat × Nat × Nat := (pc.answer, pc.index, pc.sends, pc.counter)

theorem PageContext.written_shown (w : Option (Bool × Half)) (pc : PageContext) : (pc.written w).shown = pc.shown := by
  cases w <;> rfl

/-- R105, R106: a head that takes its first contact in the state `st` stands at its loop mark. -/
theorem State.firstBeacon_within {st : ExState} {paging : Option PageContext}
    (plan : r.plan = { h with state := st } :: rest)
    (context : r.context = some { loopMark := s.amu.trackMm, paging := paging, resume := none, bad := 0 })
    (beyond : st ≠ .waiting) (records : r.junctions = s.rtm.junctions) (now : Nat) (l : Lpt) (t controller : Nat)
    (faults : List FaultCode) (e : Emit) : (s.within now r l).handOnBeacon .waiting controller faults false e =
      (s.handedOn t (e.latches ++ faults)
        (e.reports ++ [.state h.id h.selection h.origin .waiting st (paging.map PageContext.shown) 0 0 (some controller)])
        e.lift (State.postFor h st 0) false).within now (r.setLamps now) l := by
  have run := State.handOnBeacon_within (e := e) plan context beyond beyond records now l t controller faults
  rw [distance_self] at run
  exact run

/-- R105, R106: the state to which a first contact takes the head. -/
def Rtm.firstState (r : Rtm) (id : Half) : ExState := if r.record id = none then .unknown else .sending

/-- R105, R106: the Route Manager once its head has taken its first contact in the state `st`. -/
def Rtm.contacted (st : ExState) (track : Pos) (paging : Option PageContext) (r : Rtm) : Rtm :=
  { r.setHead st with context := some { loopMark := track, paging := paging, resume := none, bad := 0 } }

theorem Rtm.contacted_plan {st : ExState} {track : Pos} {paging : Option PageContext} (plan : r.plan = h :: rest) :
    (r.contacted st track paging).plan = { h with state := st } :: rest := by
  rw [Rtm.contacted, Rtm.setHead_cons plan]

theorem Rtm.contacted_junctions {st : ExState} {track : Pos} {paging : Option PageContext}
    (plan : r.plan = h :: rest) : (r.contacted st track paging).junctions = r.junctions := by
  rw [Rtm.contacted, Rtm.setHead_cons plan]

/-- R105: the first contact of a head with a record. -/
theorem State.firstContact_within (plan : r.plan = h :: rest) (records : r.junctions = s.rtm.junctions) (now : Nat)
    (l : Lpt) (t : Nat) (j : JunctionRecord) (b : Beacon) (e : Emit) :
    ∃ r' l', (s.within now r l).firstContact h j b e = (s.handedOn t (e.latches ++ [])
      (e.reports ++ [.state h.id h.selection h.origin .waiting .sending (some (.none, 0, 1, 0)) 0 0 (some b.controller)])
      e.lift (State.postFor h .sending 0) false).within now r' l' := by
  obtain ⟨l', w, sent⟩ : ∃ l' w, l.slot b.junction s.params.vehicle
      (pageRequest .first (firstPaging (j.pageList h.selection)) 0) = (l', w) := ⟨_, _, rfl⟩
  have fields : (some ((firstPaging (j.pageList h.selection)).written w)).map PageContext.shown = some (.none, 0, 1, 0) :=
    congrArg some (PageContext.written_shown w _)
  have step : (s.within now r l).firstContact h j b e =
      State.handOnBeacon .waiting b.controller [] false e (s.within now
        (r.contacted .sending s.amu.trackMm (some ((firstPaging (j.pageList h.selection)).written w))) l') := by
    simp only [State.firstContact, State.within, sent]
    rfl
  have run := State.firstBeacon_within (s := s)
    (r := r.contacted .sending s.amu.trackMm (some ((firstPaging (j.pageList h.selection)).written w)))
    (Rtm.contacted_plan plan) rfl nofun ((Rtm.contacted_junctions plan).trans records) now l' t b.controller [] e
  rw [fields] at run
  exact ⟨_, _, step.trans run⟩

/-- R106: the first contact of a head without one. -/
theorem State.enterUnknown_within (plan : r.plan = h :: rest) (records : r.junctions = s.rtm.junctions) (now : Nat)
    (l : Lpt) (t : Nat) (b : Beacon) (e : Emit) :
    ∃ r' l', (s.within now r l).enterUnknown b e = (s.handedOn t (e.latches ++ [.junctionUnknown])
      (e.reports ++ [.state h.id h.selection h.origin .waiting .unknown none 0 0 (some b.controller)])
      e.lift (State.postFor h .unknown 0) false).within now r' l' := by
  have run := State.firstBeacon_within (s := s)
    (r := { r.contacted .unknown s.amu.trackMm none with flashStart := none })
    (Rtm.contacted_plan plan (st := .unknown) (track := s.amu.trackMm) (paging := none)) rfl nofun
    ((Rtm.contacted_junctions plan (st := .unknown) (track := s.amu.trackMm) (paging := none)).trans records) now
    (l.slot b.junction s.params.vehicle .nothing).1 t b.controller [.junctionUnknown] e
  exact ⟨_, _, run⟩

/-- R105, R106: a head in WAITING takes its first contact, and the event hands on what it has gathered with that. -/
theorem State.exchange_first (plan : r.plan = h :: rest) (waiting : h.state = .waiting)
    (records : r.junctions = s.rtm.junctions) (now : Nat) (l : Lpt) (t : Nat) (b : Beacon) (e : Emit) :
    ∃ r' l', (s.within now r l).exchange b e =
      (s.handedOn t (e.latches ++ if s.rtm.firstState h.id = .unknown then [.junctionUnknown] else [])
        (e.reports ++ [.state h.id h.selection h.origin .waiting (s.rtm.firstState h.id)
          (if s.rtm.firstState h.id = .unknown then none else some (.none, 0, 1, 0)) 0 0 (some b.controller)])
        e.lift (State.postFor h (s.rtm.firstState h.id) 0) false).within now r' l' := by
  have lookup : r.record h.id = s.rtm.record h.id := by rw [Rtm.record_congr records]
  cases held : s.rtm.record h.id with
  | some j =>
    have first : s.rtm.firstState h.id = .sending := if_neg (by simp [held])
    have exchange : (s.within now r l).exchange b e = (s.within now r l).firstContact h j b e := by
      simp only [State.exchange, State.within, plan, waiting, lookup, held, if_true]
    rw [exchange, first]
    exact State.firstContact_within plan records now l t j b e
  | none =>
    have first : s.rtm.firstState h.id = .unknown := if_pos held
    have exchange : (s.within now r l).exchange b e = (s.within now r l).enterUnknown b e := by
      simp only [State.exchange, State.within, plan, waiting, lookup, held, if_true]
    rw [exchange, first]
    exact State.enterUnknown_within plan records now l t b e

end beacon
end Sys2Proof.Machine
end

section
/-! O36: a valid beacon brings the plan to a head for its junction. -/

namespace Sys2Proof.Machine

/-! ## The kept plan and the head that is sought in it (R81 to R83) -/

section kept
variable {r : Rtm} {j : Half} {sel : Selection}

theorem Rtm.kept_frame (j : Half) (r : Rtm) : (r.kept j).junctions = r.junctions ∧ (r.kept j).pendingSel = r.pendingSel := by
  unfold Rtm.kept
  split
  · exact ⟨rfl, rfl⟩
  · exact ⟨rfl, rfl⟩

theorem Rtm.kept_plan (j : Half) (r : Rtm) : (r.kept j).plan =
    if ∃ h ∈ r.plan.head?, h.id ≠ j ∧ h.state ≠ .waiting then r.plan.tail else r.plan := by
  unfold Rtm.kept
  split <;> rfl

/-- R81: a head leaves the plan exactly when it is abandoned. -/
theorem Rtm.kept_moves (j : Half) (r : Rtm) :
    (r.kept j).plan ≠ r.plan ↔ ∃ h ∈ r.plan.head?, h.id ≠ j ∧ h.state ≠ .waiting := by
  rw [Rtm.kept_plan]
  split
  · next abandoned =>
    refine ⟨fun _ => abandoned, fun _ same => ?_⟩
    obtain ⟨h, head, -⟩ := abandoned
    obtain ⟨rest, plan⟩ := List.head?_eq_some_iff.mp head
    simp [plan] at same
  · next stays => exact ⟨fun moved => absurd rfl moved, fun abandoned => absurd abandoned stays⟩

/-- R83: the selection of an ad-hoc entry, with the junction's record and without it. -/
theorem Rtm.adhocSelection_eq
    (known : ∀ rec, r.record j = some rec → sel = r.pendingSel.elim rec.dflt fun p =>
      if rec.route p = none then rec.dflt else p)
    (missing : r.record j = none → sel = r.pendingSel.getD .straight) : r.adhocSelection j = sel := by
  unfold Rtm.adhocSelection
  cases held : r.record j with
  | none => exact (missing held).symm
  | some rec =>
    rw [known rec held]
    cases r.pendingSel with
    | none => rfl
    | some p => cases found : rec.route p <;> simp [found]

theorem Rtm.adhocSelection_congr {r' : Rtm} (junctions : r'.junctions = r.junctions)
    (pending : r'.pendingSel = r.pendingSel) : r'.adhocSelection j = r.adhocSelection j := by
  simp only [Rtm.adhocSelection, Rtm.record_congr junctions, pending]

/-- R83: with no entry for J in the kept plan the head brought is an ad-hoc entry. -/
theorem Rtm.sought_missing (missing : ∀ e ∈ r.plan, e.id ≠ j) : r.sought j =
    PlanEntry.mk j (r.adhocSelection j) .adhoc .waiting :: (if 16 ≤ r.plan.length then r.plan.dropLast else r.plan) :=
  if_neg fun ⟨e, mem, same⟩ => missing e mem same

end kept

/-- R121: a post leaves the fault set. -/
theorem State.postFor_faults {e : PlanEntry} {st : ExState} {d : Int} (s : State) :
    (State.postFor e st d s).clp.faults = s.clp.faults := by
  unfold State.postFor
  split
  · exact State.post_faults ..
  · rfl
  · exact State.post_faults ..
  · unfold State.postCurve
    split
    · exact State.post_faults ..
    · exact State.post_faults ..

/-! ## The event -/

section event
variable {s : State} {t : Nat} {page : List Byte} {b : Beacon} {a : PlanEntry} {rest : List PlanEntry}

theorem exec_loopPage_beacon (valid : classify page = .beacon b) (listening : s.lpt.transmitting (max s.now t) = false) :
    exec (.loopPage t page) s = .next ((s.atTime t).validBeacon b) := by
  have taken : (s.atTime t).loopPage page = (s.atTime t).validBeacon b := by
    rw [State.loopPage_listening (s := s.atTime t) page listening, State.takePage, valid]
  exact congrArg _ taken

theorem State.validBeacon_unconfigured (unconfigured : s.drc.driveState = .unconfigured) : s.validBeacon b =
    { s with lpt := { s.lpt.hear b.junction s.now with slotPage := none } } := if_pos unconfigured

/-- R81: the Route Manager with a head for the beacon's junction. -/
def Rtm.brought (j : Half) (r : Rtm) : Rtm := { r.kept j with plan := (r.kept j).sought j }

/-- R80 to R83: what bringing the head hands on. -/
def Rtm.broughtEmit (j : Half) (r : Rtm) : Emit where
  latches := (r.kept j).truncates j
  reports := r.abandoned j ++ (r.kept j).skipReport j
  lift := decide ((r.kept j).plan ≠ r.plan)
  post := none
  warn := false

theorem Rtm.bringHead_brought (j : Half) (r : Rtm) : r.bringHead j = (r.brought j, r.broughtEmit j) := by
  rw [Rtm.bringHead_eq, Rtm.broughtEmit]
  simp only [Rtm.kept_moves]
  rfl

/-- R81, R91: the beacon is heard, the head is brought, and the exchange rules run. -/
theorem State.validBeacon_configured (configured : s.drc.driveState ≠ .unconfigured) : (s.atTime t).validBeacon b =
    (s.within (max s.now t) (s.rtm.brought b.junction) (s.lpt.hear b.junction (max s.now t))).exchange b
      (s.rtm.broughtEmit b.junction) := by
  have run : (s.atTime t).validBeacon b = (s.within (max s.now t) (s.rtm.bringHead b.junction).1
      (s.lpt.hear b.junction (max s.now t))).exchange b (s.rtm.bringHead b.junction).2 := if_neg configured
  rw [run, Rtm.bringHead_brought]

theorem Rtm.brought_frame (j : Half) (r : Rtm) :
    (r.brought j).junctions = r.junctions ∧ (r.brought j).pendingSel = r.pendingSel := r.kept_frame j

/-- R80 to R83: what a first contact of the brought head hands on to the state that the beacon finds. -/
def State.contacted (t : Nat) (b : Beacon) (a : PlanEntry) (s : State) : State :=
  let e := s.rtm.broughtEmit b.junction
  let first := s.rtm.firstState b.junction
  s.handedOn t (e.latches ++ if first = .unknown then [.junctionUnknown] else [])
    (e.reports ++ [.state a.id a.selection a.origin .waiting first
      (if first = .unknown then none else some (.none, 0, 1, 0)) 0 0 (some b.controller)])
    e.lift (State.postFor a first 0) false

theorem State.contacted_reach : ByDriveAndLink s (s.contacted t b a) :=
  (ByDriveAndLink.handedOn s t _ _ _ none).trans State.postFor_reach

/-- R105, R106, R126: of the blocks, a first contact of the brought head reaches the drive and the cab link by what it hands
on, and the Tone Unit not at all. -/
theorem State.validBeacon_contacted (configured : s.drc.driveState ≠ .unconfigured)
    (plan : (s.rtm.brought b.junction).plan = a :: rest) (same : a.id = b.junction) (waiting : a.state = .waiting) :
    ((s.atTime t).validBeacon b).drc = (s.contacted t b a).drc ∧
    ((s.atTime t).validBeacon b).clp = (s.contacted t b a).clp ∧ ((s.atTime t).validBeacon b).tnu = s.tnu := by
  rw [State.validBeacon_configured configured]
  obtain ⟨r', l', run⟩ := State.exchange_first (s := s) plan waiting (Rtm.brought_frame ..).1 (max s.now t)
    (s.lpt.hear b.junction (max s.now t)) t b (s.rtm.broughtEmit b.junction)
  have reach : ByDriveAndLink s (s.contacted t b a) := State.contacted_reach
  have tone : (s.contacted t b a).tnu = s.tnu := by rw [reach]
  have first : s.rtm.firstState a.id = s.rtm.firstState b.junction := by rw [same]
  rw [first] at run
  rw [run]
  exact ⟨rfl, rfl, tone⟩

/-- R83, R179: the truncation of a full plan is the first fault that the event latches. -/
theorem State.contacted_truncated (missing : ∀ e ∈ (s.rtm.kept b.junction).plan, e.id ≠ b.junction)
    (full : 16 ≤ (s.rtm.kept b.junction).plan.length) (room : s.clp.faults.length < 30) :
    Latched .routeTruncated 0 (s.contacted t b a) := by
  have latches : (s.rtm.broughtEmit b.junction).latches = [.routeTruncated] := if_pos ⟨missing, full⟩
  unfold State.contacted
  dsimp only
  rw [latches]
  exact State.handedOn_latched (.inl (by omega)) State.postFor_faults

end event

/-- Settles O36: the head is brought in the kept plan, whatever its entries, and the exchange then moves the state of the
head alone; a first contact is the model's hand-on, taken by the state that the beacon finds. -/
theorem beaconFindsHead : Obligations.BeaconFindsHead := by
  unfold Obligations.BeaconFindsHead
  intro t page b s kept after sel valid keptIs known missing afterIs listening
  obtain rfl : kept = (s.rtm.kept b.junction).plan := keptIs.trans (Rtm.kept_plan ..).symm
  obtain rfl : after = (s.rtm.brought b.junction).plan := by
    have adhoc : (s.rtm.kept b.junction).adhocSelection b.junction = sel :=
      (Rtm.adhocSelection_congr (Rtm.kept_frame ..).1 (Rtm.kept_frame ..).2).trans (Rtm.adhocSelection_eq known missing)
    rw [afterIs, ← adhoc]
    rfl
  refine ⟨_, exec_loopPage_beacon valid listening, ?_⟩
  by_cases configured : s.drc.driveState = .unconfigured
  · rw [State.validBeacon_unconfigured (s := s.atTime t) configured]
    exact ⟨rfl, rfl, fun _ => ⟨rfl, rfl⟩, fun other => absurd configured other⟩
  · obtain ⟨a, rest, plan, same⟩ := (s.rtm.kept b.junction).sought_cons b.junction
    have plan : (s.rtm.brought b.junction).plan = a :: rest := plan
    obtain ⟨⟨st, moved⟩, junctions, pending⟩ := State.exchange_plan (m := s.within (max s.now t)
      (s.rtm.brought b.junction) (s.lpt.hear b.junction (max s.now t))) plan b (s.rtm.broughtEmit b.junction)
    rw [← State.validBeacon_configured configured] at moved junctions pending
    have contacted := State.validBeacon_contacted (t := t) configured plan same
    refine ⟨junctions.trans (Rtm.brought_frame ..).1, pending.trans (Rtm.brought_frame ..).2,
      fun other => absurd other configured, fun _ => ⟨?_, ?_, ?_, ?_⟩⟩
    · rw [moved, plan]
      rfl
    · rw [moved, plan]
      rintro _ ⟨⟩
      exact ⟨_, rfl, rfl, rfl, rfl, same⟩
    · intro absent full room
      obtain ⟨rfl, -⟩ := List.cons.inj ((Rtm.sought_missing absent).symm.trans plan)
      obtain ⟨-, clp, -⟩ := contacted rfl
      unfold Latched
      rw [clp]
      exact State.contacted_truncated absent full room
    · rw [plan]
      rintro _ ⟨⟩ waiting first gone x rfl rfl rfl
      exact contacted waiting

end Sys2Proof.Machine
end

section
/-! O43: the pages of the loop as the LPT reads them (R89, R94, R182). -/

namespace Sys2Proof.Machine

/-! ## The fields of a beacon, one by one (Table 10-9) -/

theorem half_toNat (hi lo : Byte) : (half hi lo).toNat = hi.toNat * 256 + lo.toNat := by
  have low : lo.toNat < 2 ^ 8 := lo.isLt
  rw [half, BitVec.toNat_append, ← Nat.shiftLeft_add_eq_or_of_lt low, Nat.shiftLeft_eq]

theorem half_halfBytes (h : Half) : half (hiByte h) (loByte h) = h := by
  refine BitVec.eq_of_toNat_eq ?_
  rw [half_toNat, hiByte, loByte, BitVec.extractLsb'_toNat, BitVec.extractLsb'_toNat]
  have := h.isLt
  omega

/-- R94: what a set byte whose detected position is in range shows. -/
def setRead (p : Byte) : SetView where
  pos := if p.toNat % 4 = 0 then none else if p.toNat % 4 = 1 then some .normal else some .reverse
  locked := p.getLsbD 2

theorem setViewOf_eq (p : Byte) : setViewOf p = if p.toNat % 4 = 3 then none else some (setRead p) := by
  have below : p.toNat % 4 < 4 := Nat.mod_lt _ (by decide)
  unfold setViewOf setRead
  generalize p.toNat % 4 = pos at below ⊢
  match pos, below with
  | 0, _ => rfl
  | 1, _ => rfl
  | 2, _ => rfl
  | 3, _ => rfl

theorem setViewOf_setByte (v : SetView) : setViewOf (setByte v) = some v := by
  obtain ⟨pos, locked⟩ := v
  cases locked <;> rcases pos with _ | _ | _ <;> rfl

theorem setRead_setByte (v : SetView) : (setByte v).toNat % 4 ≠ 3 ∧ setRead (setByte v) = v := by
  have read := setViewOf_setByte v
  rw [setViewOf_eq] at read
  split at read
  · cases read
  · next inRange => exact ⟨inRange, Option.some.inj read⟩

/-- R89: a set byte out of range makes the sets unreadable. -/
theorem mapM_setViewOf (l : List Byte) :
    l.mapM setViewOf = if ∀ p ∈ l, p.toNat % 4 ≠ 3 then some (l.map setRead) else none := by
  induction l with
  | nil => simp
  | cons p l ih =>
    rw [List.mapM_cons, ih, setViewOf_eq]
    by_cases bad : p.toNat % 4 = 3
    · simp [bad]
    · simp only [List.forall_mem_cons, bad, ne_eq, not_false_eq_true, true_and, if_false]
      split <;> rfl

theorem answerOf_answerByte (a : Answer) : answerOf (answerByte a) = some a := by cases a <;> rfl

/-- R89: a byte above 5 is no answer. -/
theorem answerOf_high {b : Byte} (high : 5 < b.toNat) : answerOf b = none := by
  unfold answerOf
  generalize b.toNat = n at high
  match n, high with
  | _ + 6, _ => rfl

theorem answerOf_low {b : Byte} (low : b.toNat ≤ 5) : ∃ a, answerOf b = some a ∧ answerByte a = b := by
  obtain ⟨n, small, rfl⟩ : ∃ n, n ≤ 5 ∧ b = BitVec.ofNat 8 n := ⟨b.toNat, low, by simp⟩
  interval_cases n <;> exact ⟨_, rfl, rfl⟩

/-! ## The fields of a page together (R89 step 3) -/

/-- R89 step 3: the fields that a page of the kind of a beacon must hold within their ranges. -/
def fieldsInRange (kind : Byte) (junction : Half) (count controller answer : Byte) (sets : List Byte) : Prop :=
  kind = 0x5A ∧ 1 ≤ junction.toNat ∧ junction.toNat ≤ 4095 ∧ 1 ≤ count.toNat ∧ count.toNat ≤ 4 ∧
    controller.toNat ≤ 4 ∧ answer.toNat ≤ 5 ∧ ∀ p ∈ sets, p.toNat % 4 ≠ 3

section fields
variable {kind j1 j0 count controller p0 p1 p2 p3 a1 a0 answer ack : Byte} {ans : Answer}

theorem beaconFields_inRange
    (inRange : fieldsInRange kind (half j1 j0) count controller answer ([p0, p1, p2, p3].take count.toNat))
    (read : answerOf answer = some ans) :
    beaconFields [kind, j1, j0, count, controller, p0, p1, p2, p3, a1, a0, answer, ack] = some
      { junction := half j1 j0, sets := ([p0, p1, p2, p3].take count.toNat).map setRead, controller := controller.toNat
        addressee := half a1 a0, answer := ans, ackValid := ack.getLsbD 0, ackToggle := ack.getLsbD 1 } := by
  obtain ⟨rfl, known, most, one, four, states, -, sets⟩ := inRange
  simp only [beaconFields, ne_eq, not_true_eq_false, if_false, Nat.not_lt.mpr known, Nat.not_lt.mpr most,
    Nat.not_lt.mpr one, Nat.not_lt.mpr four, Nat.not_lt.mpr states, or_self, read, mapM_setViewOf, if_pos sets]

theorem beaconFields_outOfRange
    (outOfRange : ¬ fieldsInRange kind (half j1 j0) count controller answer ([p0, p1, p2, p3].take count.toNat)) :
    beaconFields [kind, j1, j0, count, controller, p0, p1, p2, p3, a1, a0, answer, ack] = none := by
  refine ite_eq_left_iff.mpr fun kindIs => ite_eq_left_iff.mpr fun junction => ite_eq_left_iff.mpr fun counted =>
    ite_eq_left_iff.mpr fun states => ?_
  obtain low | high := le_or_gt answer.toNat 5
  · have sets : ¬ ∀ p ∈ [p0, p1, p2, p3].take count.toNat, p.toNat % 4 ≠ 3 := fun sets =>
      outOfRange ⟨not_not.mp kindIs, by omega, by omega, by omega, by omega, by omega, low, sets⟩
    rw [mapM_setViewOf, if_neg sets]
    split
    · next unread => cases unread
    · rfl
  · rw [answerOf_high high]

/-- R89: a page of fifteen bytes whose first is not 0xA5. -/
theorem classify_page {body check : List Byte} (whole : body.length = 13) (ends : check.length = 2)
    (other : body.head? ≠ some 0xA5) : classify (body ++ check) =
      if check = halfBytes (crc 0xFFFF body) then (beaconFields body).elim .bad .beacon else .bad := by
  obtain ⟨kind, rest, rfl⟩ := List.exists_cons_of_length_eq_add_one whole
  have kindIs : kind ≠ 0xA5 := fun same => other (congrArg some same)
  have pageLength : ((kind :: rest) ++ check).length = 15 := by rw [List.length_append, whole, ends]
  have bodyIs : ((kind :: rest) ++ check).take 13 = kind :: rest := List.take_left' whole
  have checkIs : (((kind :: rest) ++ check).drop 13).take 2 = check := by
    rw [List.drop_left' whole, ← ends, List.take_length]
  rw [List.cons_append] at pageLength bodyIs checkIs ⊢
  simp only [classify, if_neg kindIs, pageLength, Nat.lt_irrefl, if_false, bodyIs, checkIs]
  by_cases agrees : check = halfBytes (crc 0xFFFF (kind :: rest))
  · rw [if_neg (not_not.mpr agrees.symm), if_pos agrees]
    cases beaconFields (kind :: rest) <;> rfl
  · rw [if_pos (Ne.symm agrees), if_neg agrees]

end fields

/-! ## The pages that are no page of fifteen bytes -/

theorem classify_request (rest : List Byte) : classify (0xA5 :: rest) = .request := by
  simp only [classify, if_true]

theorem classify_short {page : List Byte} (other : page.head? ≠ some 0xA5) (short : page.length < 15) :
    classify page = .incomplete := by
  cases page with
  | nil => rfl
  | cons b rest =>
    have kind : b ≠ 0xA5 := fun same => other (congrArg some same)
    simp only [classify, if_neg kind, if_pos short]

/-- R89: a request and a page that breaks off leave the state, whether the LPT is transmitting or not. -/
theorem exec_loopPage_passes {page : List Byte} (t : Nat) (s : State)
    (passes : classify page = .request ∨ classify page = .incomplete) :
    exec (.loopPage t page) s = .next (s.atTime t) := by
  refine congrArg Host.Outcome.next ?_
  cases deaf : (s.atTime t).lpt.transmitting (s.atTime t).now with
  | true => exact State.loopPage_transmitting _ page deaf
  | false =>
    rw [State.loopPage_listening _ page deaf, State.takePage]
    obtain kind | kind := passes <;> rw [kind]

/-! ## The round trip (R94) -/

/-- Table 10-9: the set bytes below the set count. -/
theorem setBytes_take {sets : List SetView} (fits : sets.length ≤ 4) (beyond : Byte) :
    ([0, 1, 2, 3].map fun i => (sets[i]?.map setByte).getD beyond).take sets.length = sets.map setByte :=
  match sets, fits with
  | [], _ => rfl
  | [_], _ => rfl
  | [_, _], _ => rfl
  | [_, _, _], _ => rfl
  | [_, _, _, _], _ => rfl

theorem ackByte_bits : ∀ valid toggle : Bool,
    ((if valid then 1 else 0) ||| (if toggle then 2 else 0) : Byte).getLsbD 0 = valid ∧
    ((if valid then 1 else 0) ||| (if toggle then 2 else 0) : Byte).getLsbD 1 = toggle := by decide

/-- Table 10-9: the bytes of a beacon page before its check. -/
def Beacon.body (b : Beacon) : List Byte :=
  [0x5A, hiByte b.junction, loByte b.junction, BitVec.ofNat 8 b.sets.length, BitVec.ofNat 8 b.controller,
    (b.sets[0]?.map setByte).getD 0, (b.sets[1]?.map setByte).getD 0, (b.sets[2]?.map setByte).getD 0,
    (b.sets[3]?.map setByte).getD 0, hiByte b.addressee, loByte b.addressee, answerByte b.answer,
    (if b.ackValid then 1 else 0) ||| (if b.ackToggle then 2 else 0)]

theorem beaconBytes_body (b : Beacon) : beaconBytes b = b.body ++ halfBytes (crc 0xFFFF b.body) := rfl

theorem beaconFields_body {b : Beacon} (known : 1 ≤ b.junction.toNat) (most : b.junction.toNat ≤ 4095)
    (one : 1 ≤ b.sets.length) (four : b.sets.length ≤ 4) (states : b.controller ≤ 4) :
    beaconFields b.body = some b := by
  obtain ⟨junction, sets, controller, addressee, answer, valid, toggle⟩ := b
  dsimp only at known most one four states
  have count : (BitVec.ofNat 8 sets.length).toNat = sets.length := Nat.mod_eq_of_lt (by omega)
  have state : (BitVec.ofNat 8 controller).toNat = controller := Nat.mod_eq_of_lt (by omega)
  have bytes := setBytes_take four 0
  have views : (sets.map setByte).map setRead = sets := by
    rw [List.map_map]
    exact (List.map_congr_left fun v _ => (setRead_setByte v).2).trans (List.map_id _)
  have answers : (answerByte answer).toNat ≤ 5 := by cases answer <;> decide
  refine (beaconFields_inRange ⟨rfl, ?_, ?_, ?_, ?_, ?_, answers, ?_⟩ (answerOf_answerByte answer)).trans ?_
  · rwa [half_halfBytes]
  · rwa [half_halfBytes]
  · rwa [count]
  · rwa [count]
  · rwa [state]
  · rw [count]
    intro p mem
    obtain ⟨v, -, rfl⟩ := List.mem_map.mp (bytes ▸ mem : p ∈ sets.map setByte)
    exact (setRead_setByte v).1
  · have sets : ([(sets[0]?.map setByte).getD 0, (sets[1]?.map setByte).getD 0, (sets[2]?.map setByte).getD 0,
        (sets[3]?.map setByte).getD 0].take sets.length).map setRead = sets := (congrArg _ bytes).trans views
    obtain ⟨bit0, bit1⟩ := ackByte_bits valid toggle
    rw [half_halfBytes, half_halfBytes, count, state, sets, bit0, bit1]

theorem classify_beaconBytes {b : Beacon} (known : 1 ≤ b.junction.toNat) (most : b.junction.toNat ≤ 4095)
    (one : 1 ≤ b.sets.length) (four : b.sets.length ≤ 4) (states : b.controller ≤ 4) :
    classify (beaconBytes b) = .beacon b := by
  rw [beaconBytes_body, classify_page rfl rfl (by simp [Beacon.body]), if_pos rfl,
    beaconFields_body known most one four states]
  rfl

/-- Settles O43: a page of fifteen bytes is its check and then its fields, each read by its own lemma. -/
theorem beaconRoundTrip : Obligations.BeaconRoundTrip := by
  unfold Obligations.BeaconRoundTrip
  refine ⟨fun b => classify_beaconBytes, classify_request, ?_, fun t page s other short => ?_⟩
  · rintro kind j1 j0 count controller p0 p1 p2 p3 a1 a0 answer ack c1 c0 _ _ inRange _ other rfl rfl rfl ranges
    have page := classify_page (body := [kind, j1, j0, count, controller, p0, p1, p2, p3, a1, a0, answer, ack])
      (check := [c1, c0]) rfl rfl fun same => other (Option.some.inj same)
    have fields : inRange = true ↔
        fieldsInRange kind (half j1 j0) count controller answer ([p0, p1, p2, p3].take count.toNat) := by
      rw [ranges, fieldsInRange, half_toNat]
    rw [page]
    cases inRange with
    | true =>
      have inRange := fields.mp rfl
      have ⟨_, _, _, _, _, _, low, _⟩ := inRange
      obtain ⟨ans, read, back⟩ := answerOf_low low
      rw [beaconFields_inRange inRange read]
      refine ⟨?_, fun agrees _ => ⟨_, if_pos agrees, half_toNat .., rfl, half_toNat .., back, rfl, rfl, rfl⟩⟩
      split
      · next agrees => exact ⟨nofun, fun | .inl differs => absurd agrees differs⟩
      · next differs => exact ⟨fun _ => .inl differs, fun _ => rfl⟩
    | false =>
      rw [beaconFields_outOfRange fun inRange => nomatch fields.mpr inRange]
      exact ⟨⟨fun _ => .inr rfl, fun _ => ite_self _⟩, nofun⟩
  · have kind := classify_short other short
    exact ⟨kind, exec_loopPage_passes t s (.inr kind)⟩

end Sys2Proof.Machine
end

section
/-! O42: the loss of contact, bad beacons, requests of others and the deaf receiver. -/

namespace Sys2Proof.Machine

section contact
variable {s : State} {h : PlanEntry} {rest : List PlanEntry} {c : Context} {t st : Nat} {j : Half}

/-! ## The loss of contact (R92, R115) -/

theorem ExState.losesContact_iff (st : ExState) :
    st.losesContact = true ↔ st ∈ [ExState.sending, .awaiting, .queued, .setting] := by
  cases st <;> decide

/-- R115: without a head of that junction that a contact loss moves, the loss goes no further than the LPT. -/
theorem State.loseContact_stays
    (stays : ∀ h ∈ s.rtm.plan.head?, h.id = j → h.state ∉ [ExState.sending, .awaiting, .queued, .setting]) :
    s.loseContact j = s := by
  unfold State.loseContact
  split
  · rfl
  · next h rest plan =>
    refine if_neg fun ⟨same, loses⟩ => ?_
    exact stays h (by simp [plan]) same ((ExState.losesContact_iff _).mp loses)

/-- R115, R126: the head goes to CONTACT_LOST with its state to resume, and one STATE report says so. -/
theorem State.loseContact_moves (plan : s.rtm.plan = h :: rest) (context : s.rtm.context = some c) (same : h.id = j)
    (loses : h.state ∈ [ExState.sending, .awaiting, .queued, .setting]) :
    s.loseContact j = { s with
      rtm := { s.rtm with
        plan := { h with state := .contactLost } :: rest, context := some { c with resume := some h.state }
        green := false, amber := false, red := true, flashStart := none }
      clp := s.clp.raise (.junction (stateReport h c .contactLost s.amu.trackMm none)) } := by
  have changed : ExState.contactLost ≠ h.state := by
    intro lost
    simp [← lost] at loses
  have moves : h.id = j ∧ h.state.losesContact = true := ⟨same, (ExState.losesContact_iff _).mpr loses⟩
  unfold State.loseContact
  simp only [plan, if_pos moves, Rtm.setHead_cons plan, context, Option.map_some, Rtm.setLamps, Rtm.headState,
    Rtm.stateReport, if_neg changed]
  rfl

/-- R126: an event that hands on reports alone reaches the cab link alone. -/
theorem State.handOn_reports (reports : List JunctionReport) (m : State) :
    ∃ k, m.handOn { Emit.nothing with reports := reports } = { m with clp := k } := by
  induction reports generalizing m with
  | nil => exact ⟨_, rfl⟩
  | cons report reports ih => exact ih (m.raise (.junction report))

theorem State.loseContact_frames (j : Half) (s : State) : ∃ r k, s.loseContact j = { s with rtm := r, clp := k } := by
  unfold State.loseContact
  split
  · exact ⟨_, _, rfl⟩
  · split
    · obtain ⟨k, run⟩ := State.handOn_reports _ _
      exact ⟨_, k, run⟩
    · exact ⟨_, _, rfl⟩

theorem exec_contactLost_due (running : s.lpt.contactTimer = some st) (due : st + 300000 ≤ max s.now t)
    (contact : s.lpt.contact = some j) : exec (.contactLost t) s =
      .next (State.loseContact j { s.atTime t with lpt := { s.lpt with contact := none, contactTimer := none } }) := by
  have expires : expired (s.atTime t).lpt.contactTimer Config.contactLimit (s.atTime t).now = true :=
    expired_iff.mpr ⟨st, running, due⟩
  have contactAt : (s.atTime t).lpt.contact = some j := contact
  refine congrArg Host.Outcome.next ?_
  rw [State.contactLost, if_pos expires, contactAt]
  rfl

theorem exec_contactLost_early (early : ∀ st, s.lpt.contactTimer = some st → max s.now t < st + 300000) :
    exec (.contactLost t) s = .next (s.atTime t) :=
  congrArg Host.Outcome.next (if_neg (not_expired (start := s.lpt.contactTimer) early))

end contact

/-! ## Bad beacons (R93) -/

section bad
variable {s : State} {t : Nat} {page : List Byte}

/-- R93: a bad beacon counts in a contact alone; the eighth latches, unless LOOP_CHECK stands for that contact. -/
theorem Lpt.countBad_eq (l : Lpt) : l.countBad =
    ({ l with badCount := if l.contact = none then l.badCount else min 255 (l.badCount + 1)
              checkFault := l.checkFault || (l.contact.isSome && decide (l.badCount = 7)) },
      l.contact.isSome && decide (l.badCount = 7) && !l.checkFault) := by
  obtain ⟨contact, timer, bad, fault, memory, held, slot⟩ := l
  cases contact with
  | none => simp [Lpt.countBad]
  | some j =>
    have eighth : min 255 (bad + 1) = 8 ↔ bad = 7 := by omega
    simp [Lpt.countBad, Config.badBeaconLimit, eighth, Bool.or_and_distrib_left]

/-- R93: the state once a bad beacon has been counted. -/
def State.badCounted (s : State) : State := { s with
  rtm := { s.rtm with context := s.rtm.context.map fun c => { c with bad := min 255 (c.bad + 1) } }
  lpt := { s.lpt with
    badCount := if s.lpt.contact = none then s.lpt.badCount else min 255 (s.lpt.badCount + 1)
    checkFault := s.lpt.checkFault || (s.lpt.contact.isSome && decide (s.lpt.badCount = 7)) } }

theorem State.badBeacon_eq (s : State) : s.badBeacon =
    if s.lpt.contact ≠ none ∧ s.lpt.badCount = 7 ∧ s.lpt.checkFault = false then s.badCounted.latch .loopCheck 0
    else s.badCounted := by
  rw [State.badBeacon, Lpt.countBad_eq]
  refine if_congr ?_ rfl rfl
  simp [Option.isSome_iff_ne_none, and_assoc]

theorem exec_loopPage_bad (bad : classify page = .bad) (listening : s.lpt.transmitting (max s.now t) = false) :
    exec (.loopPage t page) s = .next (s.atTime t).badBeacon := by
  have taken : (s.atTime t).loopPage page = (s.atTime t).badBeacon := by
    rw [State.loopPage_listening (s := s.atTime t) page listening, State.takePage, bad]
  exact congrArg _ taken

/-! ## The deaf receiver (R88) -/

theorem Lpt.transmitting_bounds {l : Lpt} {now : Nat} (deaf : l.transmitting now = true) :
    l.slotPage.isSome = true ∧ ∃ st, l.contactTimer = some st ∧ st ≤ now ∧ now < st + 8000 := by
  unfold Lpt.transmitting at deaf
  split at deaf
  · next beacon sent running =>
    have last : Config.slotEnd beacon ≤ 8000 := Nat.min_le_left ..
    simp only [Bool.and_eq_true, decide_eq_true_eq] at deaf
    exact ⟨by rw [sent]; rfl, beacon, running, by omega⟩
  · cases deaf

theorem exec_deaf (deaf : s.lpt.transmitting (max s.now t) = true) :
    exec (.loopPage t page) s = .next (s.atTime t) ∧ exec (.awaitingTimeout t page) s = .next (s.atTime t) ∧
    exec (.settingTimeout t page) s = .next (s.atTime t) := by
  have same : (s.atTime t).loopPage page = s.atTime t := State.loopPage_transmitting (s := s.atTime t) page deaf
  refine ⟨congrArg _ same, congrArg Host.Outcome.next ?_, congrArg Host.Outcome.next ?_⟩
  · rw [same, ite_self]
  · rw [same, ite_self]

end bad

/-- Settles O42, clause by clause: the contact at its limit and before it, the eighth bad beacon and any other, a request,
and a page that comes while the LPT is transmitting. -/
theorem contactAndBadBeacons : Obligations.ContactAndBadBeacons := by
  unfold Obligations.ContactAndBadBeacons
  intro t page s
  refine ⟨fun st running due jn contact => ⟨_, exec_contactLost_due running due contact, ?_, ?_, ?_⟩,
    exec_contactLost_early, fun bad listening => ⟨_, exec_loopPage_bad bad listening, ?_, ?_, ?_⟩,
    fun request => ?_, fun deaf => ⟨Lpt.transmitting_bounds deaf, exec_deaf deaf⟩⟩
  · obtain ⟨r, k, run⟩ := State.loseContact_frames jn
      { s.atTime t with lpt := { s.lpt with contact := none, contactTimer := none } }
    rw [run]
    rfl
  · intro h head c context same loses
    obtain ⟨rest, plan⟩ := List.head?_eq_some_iff.mp head
    rw [State.loseContact_moves (s := { s.atTime t with lpt := _ }) plan context same loses, plan]
    exact ⟨rfl, rfl⟩
  · intro stays
    rw [State.loseContact_stays (s := { s.atTime t with lpt := _ }) stays]
    exact ⟨rfl, rfl⟩
  · rw [State.badBeacon_eq]
    split
    · rfl
    · rfl
  · intro contact eighth fresh room
    rw [State.badBeacon_eq, if_pos ⟨contact, eighth, fresh⟩]
    exact Clp.latch_holds _ _ _ _ room
  · intro other
    have quiet : ¬(s.lpt.contact ≠ none ∧ s.lpt.badCount = 7 ∧ s.lpt.checkFault = false) := by
      rintro ⟨contact, eighth, fresh⟩
      simp [contact, eighth, fresh] at other
    rw [State.badBeacon_eq]
    split
    · next latches => exact absurd latches quiet
    · rfl
  · obtain ⟨rest, rfl⟩ := List.head?_eq_some_iff.mp request
    exact exec_loopPage_passes t s (.inl (classify_request rest))

end Sys2Proof.Machine
end

section
/-! SUPPORT. A valid beacon for the head of the plan (R88, R91, R96): what it leaves alone, and the reply slot. -/

namespace Sys2Proof.Machine

/-! ## The contact and the reply slot (R91, R96 to R100) -/

section slot
variable {junction vehicle chain : Half} {p : Page} {l : Lpt}

/-- R91: a valid beacon is heard. -/
theorem Lpt.hear_frame (junction : Half) (now : Nat) (l : Lpt) :
    (l.hear junction now).contact = some junction ∧ (l.hear junction now).contactTimer = some now ∧
    (l.hear junction now).toggleMemory = l.toggleMemory ∧ (l.hear junction now).held = l.held := by
  unfold Lpt.hear
  split
  · next contact => exact ⟨contact, rfl, rfl, rfl⟩
  · exact ⟨rfl, rfl, rfl, rfl⟩

/-- R98: the first page built has toggle 0, and every further one the other toggle. -/
theorem nextToggle_eq (memory : Option Bool) : nextToggle memory = memory.elim false fun m => !m := by
  cases memory <;> rfl

/-- R97 to R99: the request page of a page list's page, built with a toggle from a chain value. -/
def builtPage (junction vehicle chain : Half) (p : Page) (toggle : Bool) : RequestPage where
  junction := junction
  vehicle := vehicle
  set := p.set
  pos := p.pos
  last := p.last
  toggle := toggle
  check := crc chain (requestBody junction vehicle p.set p.pos p.last toggle)

theorem Lpt.build_eq {toggle : Bool} (next : toggle = l.toggleMemory.elim false fun m => !m) :
    l.build junction vehicle chain p = builtPage junction vehicle chain p toggle := by
  rw [next, ← nextToggle_eq]
  rfl

/-- R99: FIRST. -/
theorem Lpt.slot_first {toggle : Bool} (next : toggle = l.toggleMemory.elim false fun m => !m) :
    l.slot junction vehicle (.first p) =
      (l.sendBuilt (builtPage junction vehicle (junction ^^^ vehicle) p toggle),
        some (toggle, junction ^^^ vehicle)) := by
  rw [← Lpt.build_eq next, next, ← nextToggle_eq]
  rfl

theorem Lpt.slot_frame (junction vehicle : Half) (req : SlotRequest) (l : Lpt) :
    (l.slot junction vehicle req).1.contact = l.contact ∧
    (l.slot junction vehicle req).1.contactTimer = l.contactTimer := by
  cases req with
  | next p => cases held : l.held <;> simp [Lpt.slot, held, Lpt.sendBuilt]
  | _ => exact ⟨rfl, rfl⟩

end slot

/-! ## What a beacon for the head leaves alone -/

section frame
variable {s : State} {t : Nat} {b : Beacon} {h : PlanEntry} {rest : List PlanEntry}

/-- R81, R91: a beacon for the head is heard, and the exchange rules run. -/
theorem State.validBeacon_head (configured : s.drc.driveState ≠ .unconfigured) (plan : s.rtm.plan = h :: rest)
    (same : h.id = b.junction) : (s.atTime t).validBeacon b =
      (s.within (max s.now t) s.rtm (s.lpt.hear b.junction (max s.now t))).exchange b Emit.nothing := by
  have run : (s.atTime t).validBeacon b = (s.within (max s.now t) (s.rtm.bringHead b.junction).1
      (s.lpt.hear b.junction (max s.now t))).exchange b (s.rtm.bringHead b.junction).2 := if_neg configured
  rw [run, Rtm.bringHead_same plan same]

theorem Rtm.setLamps_intervalDue (now : Nat) (r : Rtm) : (r.setLamps now).intervalDue = r.intervalDue := by
  rw [Rtm.setLamps_eq]

/-- R105 to R116: the exchange rules leave the table, the rest of the plan and the contact. -/
theorem State.exchange_keeps {m : State} (plan : m.rtm.plan = h :: rest) (b : Beacon) (e : Emit) :
    ((m.exchange b e).rtm.junctions = m.rtm.junctions ∧ (m.exchange b e).rtm.plan.tail = rest ∧
      (m.exchange b e).rtm.pendingSel = m.rtm.pendingSel ∧ (m.exchange b e).rtm.zone = m.rtm.zone ∧
      (m.exchange b e).rtm.intervalDue = m.rtm.intervalDue) ∧
    (m.exchange b e).lpt.contact = m.lpt.contact ∧ (m.exchange b e).lpt.contactTimer = m.lpt.contactTimer := by
  have others : (m.exchange b e).rtm.zone = m.rtm.zone ∧ (m.exchange b e).rtm.intervalDue = m.rtm.intervalDue ∧
      (m.exchange b e).lpt.contact = m.lpt.contact ∧ (m.exchange b e).lpt.contactTimer = m.lpt.contactTimer := by
    unfold State.exchange
    simp only [plan]
    split
    · split
      · simp [State.firstContact, State.handOnBeacon_rtm, Rtm.setHead_cons plan, Rtm.setLamps_intervalDue, Lpt.slot_frame]
      · simp [State.enterUnknown, State.handOnBeacon_rtm, Rtm.setHead_cons plan, Rtm.setLamps_intervalDue, Lpt.slot_frame]
    · split
      · simp [State.beaconMoves, State.handOnBeacon_rtm, Rtm.setHead_cons plan, Rtm.setLamps_intervalDue, Lpt.slot_frame]
      · simp [Lpt.slot_frame]
  obtain ⟨⟨st, moved⟩, junctions, pending⟩ := State.exchange_plan plan b e
  obtain ⟨zone, due, contact⟩ := others
  exact ⟨⟨junctions, by rw [moved]; rfl, pending, zone, due⟩, contact⟩

theorem State.validBeacon_blocks (s : State) (b : Beacon) : s.validBeacon b = { s with
    drc := (s.validBeacon b).drc, rtm := (s.validBeacon b).rtm, lpt := (s.validBeacon b).lpt
    tnu := (s.validBeacon b).tnu, clp := (s.validBeacon b).clp } := by
  obtain ⟨now, powered, pending, amu, sdu, params, configured⟩ := State.validBeacon_frame (s := s) b
  generalize s.validBeacon b = m at *
  obtain ⟨⟩ := m
  subst now powered pending amu sdu params configured
  rfl

theorem beaconFrame_validBeacon (configured : s.drc.driveState ≠ .unconfigured) (plan : s.rtm.plan = h :: rest)
    (same : h.id = b.junction) : BeaconFrame t s ((s.atTime t).validBeacon b) := by
  obtain ⟨contact, timer, -⟩ := s.lpt.hear_frame b.junction (max s.now t)
  obtain ⟨⟨junctions, tail, others⟩, contactKept, timerKept⟩ := State.exchange_keeps
    (m := s.within (max s.now t) s.rtm (s.lpt.hear b.junction (max s.now t))) plan b Emit.nothing
  rw [← State.validBeacon_head configured plan same] at junctions tail others contactKept timerKept
  refine ⟨State.validBeacon_blocks (s.atTime t) b, ⟨junctions, ?_, others⟩, ?_, timerKept.trans timer⟩
  · rw [tail, plan]
    rfl
  · rw [contactKept]
    exact Option.isSome_iff_exists.mpr ⟨_, contact⟩

end frame

/-! ## The drive after a post (R121) -/

section posts
variable {s m : State}

/-- The drive after a post depends on the drive and the record alone. -/
theorem State.post_drc_congr (drc : m.drc = s.drc) (params : m.params = s.params) (slot : Slot) (kind : Kind)
    (ceiling : Nat) (reason : Byte) : (m.post slot kind ceiling reason).drc = (s.post slot kind ceiling reason).drc := by
  by_cases stands : ∃ old, s.drc.table.get slot = some old ∧ old.kind = kind ∧ old.reason = reason
  · obtain ⟨old, held, kinds, reasons⟩ := stands
    have heldToo : m.drc.table.get slot = some old := by rw [drc, held]
    by_cases ceilings : old.ceiling = storedCeiling kind ceiling
    · rw [State.post_standing heldToo ⟨kinds, ceilings, reasons⟩, State.post_standing held ⟨kinds, ceilings, reasons⟩, drc]
    · rw [State.post_recast heldToo ceilings ⟨kinds, reasons⟩, State.post_recast held ceilings ⟨kinds, reasons⟩]
      simp only [State.posted, drc, params]
  · have changed : ∀ old, s.drc.table.get slot = some old → ¬(old.kind = kind ∧ old.reason = reason) :=
      fun old held same => stands ⟨old, held, same⟩
    rw [State.post_posted (s := m) (drc ▸ changed), State.post_posted changed]
    simp only [State.posted, drc, params]

theorem State.handedOn_postFor_reach {t : Nat} {codes : List FaultCode} {reports : List JunctionReport} {lifts : Bool}
    {h : PlanEntry} {st : ExState} {d : Int} :
    ByDriveAndLink s (s.handedOn t codes reports lifts (State.postFor h st d) false) :=
  (ByDriveAndLink.handedOn s t codes reports lifts none).trans State.postFor_reach

theorem State.handedOn_postFor_tnu {t : Nat} {codes : List FaultCode} {reports : List JunctionReport} {lifts : Bool}
    {h : PlanEntry} {st : ExState} {d : Int} :
    (s.handedOn t codes reports lifts (State.postFor h st d) false).tnu = s.tnu := by
  rw [State.handedOn_postFor_reach]

/-- R121, R126: an event that does not lift reaches the drive by its post alone. -/
theorem State.handedOn_postFor_drc {t : Nat} {codes : List FaultCode} {reports : List JunctionReport} {h : PlanEntry}
    {st : ExState} {d : Int} : (s.handedOn t codes reports false (State.postFor h st d) false).drc =
      (State.postFor h st d s).drc := by
  have congr : ∀ m : State, m.drc = s.drc → m.params = s.params → m.rtm = s.rtm →
      (State.postFor h st d m).drc = (State.postFor h st d s).drc := fun m drc params rtm => by
    simp only [State.postFor, rtm]
    split
    · simp only [State.postUnknown, params]
      exact State.post_drc_congr drc params ..
    · exact drc
    · exact State.post_drc_congr drc params ..
    · simp only [State.postCurve, params]
      split
      · exact State.post_drc_congr drc params ..
      · exact State.post_drc_congr drc params ..
  exact congr _ (by simp) (by simp) (by simp)

end posts

end Sys2Proof.Machine
end

section
/-! O38: the first contact of a head. -/

namespace Sys2Proof.Machine

section first
variable {s : State} {t now : Nat} {l : Lpt} {b : Beacon} {h : PlanEntry} {rest : List PlanEntry} {j : JunctionRecord}
  {p : Page} {ps : List Page}

/-- R105, R106, R124: the Route Manager after a first contact, with its lamps. -/
theorem Rtm.contacted_sending {track : Pos} {paging : Option PageContext} {r : Rtm} (plan : r.plan = h :: rest) :
    (r.contacted .sending track paging).setLamps now = { r with
      plan := { h with state := .sending } :: rest
      context := some { loopMark := track, paging := paging, resume := none, bad := 0 }
      green := false, amber := true, red := false, flashStart := none } := by
  rw [Rtm.contacted, Rtm.setHead_cons plan]
  rfl

theorem Rtm.contacted_unknown {track : Pos} {r : Rtm} (plan : r.plan = h :: rest) :
    Rtm.setLamps now { r.contacted .unknown track none with flashStart := none } = { r with
      plan := { h with state := .unknown } :: rest
      context := some { loopMark := track, paging := none, resume := none, bad := 0 }
      green := false, amber := true, red := false, flashStart := some now } := by
  rw [Rtm.contacted, Rtm.setHead_cons plan]
  rfl

/-- R105: the first contact of a head with a record, at the state that the beacon finds. -/
theorem State.exchange_opens {toggle : Bool} (plan : s.rtm.plan = h :: rest) (waiting : h.state = .waiting)
    (known : s.rtm.record h.id = some j) (pages : j.pageList h.selection = p :: ps)
    (next : toggle = l.toggleMemory.elim false fun m => !m) (now t : Nat) (b : Beacon) :
    (s.within now s.rtm l).exchange b Emit.nothing =
      (s.handedOn t [] [.state h.id h.selection h.origin .waiting .sending (some (.none, 0, 1, 0)) 0 0 (some b.controller)]
        false (State.postFor h .sending 0) false).within now
      { s.rtm with
        plan := { h with state := .sending } :: rest
        context := some { loopMark := s.amu.trackMm, resume := none, bad := 0, paging := some (.mk (p :: ps) 0
          toggle 1 (b.junction ^^^ s.params.vehicle) .none 0) }
        green := false, amber := true, red := false, flashStart := none }
      (l.sendBuilt (builtPage b.junction s.params.vehicle (b.junction ^^^ s.params.vehicle) p toggle)) := by
  have step : (s.within now s.rtm l).exchange b Emit.nothing =
      State.handOnBeacon .waiting b.controller [] false Emit.nothing (s.within now
        (s.rtm.contacted .sending s.amu.trackMm
          (some (.mk (p :: ps) 0 toggle 1 (b.junction ^^^ s.params.vehicle) .none 0)))
        (l.sendBuilt (builtPage b.junction s.params.vehicle (b.junction ^^^ s.params.vehicle) p toggle))) := by
    have sent : l.slot b.junction s.params.vehicle (pageRequest .first (firstPaging (p :: ps)) 0) = _ :=
      Lpt.slot_first next
    simp only [State.exchange, State.within, plan, waiting, known, if_true, State.firstContact, pages, sent]
    rfl
  rw [← Rtm.contacted_sending plan]
  exact step.trans (State.firstBeacon_within (st := .sending) (Rtm.contacted_plan plan) rfl nofun
    (Rtm.contacted_junctions plan) now _ t b.controller [] Emit.nothing)

/-- R106: the first contact of a head without a record, at the state that the beacon finds. -/
theorem State.exchange_unknown (plan : s.rtm.plan = h :: rest) (waiting : h.state = .waiting)
    (missing : s.rtm.record h.id = none) (now t : Nat) (l : Lpt) (b : Beacon) :
    (s.within now s.rtm l).exchange b Emit.nothing =
      (s.handedOn t [.junctionUnknown] [.state h.id h.selection h.origin .waiting .unknown none 0 0 (some b.controller)]
        false (State.postFor h .unknown 0) false).within now
      { s.rtm with
        plan := { h with state := .unknown } :: rest
        context := some { loopMark := s.amu.trackMm, paging := none, resume := none, bad := 0 }
        green := false, amber := true, red := false, flashStart := some now }
      { l with slotPage := none } := by
  have step : (s.within now s.rtm l).exchange b Emit.nothing =
      State.handOnBeacon .waiting b.controller [.junctionUnknown] false Emit.nothing (s.within now
        { s.rtm.contacted .unknown s.amu.trackMm none with flashStart := none } { l with slotPage := none }) := by
    simp only [State.exchange, State.within, plan, waiting, missing, if_true, State.enterUnknown]
    rfl
  have planned := Rtm.contacted_plan (st := .unknown) (track := s.amu.trackMm) (paging := none) plan
  have kept := Rtm.contacted_junctions (st := .unknown) (track := s.amu.trackMm) (paging := none) plan
  rw [← Rtm.contacted_unknown plan]
  exact step.trans (State.firstBeacon_within
    (r := { s.rtm.contacted .unknown s.amu.trackMm none with flashStart := none }) planned rfl nofun kept now _ t
    b.controller [.junctionUnknown] Emit.nothing)

end first

/-- Settles O38: a first contact is what it hands on to the state that the beacon finds. -/
theorem firstContact : Obligations.FirstContact := by
  unfold Obligations.FirstContact
  rintro t page b h s toggle _ j p0 ps valid configured head same waiting next rfl listening
  obtain ⟨rest, plan⟩ := List.head?_eq_some_iff.mp head
  have frame : BeaconFrame t s ((s.atTime t).validBeacon b) := beaconFrame_validBeacon configured plan same
  have run := State.validBeacon_head (t := t) configured plan same
  obtain ⟨contact, -, memory, held⟩ := s.lpt.hear_frame b.junction (max s.now t)
  refine ⟨fun known pages => ⟨_, exec_loopPage_beacon valid listening, frame, ?_⟩,
    fun missing => ⟨_, exec_loopPage_beacon valid listening, frame, ?_⟩⟩
  · rw [run, State.exchange_opens plan waiting known pages (memory ▸ next) _ t]
    refine ⟨State.handedOn_postFor_tnu, rfl, rfl, rfl, rfl, contact, rfl, ⟨rfl, rfl, rfl, rfl⟩, ?_⟩
    exact State.handedOn_postFor_drc.trans (congrArg State.drc (State.postFor_approach known nofun nofun))
  · rw [run, State.exchange_unknown plan waiting missing _ t]
    refine ⟨State.handedOn_postFor_tnu, rfl, rfl, held, memory, rfl, rfl, rfl, rfl, rfl, ?_, fun room => ?_⟩
    · exact State.handedOn_postFor_drc.trans (congrArg State.drc (State.postFor_unknown ..))
    · exact State.handedOn_latched room State.postFor_faults

end Sys2Proof.Machine
end

section
/-! SUPPORT. The junction warning in what an event hands on (R114, R126). -/

namespace Sys2Proof.Machine

section warning
variable {s m : State} {r : Rtm} {l : Lpt} {t : Nat}

theorem State.reportExit_within (now : Nat) (ch : ChannelId) (e : Exit) (m : State) :
    (m.within now r l).reportExit ch e = (m.reportExit ch e).within now r l := by
  unfold State.reportExit
  split <;> rfl

/-- R165: the Tone Unit takes a request at the moment of the event, whatever the Route Manager and the LPT hold. -/
theorem State.arrived_within (ch : ChannelId) (a : Arrival) (m : State) :
    (m.within m.now r l).arrived ch a = (m.arrived ch a).within m.now r l := by
  unfold State.arrived
  have channel : (m.within m.now r l).setChannel ch a.channel = (m.setChannel ch a.channel).within m.now r l := rfl
  have latched : ∀ x : State, (x.within m.now r l).latch .soundDropped 0 = (x.latch .soundDropped 0).within m.now r l :=
    fun _ => rfl
  cases a.dropped with
  | none =>
    cases a.displaced with
    | none => exact channel
    | some q => simp only [channel, State.reportExit_within]
  | some sv =>
    cases a.displaced with
    | none => simp only [channel, latched, State.reportExit_within]
    | some q => simp only [channel, latched, State.reportExit_within]

theorem State.requestJunctionWarning_within (m : State) (t : Nat) :
    (m.within (max m.now t) r l).requestJunctionWarning = (m.warned t).within (max m.now t) r l :=
  State.arrived_within (r := r) (l := l) .cab _ (m.atTime t)

/-- R179: a fault that an event latches before it requests the junction warning stands in the fault set after it. -/
theorem State.handedOn_warns_latched {code : FaultCode} {codes : List FaultCode} {reports : List JunctionReport}
    {lifts : Bool} {post : State → State} (warns : Bool) (room : HasRoom code 0 s)
    (posts : ∀ m : State, (post m).clp.faults = m.clp.faults) :
    Latched code 0 (s.handedOn t (code :: codes) reports lifts post warns) := by
  have quiet : Latched code 0 (s.handedOn t (code :: codes) reports lifts post false) :=
    State.handedOn_latched room posts
  cases warns with
  | false => exact quiet
  | true =>
    exact (((s.handedOn t (code :: codes) reports lifts post false).atTime t).sound_latchings ..).latched quiet

end warning

/-! ## What a beacon hands on, by whether it has changed the state of the head (R121, R126) -/

section beacon
variable {s : State} {r : Rtm} {h : PlanEntry} {rest : List PlanEntry} {c : Context} {e : Emit}

theorem State.handOnBeacon_warns (before : ExState) (controller : Nat) (faults : List FaultCode) (m : State) :
    m.handOnBeacon before controller faults true e =
      (m.handOnBeacon before controller faults false e).requestJunctionWarning := rfl

/-- R126: a changed state is reported and posted, with the warning that it may request. -/
theorem State.handOnBeacon_changes {before : ExState} (plan : r.plan = h :: rest) (context : r.context = some c)
    (changed : h.state ≠ before) (beyond : h.state ≠ .waiting) (records : r.junctions = s.rtm.junctions)
    (l : Lpt) (t controller : Nat) (faults : List FaultCode) (warns : Bool) :
    (s.within (max s.now t) r l).handOnBeacon before controller faults warns Emit.nothing =
      (s.handedOn t faults [.state h.id h.selection h.origin before h.state
          (c.paging.map fun pc => (pc.answer, pc.index, pc.sends, pc.counter)) c.bad
          (distance c.loopMark s.amu.trackMm) (some controller)]
        false (State.postFor h h.state (distance c.loopMark s.amu.trackMm)) warns).within
          (max s.now t) (r.setLamps (max s.now t)) l := by
  have silent := State.handOnBeacon_within (e := Emit.nothing) plan context changed beyond records (max s.now t) l t
    controller faults
  cases warns with
  | false => exact silent
  | true =>
    rw [State.handOnBeacon_warns, silent]
    have now : ∀ m, ByDriveAndLink s m → m.now = s.now := fun m reach => by rw [reach]
    rw [← now _ State.handedOn_postFor_reach]
    exact State.requestJunctionWarning_within ..

/-- R126: a state that a beacon has not changed hands nothing on. -/
theorem State.handOnBeacon_rests {m : State} (plan : m.rtm.plan = h :: rest) (controller : Nat) :
    m.handOnBeacon h.state controller [] false Emit.nothing = { m with rtm := m.rtm.setLamps m.now } := by
  have silent : m.rtm.stateReport h.state m.amu.trackMm (some controller) = [] := by
    unfold Rtm.stateReport
    rw [plan]
    cases m.rtm.context with
    | none => rfl
    | some c => exact if_pos rfl
  unfold State.handOnBeacon
  simp only [silent, if_true]
  rfl

end beacon
end Sys2Proof.Machine
end

section
/-! SUPPORT. The judgement of a beacon for a head with pages (R107 to R116), as `BeaconMoves` says it. -/

namespace Sys2Proof.Machine

/-! ## The lamps of a head beyond WAITING (R124) -/

/-- R124: the lamps of every state beyond WAITING but UNKNOWN, as `BeaconMoves` says them. -/
theorem Rtm.setLamps_driven {r : Rtm} {st : ExState} (head : r.headState = st) (known : st ≠ .unknown)
    (settled : st ≠ .contact) (now : Nat) : r.setLamps now = { r with
      green := st = .locked, amber := st ∈ [.sending, .awaiting, .queued, .setting]
      red := st ∈ [.refused, .wrongLeg, .timedOut, .contactLost], flashStart := none } := by
  unfold Rtm.setLamps
  rw [head]
  cases st with
  | unknown => exact absurd rfl known
  | contact => exact absurd rfl settled
  | _ => rfl

section judged
variable {s : State} {t : Nat} {b : Beacon} {h : PlanEntry} {rest : List PlanEntry} {c : Context} {pc : PageContext}
  {j : Judged} {l l' : Lpt} {w : Option (Bool × Half)}

/-- R107, R116: the Route Manager once the head has been taken to a state with a context. -/
def Rtm.moved (h : PlanEntry) (rest : List PlanEntry) (after : ExState) (c : Context) (fresh : Bool) (r : Rtm) : Rtm :=
  { r with plan := { h with state := after } :: rest, context := some c, freshDue := fresh }

/-- R107: the exchange rules for a head with pages are the judgement, its reply slot and what it hands on. -/
theorem State.exchange_judged (plan : s.rtm.plan = h :: rest) (beyond : h.state ≠ .waiting)
    (context : s.rtm.context = some c) (paging : c.paging = some pc)
    (judged : judgeState (c.ruleState h.state) (b.addressed s.params.vehicle) (b.acknowledges s.params.vehicle l.held)
      s.rtm.freshDue b (pc.answered (b.addressed s.params.vehicle) b.answer) = j)
    (sent : l.slot b.junction s.params.vehicle j.slot = (l', w)) (now : Nat) :
    (s.within now s.rtm l).exchange b Emit.nothing = State.handOnBeacon h.state b.controller j.faults j.warn Emit.nothing
      (s.within now (s.rtm.moved h rest j.state (c.holding (j.paging.written w)) j.fresh) l') := by
  obtain ⟨mark, _, resume, bad⟩ := c
  dsimp only at paging
  subst paging
  simp only [State.exchange, State.within, plan, beyond, if_false, context, State.beaconMoves, judged, sent,
    Rtm.setHead_cons plan]
  rfl

/-- R107, R116: what the hand-on makes of a judged head. -/
theorem beaconMoves_handOn {after : ExState} {faults : List FaultCode} {warn fresh : Bool}
    (paged : after.paged = true) (quiet : after = h.state → faults = [] ∧ warn = false) :
    BeaconMoves t b h c after faults warn s (State.handOnBeacon h.state b.controller faults warn Emit.nothing
      (s.within (max s.now t) (s.rtm.moved h rest after c fresh) l)) := by
  have settled : after ≠ .unknown ∧ after ≠ .contact ∧ after ≠ .waiting := by
    refine ⟨?_, ?_, ?_⟩ <;> rintro rfl <;> cases paged
  obtain ⟨known, contact, beyond⟩ := settled
  have rtm := State.handOnBeacon_rtm (m := s.within (max s.now t) (s.rtm.moved h rest after c fresh) l)
    (e := Emit.nothing) h.state b.controller faults warn
  have lamps := Rtm.setLamps_driven (r := s.rtm.moved h rest after c fresh) (Rtm.headState_cons rfl) known contact
    (max s.now t)
  have settles := rtm.trans lamps
  constructor
  case head => rw [settles]; rfl
  case context => rw [settles]; rfl
  case lamps => rw [settles]; exact ⟨rfl, rfl, rfl, rfl⟩
  case same =>
    intro same
    obtain ⟨rfl, rfl⟩ := quiet same
    subst same
    rw [State.handOnBeacon_rests (h := h) (m := s.within _ (s.rtm.moved ..) l) rfl]
    exact ⟨rfl, rfl, rfl⟩
  case outputs =>
    rintro _ changed rfl
    rw [State.handOnBeacon_changes (r := s.rtm.moved h rest after c fresh) (h := { h with state := after }) rfl rfl
      changed beyond rfl l t]
    exact ⟨rfl, rfl, rfl⟩

/-- R107 to R116: a valid beacon for a head with pages, by its judgement and its reply slot. -/
theorem beaconMoves_validBeacon (configured : s.drc.driveState ≠ .unconfigured) (plan : s.rtm.plan = h :: rest)
    (same : h.id = b.junction) (beyond : h.state ≠ .waiting) (context : s.rtm.context = some c)
    (paging : c.paging = some pc)
    (judged : judgeState (c.ruleState h.state) (b.addressed s.params.vehicle)
      (b.acknowledges s.params.vehicle s.lpt.held) s.rtm.freshDue b
      (pc.answered (b.addressed s.params.vehicle) b.answer) = j)
    (sent : (s.lpt.hear b.junction (max s.now t)).slot b.junction s.params.vehicle j.slot = (l', w))
    (paged : j.state.paged = true) (quiet : j.state = h.state → j.faults = [] ∧ j.warn = false) :
    BeaconMoves t b h (c.holding (j.paging.written w)) j.state j.faults j.warn s ((s.atTime t).validBeacon b) ∧
    ((s.atTime t).validBeacon b).rtm.freshDue = j.fresh ∧ ((s.atTime t).validBeacon b).lpt = l' := by
  obtain ⟨-, -, -, held⟩ := s.lpt.hear_frame b.junction (max s.now t)
  rw [State.validBeacon_head configured plan same,
    State.exchange_judged plan beyond context paging (by rw [held]; exact judged) sent]
  refine ⟨beaconMoves_handOn paged quiet, ?_, ?_⟩
  · rw [State.handOnBeacon_rtm, Rtm.setLamps_eq]
    rfl
  · simp only [State.handOnBeacon_frame]
    rfl

/-- R114, R126: the fault of a failed exchange stands in the fault set. -/
theorem BeaconMoves.latched {after : ExState} {code : FaultCode} {codes : List FaultCode} {warns : Bool} {s' : State}
    (moves : BeaconMoves t b h c after (code :: codes) warns s s') (changed : after ≠ h.state) (room : HasRoom code 0 s) :
    Latched code 0 s' := by
  obtain ⟨-, -, link⟩ := moves.outputs _ changed rfl
  unfold Latched
  rw [link]
  exact State.handedOn_warns_latched warns room State.postFor_faults

end judged
end Sys2Proof.Machine
end

section
/-! O39: a valid beacon in SENDING. -/

namespace Sys2Proof.Machine

section sending
variable {addressed acknowledged : Bool} {b : Beacon} {pc : PageContext} {p : Page}

/-! ## What a beacon says to the vehicle (R94, R95, R107) -/

theorem Beacon.addressed_iff (vehicle : Half) (b : Beacon) :
    b.addressed vehicle = true ↔ b.addressee ≠ 0 ∧ b.addressee = vehicle := by
  simp [Beacon.addressed]

theorem PageContext.answered_addressed (vehicle : Half) (b : Beacon) (pc : PageContext) :
    pc.answered (b.addressed vehicle) b.answer =
      { pc with answer := if b.addressee ≠ 0 ∧ b.addressee = vehicle then b.answer else pc.answer } := by
  unfold PageContext.answered
  simp only [Beacon.addressed_iff]
  split <;> rfl

theorem Beacon.acknowledges_iff (vehicle : Half) (held : RequestPage) (b : Beacon) :
    b.acknowledges vehicle (some held) = true ↔ b.junction = held.junction ∧ b.addressee ≠ 0 ∧ b.addressee = vehicle ∧
      b.ackValid = true ∧ b.ackToggle = held.toggle := by
  simp [Beacon.acknowledges, Beacon.addressed, and_assoc]

/-! ## The judgement of SENDING (R108), and its reply slots (R96, R100) -/

theorem judgeSending_first (first : pc.pages[0]? = some p) : judgeState .sending addressed acknowledged true b pc =
    { state := .sending, paging := { pc with sends := 1 }, fresh := false, slot := .first p, faults := []
      warn := false } := by
  simp only [judgeState, judgeSending, if_true, pageRequest, first]
  rfl

theorem judgeSending_next (next : pc.pages[pc.index + 1]? = some p) : judgeState .sending addressed true false b pc =
    { state := .sending, paging := { pc with index := pc.index + 1, sends := 1 }, fresh := false, slot := .next p
      faults := [], warn := false } := by
  obtain ⟨further, -⟩ := List.getElem?_eq_some_iff.mp next
  simp only [judgeState, judgeSending, Bool.false_eq_true, if_false, if_true, if_pos further, pageRequest, next]
  rfl

theorem judgeSending_again (few : pc.sends < 6) : judgeState .sending addressed false false b pc =
    { state := .sending, paging := { pc with sends := pc.sends + 1 }, fresh := false, slot := .again, faults := []
      warn := false } := if_pos few

theorem judgeSending_timeout (many : 6 ≤ pc.sends) : judgeState .sending addressed false false b pc =
    { state := .timedOut, paging := pc, fresh := false, slot := .nothing, faults := [.junctionTimeout], warn := true } :=
  if_neg (Nat.not_lt.mpr many)

/-- R99: NEXT. -/
theorem Lpt.slot_next {l : Lpt} {held : RequestPage} {junction vehicle : Half} {toggle : Bool} (holds : l.held = some held)
    (next : toggle = l.toggleMemory.elim false fun m => !m) : l.slot junction vehicle (.next p) =
      (l.sendBuilt (builtPage junction vehicle held.check p toggle), some (toggle, held.check)) := by
  simp only [Lpt.slot, holds, Lpt.build_eq next]
  rfl

end sending

/-- Settles O39: each clause is one judgement of SENDING with its reply slot. -/
theorem sendingPages : Obligations.SendingPages := by
  unfold Obligations.SendingPages
  rintro t page b h c pc _ s held acked toggle valid configured head same sending context paging holds listening next
    rfl acks
  obtain ⟨rest, plan⟩ := List.head?_eq_some_iff.mp head
  obtain ⟨-, -, memory, stays⟩ := s.lpt.hear_frame b.junction (max s.now t)
  have beyond : h.state ≠ .waiting := by
    obtain state | ⟨state, -⟩ := sending <;> rw [state] <;> nofun
  have rule : c.ruleState h.state = .sending := by
    obtain state | ⟨state, resume⟩ := sending
    · simp only [Context.ruleState, state]
    · simp only [Context.ruleState, state, resume]
  have acknowledged : b.acknowledges s.params.vehicle s.lpt.held = acked := by
    rw [holds, Bool.eq_iff_iff, Beacon.acknowledges_iff, acks]
  have taken := fun j l' w => beaconMoves_validBeacon (t := t) (j := j) (l' := l') (w := w) configured plan same beyond
    context paging
  rw [rule, acknowledged, PageContext.answered_addressed] at taken
  refine ⟨_, exec_loopPage_beacon valid listening, beaconFrame_validBeacon configured plan same, ?_, ?_, ?_, ?_⟩
  · intro fresh p0 first
    rw [fresh] at taken
    obtain ⟨moves, due, lpt⟩ := taken _ _ _ (judgeSending_first first)
      (Lpt.slot_first (memory ▸ next)) rfl fun _ => ⟨rfl, rfl⟩
    rw [lpt]
    exact ⟨moves, due, rfl, rfl, rfl⟩
  · intro fresh acked p further
    rw [fresh, acked] at taken
    obtain ⟨moves, due, lpt⟩ := taken _ _ _ (judgeSending_next further)
      (Lpt.slot_next (stays.trans holds) (memory ▸ next)) rfl fun _ => ⟨rfl, rfl⟩
    rw [lpt]
    exact ⟨moves, due, rfl, rfl, rfl⟩
  · intro fresh acked few
    rw [fresh, acked] at taken
    obtain ⟨moves, due, lpt⟩ := taken _ _ _ (judgeSending_again few) rfl rfl
      fun _ => ⟨rfl, rfl⟩
    rw [lpt]
    exact ⟨moves, due, stays.trans holds, stays.trans holds, memory⟩
  · intro fresh acked many
    rw [fresh, acked] at taken
    have changed : ExState.timedOut ≠ h.state := by
      obtain state | ⟨state, -⟩ := sending <;> rw [state] <;> nofun
    obtain ⟨moves, due, lpt⟩ := taken _ _ _ (judgeSending_timeout many) rfl rfl
      fun same => absurd same changed
    have latched : HasRoom .junctionTimeout 0 s → _ := moves.latched changed
    rw [lpt]
    exact ⟨moves, due, rfl, stays.trans holds, memory, latched⟩

end Sys2Proof.Machine
end

section
/-! SUPPORT. The judgements of a beacon that is answered without a page (R107, R109 to R114), an equation per case. -/

namespace Sys2Proof.Machine

/-! ## What a beacon says of the points (R112) -/

theorem Beacon.locks_iff (b : Beacon) (p : Page) : b.locks p = true ↔ ∃ v, b.sets[p.set]? = some v ∧ v.locked = true := by
  unfold Beacon.locks
  split
  · next found => simp [found]
  · next missing => simp [missing]

theorem Beacon.inPlace_iff (b : Beacon) (p : Page) :
    b.inPlace p = true ↔ ∃ v, b.sets[p.set]? = some v ∧ v.locked = true ∧ v.pos = some p.pos := by
  unfold Beacon.inPlace
  split
  · next found => simp [found]
  · next missing => simp [missing]

/-- R112: a set that is in place is locked. -/
theorem Beacon.not_all_inPlace {b : Beacon} {pages : List Page} (unlocked : pages.all b.locks = false) :
    pages.all b.inPlace = false := by
  simp only [← Bool.not_eq_true, List.all_eq_true] at unlocked ⊢
  refine fun placed => unlocked fun p mem => ?_
  obtain ⟨v, found, locked, -⟩ := (b.inPlace_iff p).mp (placed p mem)
  exact (b.locks_iff p).mpr ⟨v, found, locked⟩

theorem Answer.refuses_iff (a : Answer) : a.refuses = true ↔ a ∈ [Answer.refusedBlocked, .refusedLocal, .refusedFault] := by
  cases a <;> decide

section judgements
variable {st : ExState} {addressed acknowledged fresh : Bool} {b : Beacon} {pc : PageContext} {limit : Nat}

/-! ## The counters (R110, R112) -/

theorem countBeacon_few (few : pc.counter + 1 < limit) :
    countBeacon st limit fresh pc = .rest st fresh { pc with counter := pc.counter + 1 } := if_neg (Nat.not_le.mpr few)

theorem countBeacon_reaches (many : limit ≤ pc.counter + 1) :
    countBeacon st limit fresh pc = .fail .timedOut fresh { pc with counter := pc.counter + 1 } := if_pos many

/-! ## A beacon that is not addressed (R110 to R114) -/

theorem judgeState_unaddressed_counts (counts : st = .awaiting ∧ limit = 20 ∨ st = .setting ∧ limit = 160) :
    judgeState st false acknowledged fresh b pc = countBeacon st limit fresh pc := by
  obtain ⟨rfl, rfl⟩ | ⟨rfl, rfl⟩ := counts <;> rfl

theorem judgeState_unaddressed_rests (rests : st ∈ [ExState.queued, .locked, .refused, .wrongLeg, .timedOut]) :
    judgeState st false acknowledged fresh b pc = .rest st fresh pc := by
  simp only [List.mem_cons, List.not_mem_nil, or_false] at rests
  obtain rfl | rfl | rfl | rfl | rfl := rests <;> rfl

/-! ## SETTING (R112) -/

theorem judgeSetting_refuses (refuses : b.answer.refuses = true) :
    judgeSetting true fresh b pc = .fail .refused fresh pc := if_pos refuses

theorem judgeSetting_placed (agrees : b.answer.refuses = false) (placed : pc.pages.all b.inPlace = true) :
    judgeSetting true fresh b pc = .rest .locked fresh pc := by
  simp [judgeSetting, agrees, placed]

theorem judgeSetting_outOfPlace (agrees : b.answer.refuses = false) (apart : pc.pages.all b.inPlace = false)
    (locked : pc.pages.all b.locks = true) : judgeSetting true fresh b pc = .fail .wrongLeg fresh pc := by
  simp [judgeSetting, agrees, apart, locked]

theorem judgeSetting_counts (agrees : b.answer.refuses = false) (unlocked : pc.pages.all b.locks = false) :
    judgeSetting true fresh b pc = countBeacon .setting 160 fresh pc := by
  simp [judgeSetting, agrees, Beacon.not_all_inPlace unlocked, unlocked, Config.settingBeacons]

/-! ## LOCKED (R113) -/

theorem judgeLocked_placed (placed : pc.pages.all b.inPlace = true) :
    judgeLocked addressed fresh b pc = .rest .locked fresh pc := by
  simp [judgeLocked, placed]

theorem judgeLocked_loses (apart : pc.pages.all b.inPlace = false) : judgeLocked true fresh b pc =
    { state := .setting, paging := { pc with counter := 0 }, fresh := fresh, slot := .nothing
      faults := [.junctionLockLost], warn := true } := by
  simp [judgeLocked, apart, Judged.rest]

/-! ## The answers at the last page, in AWAITING and in QUEUED (R109 to R111) -/

/-- R109: a beacon that is taken by the rule of SENDING acknowledges the last page. -/
def PageContext.AtLastPage (st : ExState) (acknowledged fresh : Bool) (pc : PageContext) : Prop :=
  st = .sending → fresh = false ∧ acknowledged = true ∧ pc.pages.length ≤ pc.index + 1

theorem judgeState_atLastPage (last : pc.AtLastPage .sending acknowledged fresh) :
    judgeState .sending addressed acknowledged fresh b pc = judgeLastPage addressed fresh b pc := by
  obtain ⟨rfl, rfl, short⟩ := last rfl
  simp [judgeState, judgeSending, Nat.not_lt.mpr short]

theorem judgeLastPage_none (none : b.answer = .none) :
    judgeLastPage addressed fresh b pc = .rest .awaiting fresh { pc with counter := 0 } := if_pos none

theorem judgeLastPage_answers (answers : b.answer ≠ .none) :
    judgeLastPage addressed fresh b pc = judgeAwaiting addressed fresh b { pc with counter := 0 } := if_neg answers

theorem judgeAwaiting_none (none : b.answer = .none) :
    judgeAwaiting true fresh b pc = countBeacon .awaiting 20 fresh pc := by
  simp [judgeAwaiting, none, Config.awaitingBeacons]

theorem judgeAwaiting_queued (queued : b.answer = .queued) :
    judgeAwaiting true fresh b pc = .rest .queued fresh { pc with counter := 0 } := by
  simp [judgeAwaiting, queued]

theorem judgeAwaiting_accepted (accepted : b.answer = .accepted) :
    judgeAwaiting true fresh b pc = judgeSetting true fresh b { pc with counter := 0 } := by
  simp [judgeAwaiting, accepted]

theorem judgeAwaiting_refuses (refuses : b.answer.refuses = true) :
    judgeAwaiting true fresh b pc = .fail .refused fresh pc := by
  have which := (Answer.refuses_iff _).mp refuses
  simp only [List.mem_cons, List.not_mem_nil, or_false] at which
  obtain answer | answer | answer := which <;> simp [judgeAwaiting, answer]

theorem judgeQueued_waits (waits : b.answer ∈ [Answer.none, .queued]) :
    judgeQueued true fresh b pc = .rest .queued fresh pc := by
  simp only [List.mem_cons, List.not_mem_nil, or_false] at waits
  obtain answer | answer := waits <;> simp [judgeQueued, answer]

theorem judgeQueued_accepted (accepted : b.answer = .accepted) :
    judgeQueued true fresh b pc = judgeSetting true fresh b { pc with counter := 0 } := by
  simp [judgeQueued, accepted]

theorem judgeQueued_refuses (refuses : b.answer.refuses = true) :
    judgeQueued true fresh b pc = .fail .refused fresh pc := by
  have which := (Answer.refuses_iff _).mp refuses
  simp only [List.mem_cons, List.not_mem_nil, or_false] at which
  obtain answer | answer | answer := which <;> simp [judgeQueued, answer]

/-! ## One answer over the states that it decides -/

/-- R109, R110: QUEUED. -/
theorem judgeState_queued (decides : st ∈ [ExState.sending, .awaiting]) (last : pc.AtLastPage st acknowledged fresh)
    (queued : b.answer = .queued) :
    judgeState st true acknowledged fresh b pc = .rest .queued fresh { pc with counter := 0 } := by
  simp only [List.mem_cons, List.not_mem_nil, or_false] at decides
  obtain rfl | rfl := decides
  · rw [judgeState_atLastPage last, judgeLastPage_answers (by rw [queued]; nofun), judgeAwaiting_queued queued]
  · exact judgeAwaiting_queued queued

/-- R109 to R112: a REFUSED answer. -/
theorem judgeState_refuses (decides : st ∈ [ExState.sending, .awaiting, .queued, .setting])
    (last : pc.AtLastPage st acknowledged fresh) (refuses : b.answer.refuses = true) :
    judgeState st true acknowledged fresh b pc =
      .fail .refused fresh { pc with counter := if st = .sending then 0 else pc.counter } := by
  simp only [List.mem_cons, List.not_mem_nil, or_false] at decides
  obtain rfl | rfl | rfl | rfl := decides
  · have answers : b.answer ≠ .none := fun none => by rw [none] at refuses; cases refuses
    rw [judgeState_atLastPage last, judgeLastPage_answers answers, judgeAwaiting_refuses refuses]
    rfl
  · exact judgeAwaiting_refuses refuses
  · exact judgeQueued_refuses refuses
  · exact judgeSetting_refuses refuses

/-- R109 to R112: ACCEPTED, and SETTING as long as the answer does not refuse, are judged by the points. -/
theorem judgeState_accepted (last : pc.AtLastPage st acknowledged fresh)
    (decides : st ∈ [ExState.sending, .awaiting, .queued] ∧ b.answer = .accepted ∨ st = .setting) :
    judgeState st true acknowledged fresh b pc =
      judgeSetting true fresh b { pc with counter := if st = .setting then pc.counter else 0 } := by
  simp only [List.mem_cons, List.not_mem_nil, or_false] at decides
  obtain ⟨rfl | rfl | rfl, accepted⟩ | rfl := decides
  · rw [judgeState_atLastPage last, judgeLastPage_answers (by rw [accepted]; nofun), judgeAwaiting_accepted accepted]
    rfl
  · exact judgeAwaiting_accepted accepted
  · exact judgeQueued_accepted accepted
  · rfl

/-! ## What these judgements share -/

/-- R96, R107, R114: a judgement in the state `st` that sends no page and, if it keeps the state, latches nothing. -/
structure Judged.Silent (st : ExState) (fresh : Bool) (j : Judged) : Prop where
  slot  : j.slot = .nothing
  fresh : j.fresh = fresh
  quiet : j.state = st → j.faults = [] ∧ j.warn = false

theorem Judged.silent_rest (after : ExState) : (Judged.rest after fresh pc).Silent st fresh :=
  ⟨rfl, rfl, fun _ => ⟨rfl, rfl⟩⟩

theorem Judged.silent_fail {after : ExState} (running : st.failed = false) (fails : after.failed = true) :
    (Judged.fail after fresh pc).Silent st fresh := by
  refine ⟨rfl, rfl, fun same => ?_⟩
  obtain rfl : after = st := same
  rw [fails] at running
  cases running

theorem countBeacon_silent (running : st.failed = false) (counts : ExState) :
    (countBeacon counts limit fresh pc).Silent st fresh := by
  unfold countBeacon
  dsimp only
  split
  · exact Judged.silent_fail running rfl
  · exact Judged.silent_rest counts

theorem judgeSetting_silent (running : st.failed = false) : (judgeSetting addressed fresh b pc).Silent st fresh := by
  unfold judgeSetting
  split
  · split
    · exact Judged.silent_fail running rfl
    · split
      · exact Judged.silent_rest _
      · split
        · exact Judged.silent_fail running rfl
        · exact countBeacon_silent running _
  · exact countBeacon_silent running _

theorem judgeAwaiting_silent (running : st.failed = false) : (judgeAwaiting addressed fresh b pc).Silent st fresh := by
  unfold judgeAwaiting
  split
  · split
    · exact judgeSetting_silent running
    · exact Judged.silent_rest _
    · exact Judged.silent_fail running rfl
    · exact Judged.silent_fail running rfl
    · exact Judged.silent_fail running rfl
    · exact countBeacon_silent running _
  · exact countBeacon_silent running _

theorem judgeQueued_silent (running : st.failed = false) : (judgeQueued addressed fresh b pc).Silent st fresh := by
  unfold judgeQueued
  split
  · split
    · exact judgeSetting_silent running
    · exact Judged.silent_fail running rfl
    · exact Judged.silent_fail running rfl
    · exact Judged.silent_fail running rfl
    · exact Judged.silent_rest _
    · exact Judged.silent_rest _
  · exact Judged.silent_rest _

theorem judgeLastPage_silent (running : st.failed = false) : (judgeLastPage addressed fresh b pc).Silent st fresh := by
  unfold judgeLastPage
  dsimp only
  split
  · exact Judged.silent_rest _
  · exact judgeAwaiting_silent running

theorem judgeLocked_silent : (judgeLocked addressed fresh b pc).Silent .locked fresh := by
  unfold judgeLocked
  split
  · exact ⟨rfl, rfl, nofun⟩
  · exact Judged.silent_rest _

/-- R107 to R114: but for the pages of SENDING, no judgement sends a page. -/
theorem judgeState_silent (last : pc.AtLastPage st acknowledged fresh) :
    (judgeState st addressed acknowledged fresh b pc).Silent st fresh := by
  cases st with
  | sending => rw [judgeState_atLastPage last]; exact judgeLastPage_silent rfl
  | awaiting => exact judgeAwaiting_silent rfl
  | queued => exact judgeQueued_silent rfl
  | setting => exact judgeSetting_silent rfl
  | locked => exact judgeLocked_silent
  | _ => exact Judged.silent_rest _

end judgements
end Sys2Proof.Machine
end

section
/-! SUPPORT. A beacon that the head takes by the rule of a state, and that is answered without a page (R107, R116). -/

namespace Sys2Proof.Machine

/-- R96: a beacon with no slot request. -/
theorem Lpt.slot_nothing (junction vehicle : Half) (l : Lpt) :
    l.slot junction vehicle .nothing = ({ l with slotPage := none }, none) := rfl

/-- R107, R116: a page of the loop is heard as a beacon for the head `h`, which has the pages `pc` and takes it by the rule
of `st`: its own state, or the one to which it is resumed from CONTACT_LOST. -/
structure HeadHears (t : Nat) (page : List Byte) (b : Beacon) (h : PlanEntry) (c : Context) (pc : PageContext)
    (st : ExState) (s : State) : Prop where
  valid      : classify page = .beacon b
  configured : s.drc.driveState ≠ .unconfigured
  head       : s.rtm.plan.head? = some h
  same       : h.id = b.junction
  context    : s.rtm.context = some c
  paging     : c.paging = some pc
  listening  : s.lpt.transmitting (max s.now t) = false
  takes      : h.state = st ∧ st ≠ .contactLost ∨ h.state = .contactLost ∧ c.resume = some st
  paged      : st.paged = true

namespace HeadHears
variable {t : Nat} {page : List Byte} {b : Beacon} {h : PlanEntry} {c : Context} {pc pca : PageContext} {st : ExState}
  {s : State} {addressed : Bool}

theorem ruleState (hears : HeadHears t page b h c pc st s) : c.ruleState h.state = st := by
  unfold Context.ruleState
  obtain ⟨state, moving⟩ | ⟨state, resume⟩ := hears.takes
  · split
    · next lost _ => exact absurd (state.symm.trans lost) moving
    · exact state
  · rw [state, resume]

theorem rtm_ruleState (hears : HeadHears t page b h c pc st s) : s.rtm.ruleState = st := by
  obtain ⟨rest, plan⟩ := List.head?_eq_some_iff.mp hears.head
  unfold Rtm.ruleState
  rw [hears.context, Rtm.headState_cons plan]
  exact hears.ruleState

theorem beyond (hears : HeadHears t page b h c pc st s) : h.state ≠ .waiting := by
  intro waiting
  have paged := hears.paged
  obtain ⟨state, -⟩ | ⟨state, -⟩ := hears.takes
  · rw [← state, waiting] at paged
    cases paged
  · cases waiting.symm.trans state

/-- R115, R116: a state of the exchange that is not the rule's is not the head's either. -/
theorem changed {after : ExState} (hears : HeadHears t page b h c pc st s) (paged : after.paged = true) (other : after ≠ st) :
    after ≠ h.state := by
  obtain ⟨state, -⟩ | ⟨state, -⟩ := hears.takes
  · exact state ▸ other
  · rw [state]
    rintro rfl
    cases paged

/-- R107, R116: the beacon moves the head by its judgement, and the LPT has no page to send. -/
theorem moves (hears : HeadHears t page b h c pc st s) (told : b.addressed s.params.vehicle = addressed)
    (answered : pc.answered addressed b.answer = pca)
    (last : pca.AtLastPage st (b.acknowledges s.params.vehicle s.lpt.held) s.rtm.freshDue) :
    ∃ s', exec (.loopPage t page) s = .next s' ∧ BeaconFrame t s s' ∧ s'.rtm.freshDue = s.rtm.freshDue ∧
      s'.lpt.slotPage = none ∧ s'.lpt.held = s.lpt.held ∧ s'.lpt.toggleMemory = s.lpt.toggleMemory ∧
      ∀ j, judgeState st addressed (b.acknowledges s.params.vehicle s.lpt.held) s.rtm.freshDue b pca = j →
        BeaconMoves t b h (c.holding j.paging) j.state j.faults j.warn s s' := by
  obtain ⟨rest, plan⟩ := List.head?_eq_some_iff.mp hears.head
  obtain ⟨-, -, memory, held⟩ := s.lpt.hear_frame b.junction (max s.now t)
  obtain ⟨slot, fresh, quiet⟩ := judgeState_silent (addressed := addressed) (b := b) last
  have paged := judgeState_paged (addressed := addressed) (fresh := s.rtm.freshDue) (b := b) (pc := pca)
    (acknowledged := b.acknowledges s.params.vehicle s.lpt.held) hears.paged
  obtain ⟨moves, due, lpt⟩ := beaconMoves_validBeacon (t := t) hears.configured plan hears.same hears.beyond hears.context
    hears.paging (by rw [hears.ruleState, told, answered]) (by rw [slot, Lpt.slot_nothing]) paged fun unchanged =>
      quiet <| by
        by_contra other
        exact hears.changed paged other unchanged
  refine ⟨_, exec_loopPage_beacon hears.valid hears.listening,
    beaconFrame_validBeacon hears.configured plan hears.same, due.trans fresh, ?_, ?_, ?_, ?_⟩
  · rw [lpt]
  · rw [lpt, ← held]
  · rw [lpt, ← memory]
  · rintro _ rfl
    exact moves

end HeadHears

theorem BeaconMoves.headState {t : Nat} {b : Beacon} {h : PlanEntry} {c : Context} {after : ExState}
    {codes : List FaultCode} {warns : Bool} {s s' : State} (moves : BeaconMoves t b h c after codes warns s s') :
    s'.rtm.headState = after := by
  obtain ⟨rest, plan⟩ := List.head?_eq_some_iff.mp moves.head
  exact Rtm.headState_cons plan

end Sys2Proof.Machine
end

section
/-! O40: a beacon that is not addressed to the vehicle, and the rows of the two timeouts. -/

namespace Sys2Proof.Machine

section timeouts
variable {t : Nat} {page : List Byte} {s s' : State}

/-- The rows of the timeouts are the page of the loop, or nothing (assumption 4). -/
theorem exec_timeouts (loop : exec (.loopPage t page) s = .next s') :
    exec (.awaitingTimeout t page) s =
      .next (if s.rtm.ruleState = .awaiting ∧ s'.rtm.headState = .timedOut then s' else s.atTime t) ∧
    exec (.settingTimeout t page) s =
      .next (if s.rtm.ruleState = .setting ∧ s'.rtm.headState = .timedOut then s' else s.atTime t) := by
  cases loop
  exact ⟨rfl, rfl⟩

theorem exec_timeouts_idle (loop : exec (.loopPage t page) s = .next s')
    (idle : s.rtm.ruleState ∈ [.awaiting, .setting] → s'.rtm.headState ≠ .timedOut) :
    exec (.awaitingTimeout t page) s = .next (s.atTime t) ∧ exec (.settingTimeout t page) s = .next (s.atTime t) := by
  obtain ⟨awaiting, setting⟩ := exec_timeouts loop
  rw [awaiting, setting, if_neg, if_neg]
  · exact ⟨rfl, rfl⟩
  · exact fun ⟨rule, out⟩ => idle (by simp [rule]) out
  · exact fun ⟨rule, out⟩ => idle (by simp [rule]) out

end timeouts

section unaddressed
variable {t : Nat} {page : List Byte} {b : Beacon} {h : PlanEntry} {c : Context} {pc : PageContext} {st : ExState}
  {s : State} {limit : Nat}

/-- R107, R116: a beacon that is not addressed moves the head by a judgement of the page fields as they stand. -/
theorem HeadHears.moves_unaddressed (hears : HeadHears t page b h c pc st s) (beyond : st ≠ .sending)
    (others : b.addressee = 0 ∨ b.addressee ≠ s.params.vehicle) :
    ∃ s', exec (.loopPage t page) s = .next s' ∧ BeaconFrame t s s' ∧ s'.lpt.slotPage = none ∧
      ∀ j, judgeState st false (b.acknowledges s.params.vehicle s.lpt.held) s.rtm.freshDue b pc = j →
        BeaconMoves t b h (c.holding j.paging) j.state j.faults j.warn s s' := by
  have unaddressed : b.addressed s.params.vehicle = false := by
    rw [← Bool.not_eq_true, Beacon.addressed_iff]
    rintro ⟨some, own⟩
    exact others.elim some fun other => other own
  obtain ⟨s', loop, frame, -, slot, -, -, moves⟩ := hears.moves unaddressed rfl fun sending => absurd sending beyond
  exact ⟨s', loop, frame, slot, moves⟩

/-- R110, R112, R114: the beacon that brings the counter to its limit. -/
theorem HeadHears.times_out (hears : HeadHears t page b h c pc st s)
    (counts : st = .awaiting ∧ limit = 20 ∨ st = .setting ∧ limit = 160)
    (others : b.addressee = 0 ∨ b.addressee ≠ s.params.vehicle) (many : limit ≤ pc.counter + 1) :
    ∃ s', (s.rtm.ruleState = st ∧ s'.rtm.headState = .timedOut) ∧ exec (.loopPage t page) s = .next s' ∧
      BeaconFrame t s s' ∧
      BeaconMoves t b h (c.holding { pc with counter := pc.counter + 1 }) .timedOut [.junctionTimeout] true s s' ∧
      s'.lpt.slotPage = none ∧ (HasRoom .junctionTimeout 0 s → Latched .junctionTimeout 0 s') := by
  have states : st ≠ .sending ∧ ExState.timedOut ≠ st := by
    obtain ⟨rfl, -⟩ | ⟨rfl, -⟩ := counts <;> exact ⟨nofun, nofun⟩
  obtain ⟨beyond, other⟩ := states
  obtain ⟨s', loop, frame, slot, moves⟩ := hears.moves_unaddressed beyond others
  have out := moves _ ((judgeState_unaddressed_counts counts).trans (countBeacon_reaches many))
  exact ⟨s', ⟨hears.rtm_ruleState, out.headState⟩, loop, frame, out, slot, out.latched (hears.changed rfl other)⟩

end unaddressed

/-- Settles O40: the beacon counts in AWAITING and SETTING, and changes nothing in the other states. -/
theorem exchangeTimeouts : Obligations.ExchangeTimeouts := by
  unfold Obligations.ExchangeTimeouts
  intro t page b h c pc st s valid configured head same context paging listening takes others
  have hears : st.paged = true → HeadHears t page b h c pc st s := fun paged =>
    ⟨valid, configured, head, same, context, paging, listening, takes, paged⟩
  refine ⟨?_, ?_, ?_, ?_⟩
  · rintro rfl many
    obtain ⟨s', out, loop, rest⟩ := (hears rfl).times_out (.inl ⟨rfl, rfl⟩) others many
    exact ⟨s', by rw [(exec_timeouts loop).1, if_pos out], loop, rest⟩
  · rintro rfl many
    obtain ⟨s', out, loop, rest⟩ := (hears rfl).times_out (.inr ⟨rfl, rfl⟩) others many
    exact ⟨s', by rw [(exec_timeouts loop).2, if_pos out], loop, rest⟩
  · intro counting
    have states : ∃ limit, (st = .awaiting ∧ limit = 20 ∨ st = .setting ∧ limit = 160) ∧ pc.counter + 1 < limit := by
      obtain ⟨state, few⟩ | ⟨state, few⟩ := counting
      · exact ⟨20, .inl ⟨state, rfl⟩, few⟩
      · exact ⟨160, .inr ⟨state, rfl⟩, few⟩
    obtain ⟨limit, counts, few⟩ := states
    have running : st.paged = true ∧ st ≠ .sending ∧ st ≠ .timedOut := by
      obtain ⟨rfl, -⟩ | ⟨rfl, -⟩ := counts <;> decide
    obtain ⟨paged, beyond, within⟩ := running
    obtain ⟨s', loop, frame, slot, moves⟩ := (hears paged).moves_unaddressed beyond others
    have counted := moves _ ((judgeState_unaddressed_counts counts).trans (countBeacon_few few))
    obtain ⟨awaiting, setting⟩ := exec_timeouts_idle loop fun _ out => within (counted.headState.symm.trans out)
    exact ⟨awaiting, setting, s', loop, frame, counted, slot⟩
  · intro rests
    have states : st.paged = true ∧ st ≠ .sending ∧ st ∉ [.awaiting, .setting] := by
      revert rests
      cases st <;> decide
    obtain ⟨paged, beyond, uncounted⟩ := states
    obtain ⟨s', loop, frame, slot, moves⟩ := (hears paged).moves_unaddressed beyond others
    obtain ⟨awaiting, setting⟩ := exec_timeouts_idle loop fun rule =>
      absurd ((hears paged).rtm_ruleState ▸ rule) uncounted
    exact ⟨awaiting, setting, s', loop, frame, moves _ (judgeState_unaddressed_rests rests), slot⟩

end Sys2Proof.Machine
end

section
/-! O41: a beacon that is addressed to the vehicle. -/

namespace Sys2Proof.Machine

section points
variable {b : Beacon} {pages : List Page}

/-- R112: every set in place. -/
theorem Beacon.allPlaced_eq {allPlaced : Bool} (placed : allPlaced = true ↔
    ∀ p ∈ pages, ∃ v, b.sets[p.set]? = some v ∧ v.locked = true ∧ v.pos = some p.pos) :
    pages.all b.inPlace = allPlaced := by
  rw [Bool.eq_iff_iff, placed]
  simp only [List.all_eq_true, Beacon.inPlace_iff]

theorem Beacon.allLocked_eq {allLocked : Bool} (locked : allLocked = true ↔
    ∀ p ∈ pages, ∃ v, b.sets[p.set]? = some v ∧ v.locked = true) : pages.all b.locks = allLocked := by
  rw [Bool.eq_iff_iff, locked]
  simp only [List.all_eq_true, Beacon.locks_iff]

end points

/-- Settles O41: each clause is one judgement of an addressed beacon. -/
theorem pointsLock : Obligations.PointsLock := by
  unfold Obligations.PointsLock
  rintro t _ page b h c pc st s refuses allLocked allPlaced _ valid configured head same context paging listening takes
    addressee own states acks refusing locking placing rfl rfl
  have paged : st.paged = true := by
    revert states
    cases st <;> decide
  have hears : HeadHears t page b h c pc st s :=
    ⟨valid, configured, head, same, context, paging, listening, takes, paged⟩
  have last : { pc with answer := b.answer }.AtLastPage st (b.acknowledges s.params.vehicle s.lpt.held)
      s.rtm.freshDue := by
    intro sending
    obtain ⟨fresh, short, held, holds, junction, ackValid, toggle⟩ := acks sending
    refine ⟨fresh, ?_, short⟩
    rw [holds, Beacon.acknowledges_iff]
    exact ⟨junction, addressee, own, ackValid, toggle⟩
  obtain rfl : b.answer.refuses = refuses := by rw [Bool.eq_iff_iff, refusing, Answer.refuses_iff]
  obtain rfl := Beacon.allLocked_eq locking
  obtain rfl := Beacon.allPlaced_eq placing
  obtain ⟨s', loop, frame, fresh, slot, held, memory, moves⟩ :=
    hears.moves ((Beacon.addressed_iff _ b).mpr ⟨addressee, own⟩) rfl last
  refine ⟨s', loop, frame, fresh, slot, held, memory, ?_, ?_, ?_, ?_, ?_, ?_, ?_, ?_, ?_, ?_⟩
  · rintro rfl none
    exact moves _ ((judgeState_atLastPage last).trans (judgeLastPage_none none))
  · rintro rfl none few
    exact moves _ ((judgeAwaiting_none none).trans (countBeacon_few few))
  · rintro rfl none many
    exact moves _ ((judgeAwaiting_none none).trans (countBeacon_reaches many))
  · intro decides queued
    exact moves _ (judgeState_queued decides last queued)
  · rintro rfl waits
    exact moves _ (judgeQueued_waits waits)
  · intro decides refuse
    exact moves _ (judgeState_refuses decides last refuse)
  · intro judged
    have agrees : b.answer.refuses = false := by
      obtain ⟨-, accepted⟩ | ⟨-, agrees⟩ := judged
      · rw [accepted]
        rfl
      · exact agrees
    have other : ExState.wrongLeg ≠ st := by
      rintro rfl
      simp at judged
    have bySetting := judgeState_accepted last (judged.imp_right And.left)
    have counts := fun unlocked => bySetting.trans (judgeSetting_counts agrees unlocked)
    refine ⟨fun placed => ?_, fun apart locked => ?_, fun unlocked few => ?_, fun unlocked many => ?_⟩
    · exact moves _ (bySetting.trans (judgeSetting_placed agrees placed))
    · have wrong := moves _ (bySetting.trans (judgeSetting_outOfPlace agrees apart locked))
      exact ⟨wrong, wrong.latched (hears.changed rfl other)⟩
    · exact moves _ ((counts unlocked).trans (countBeacon_few few))
    · exact moves _ ((counts unlocked).trans (countBeacon_reaches many))
  · rintro rfl placed
    exact moves _ (judgeLocked_placed placed)
  · rintro rfl apart
    have lost := moves _ (judgeLocked_loses apart)
    exact ⟨lost, lost.latched (hears.changed rfl nofun)⟩
  · intro failed
    have rests : judgeState st true (b.acknowledges s.params.vehicle s.lpt.held) s.rtm.freshDue b
        { pc with answer := b.answer } = .rest st s.rtm.freshDue { pc with answer := b.answer } := by
      simp only [List.mem_cons, List.not_mem_nil, or_false] at failed
      obtain rfl | rfl | rfl := failed <;> rfl
    exact moves _ rests

end Sys2Proof.Machine
end

section
/-! SUPPORT. The DOORS slot of the restriction table, which the doors alone post and lift (R143): the operations of the
other blocks leave it as it stands. -/

namespace Sys2Proof.Machine

variable (s : State)

/-! ## Posts, lifts and the reverser (R21, R22, R49) -/

@[simp] theorem State.post_route_doors (kind : Kind) (ceiling : Nat) (reason : Byte) :
    (s.post .route kind ceiling reason).drc.table.doors = s.drc.table.doors :=
  s.post_others (slot := .route) (other := .doors) nofun kind ceiling reason

@[simp] theorem State.post_reverse_doors (kind : Kind) (ceiling : Nat) (reason : Byte) :
    (s.post .reverse kind ceiling reason).drc.table.doors = s.drc.table.doors :=
  s.post_others (slot := .reverse) (other := .doors) nofun kind ceiling reason

@[simp] theorem State.lift_route_doors : (s.lift .route).drc.table.doors = s.drc.table.doors := by
  rw [State.lift_table]; rfl

@[simp] theorem State.lift_reverse_doors : (s.lift .reverse).drc.table.doors = s.drc.table.doors := by
  rw [State.lift_table]; rfl

@[simp] theorem State.reverseEntry_doors (r : Reverser) :
    (s.reverseEntry r).drc.table.doors = s.drc.table.doors := by
  cases r <;> simp [State.reverseEntry]

@[simp] theorem State.takeReverser_doors (r : Reverser) :
    (s.takeReverser r).settle.drc.table.doors = s.drc.table.doors := by
  have tripped : ∀ m : State, (m.trip .reverser).drc.table.doors = m.drc.table.doors := fun m =>
    congrArg (·.table.doors) (m.trip_speeds .reverser)
  refine Eq.trans (congrArg (·.table.doors) (s.takeReverser r).settle_speeds) ?_
  change (s.takeReverser r).drc.table.doors = _
  simp only [State.takeReverser]
  (repeat' split) <;> simp [tripped, State.setU]

/-! ## The control interval (R27, R28) -/

@[simp] theorem State.controlInterval_doors : s.controlInterval.drc.table.doors = s.drc.table.doors := by
  by_cases due : s.drc.intervalDue ≤ s.now
  · exact ((State.controlInterval_intervalSpeeds due).table .doors).trans (if_neg (by decide))
  · rw [State.controlInterval, if_neg (by simpa [controlDue] using due)]

/-! ## The Route Manager (R126) -/

@[simp] theorem State.handOn_doors (e : Emit) : (s.handOn e).drc.table.doors = s.drc.table.doors := by
  simp only [State.handOn]
  (repeat' split) <;> simp

@[simp] theorem State.exchange_doors (b : Beacon) (e : Emit) :
    (s.exchange b e).drc.table.doors = s.drc.table.doors := by
  simp only [State.exchange, State.firstContact, State.enterUnknown, State.beaconMoves, State.handOnBeacon]
  (repeat' split) <;> simp

@[simp] theorem State.loopPage_doors (page : List Byte) :
    (s.loopPage page).drc.table.doors = s.drc.table.doors := by
  simp only [State.loopPage, State.takePage, State.validBeacon]
  (repeat' split) <;> simp

@[simp] theorem State.contactLost_doors : s.contactLost.drc.table.doors = s.drc.table.doors := by
  simp only [State.contactLost, State.loseContact]
  (repeat' split) <;> simp

@[simp] theorem State.approachInterval_doors : s.approachInterval.drc.table.doors = s.drc.table.doors := by
  simp only [State.approachInterval, State.approachSteps, State.passHead, State.superviseHead]
  (repeat' split) <;> simp

@[simp] theorem State.selectorPress_doors (sel : Selection) :
    (s.selectorPress sel).drc.table.doors = s.drc.table.doors := by
  simp only [State.selectorPress, State.selectHead, State.replaceSelection, State.reRequest]
  (repeat' split) <;> simp

/-! ## The commands of the cab link -/

theorem linkSlot_isLink {b : Byte} {slot : Slot} (link : linkSlot b = some slot) : ∃ i, slot = .link i := by
  unfold linkSlot at link
  split at link
  · exact ⟨_, (Option.some.inj link).symm⟩
  · cases link

/-- R23, R24: RESTRICT_POST leaves the slots of the internal owners. -/
theorem State.restrictPost_internalSlot {slot : Slot} (internal : ∀ i, slot ≠ .link i) (p : RestrictPost) :
    (s.restrictPost p).1.drc.table.get slot = s.drc.table.get slot := by
  cases link : linkSlot p.linkId with
  | none => rw [State.restrictPost_badLink link]
  | some own =>
    obtain ⟨i, rfl⟩ := linkSlot_isLink link
    simp only [State.restrictPost, link, State.reportEntry_posted]
    (repeat' split)
    any_goals rfl
    exact Table.get_set_other _ _ slot _ (internal i)

/-- R25: so does RESTRICT_LIFT. -/
theorem State.restrictLift_internalSlot {slot : Slot} (internal : ∀ i, slot ≠ .link i) (owner linkId : Byte) :
    (s.restrictLift owner linkId).1.drc.table.get slot = s.drc.table.get slot := by
  rcases Nat.lt_trichotomy owner.toNat 3 with below | code | unnamed
  · rw [State.restrictLift_internal linkId (Nat.le_of_lt_succ below)]
  · cases link : linkSlot linkId with
    | none => rw [State.restrictLift_badLink code link]
    | some own =>
      obtain ⟨i, rfl⟩ := linkSlot_isLink link
      cases held : s.drc.table.get (.link i) with
      | none => rw [State.restrictLift_empty code link held]
      | some e =>
        rw [State.restrictLift_held code link held]
        exact Table.get_set_other _ _ slot _ (internal i)
  · rw [State.restrictLift_unnamed linkId unnamed]

@[simp] theorem State.restrictPost_doors (p : RestrictPost) :
    (s.restrictPost p).1.drc.table.doors = s.drc.table.doors :=
  s.restrictPost_internalSlot (slot := .doors) nofun p

@[simp] theorem State.restrictLift_doors (owner linkId : Byte) :
    (s.restrictLift owner linkId).1.drc.table.doors = s.drc.table.doors :=
  s.restrictLift_internalSlot (slot := .doors) nofun owner linkId

@[simp] theorem State.configureDrc_doors (first : Bool) :
    (s.configureDrc first).drc.table.doors = s.drc.table.doors := by
  have reposted : s.entryReposted.drc.table.doors = s.drc.table.doors := by
    unfold State.entryReposted
    split
    · exact State.post_reverse_doors ..
    · rfl
  rw [State.configureDrc_eq]
  split <;> exact reposted

@[simp] theorem State.restartCommand_doors : s.restartCommand.1.drc.table.doors = s.drc.table.doors := by
  unfold State.restartCommand
  split
  · change s.dropLinkEntries.restartRoute.drc.table.doors = _
    simp only [State.restartRoute]
    split
    · exact State.lift_route_doors _
    · rfl
  · rfl

end Sys2Proof.Machine
end

section
/-! SUPPORT. What the door state machine writes of the Stop and Door Unit (R143 to R151). -/

namespace Sys2Proof.Machine

variable (s : State)

@[simp] theorem State.setDoor_sdu (d : DoorState) : (s.setDoor d).sdu = { s.sdu with door := d } := rfl

/-- R151: what entering BYPASSED writes. -/
@[simp] theorem State.enterBypassed_sdu : s.enterBypassed.sdu = { s.sdu.shut with door := .bypassed } := by
  simp [State.enterBypassed]

@[simp] theorem State.returnToNone_sdu : s.returnToNone.sdu = { s.sdu with door := .none } := by
  simp [State.returnToNone]

/-- R148: at the close timeout the timer alone stops. -/
theorem State.closeTimeout_sdu : s.closeTimeout.sdu = { s.sdu with closeTimer := s.closeTimeout.sdu.closeTimer } := by
  unfold State.closeTimeout
  split <;> rfl

/-- R146, R148: a request for the side of a session opens at most an output. -/
theorem State.sessionRequest_sdu (door : Fin 8) (button : Fin 16) : (s.sessionRequest door button).sdu =
    { s.sdu with outputs := (s.sessionRequest door button).sdu.outputs } := by
  unfold State.sessionRequest
  (repeat' split) <;> rfl

/-- R135: a request that the stop list takes writes the list and its lamps. -/
theorem State.offerStop_sdu (door : Fin 8) (button : Fin 16) (kind : StopKind) :
    (s.offerStop door button kind).sdu =
      if mergeStop door kind s.sdu.stops = s.sdu.stops then s.sdu
      else s.sdu.setStops (mergeStop door kind s.sdu.stops) := by
  have relisted : (s.setStops (mergeStop door kind s.sdu.stops)).sdu =
    s.sdu.setStops (mergeStop door kind s.sdu.stops) := rfl
  unfold State.offerStop
  dsimp only
  split
  · rfl
  · split <;> simp [relisted]

@[simp] theorem State.offerStop_door (door : Fin 8) (button : Fin 16) (kind : StopKind) :
    (s.offerStop door button kind).sdu.door = s.sdu.door := by
  rw [State.offerStop_sdu]
  split <;> rfl

end Sys2Proof.Machine
end

section
/-! SUPPORT. The stop list after a request (R134, R135). -/

namespace Sys2Proof.Machine

/-- R134: a stop-list entry holds a kind, and a count of 1..255. -/
def StopEntry.Sound (e : StopEntry) : Prop :=
  (e.alight = true ∨ e.board = true ∨ e.access = true) ∧ 1 ≤ e.count ∧ e.count ≤ 255

/-- R134: a stop list holds sound entries, at most one per door. -/
structure StopsListed (l : List StopEntry) : Prop where
  doors   : (l.map (·.door)).Nodup
  entries : ∀ e ∈ l, e.Sound

theorem StopEntry.merge_door (k : StopKind) (e : StopEntry) : (e.merge k).door = e.door := by cases k <;> rfl

theorem newStop_door (d : Fin 8) (k : StopKind) : (newStop d k).door = d := by cases k <;> rfl

theorem newStop_sound (d : Fin 8) (k : StopKind) : (newStop d k).Sound := by
  cases k <;> simp [StopEntry.Sound, newStop, StopEntry.add]

theorem StopEntry.merge_sound (k : StopKind) (e : StopEntry) : (e.merge k).Sound := by
  refine ⟨?_, ?_⟩
  · cases k <;> simp [StopEntry.merge, StopEntry.add]
  · change 1 ≤ min 255 (e.count + 1) ∧ min 255 (e.count + 1) ≤ 255
    omega

theorem listed_iff {d : Fin 8} {l : List StopEntry} : listed d l = true ↔ ∃ e ∈ l, e.door = d := by
  simp [listed]

theorem mergeStop_listed {d : Fin 8} {l : List StopEntry} (h : ∃ e ∈ l, e.door = d) (k : StopKind) :
    mergeStop d k l = l.map fun e => if e.door = d then e.merge k else e := if_pos (listed_iff.mpr h)

theorem mergeStop_unlisted {d : Fin 8} {l : List StopEntry} (h : ¬∃ e ∈ l, e.door = d) (k : StopKind) :
    mergeStop d k l = l ++ [newStop d k] := if_neg (mt listed_iff.mp h)

/-- R135: the doors of the list after a request. -/
theorem mergeStop_doors (d : Fin 8) (k : StopKind) (l : List StopEntry) : (mergeStop d k l).map (·.door) =
    if ∃ e ∈ l, e.door = d then l.map (·.door) else l.map (·.door) ++ [d] := by
  split
  · next h =>
    rw [mergeStop_listed h, List.map_map]
    refine List.map_congr_left fun e _ => ?_
    simp only [Function.comp_apply]
    split
    · exact e.merge_door k
    · rfl
  · next h => rw [mergeStop_unlisted h, List.map_append, List.map_singleton, newStop_door]

/-- R135: a request lists no door but its own. -/
theorem door_of_mem_mergeStop {d : Fin 8} {k : StopKind} {l : List StopEntry} {e : StopEntry}
    (h : e ∈ mergeStop d k l) : e.door = d ∨ ∃ e₀ ∈ l, e₀.door = e.door := by
  have door : e.door ∈ (mergeStop d k l).map (·.door) := List.mem_map_of_mem h
  rw [mergeStop_doors] at door
  split at door
  · exact .inr (List.mem_map.mp door)
  · rcases List.mem_append.mp door with old | new
    · exact .inr (List.mem_map.mp old)
    · exact .inl (List.mem_singleton.mp new)

theorem StopsListed.merge {l : List StopEntry} (h : StopsListed l) (d : Fin 8) (k : StopKind) :
    StopsListed (mergeStop d k l) := by
  constructor
  · rw [mergeStop_doors]
    split
    · exact h.doors
    · next new =>
      refine List.nodup_append.mpr ⟨h.doors, List.nodup_singleton d, ?_⟩
      rintro _ old _ own rfl
      obtain ⟨e, mem, door⟩ := List.mem_map.mp old
      exact new ⟨e, mem, door.trans (List.mem_singleton.mp own)⟩
  · by_cases old : ∃ e ∈ l, e.door = d
    · rw [mergeStop_listed old]
      intro e mem
      obtain ⟨e₀, mem₀, rfl⟩ := List.mem_map.mp mem
      split
      · exact e₀.merge_sound k
      · exact h.entries e₀ mem₀
    · rw [mergeStop_unlisted old]
      exact List.forall_mem_append.mpr ⟨h.entries, by simpa using newStop_sound d k⟩

theorem StopsListed.filter {l : List StopEntry} (h : StopsListed l) (p : StopEntry → Bool) :
    StopsListed (l.filter p) where
  doors := h.doors.sublist (List.filter_sublist.map _)
  entries e mem := h.entries e (List.mem_of_mem_filter mem)

theorem StopsListed.nil : StopsListed [] := ⟨List.nodup_nil, nofun⟩

end Sys2Proof.Machine
end

section
/-! SUPPORT. What the events and the commands do to the doors and to the stop list, said once: a property of the doors
is kept by every command when the transitions of the door state machine, the writers of the stop list and a record taken
in NONE keep it. -/

namespace Sys2Proof.Machine

/-- The stop list of a unit, with its lamps. -/
def Sdu.listing (d : Sdu) : List StopEntry × Bool × Bool := (d.stops, d.stopLamp, d.rampLamp)

/-- The two states agree in the DOORS entry, the door state, the stop list with its lamps, and the record. -/
structure SameDoors (s s' : State) : Prop where
  entry   : s'.drc.table.doors = s.drc.table.doors
  door    : s'.sdu.door = s.sdu.door
  listing : s'.sdu.listing = s.sdu.listing
  params  : s'.params = s.params

/-- A property of the doors and of the stop list, with the operations that must keep it: those that write what it
reads. -/
structure DoorInvariant (P : State → Prop) : Prop where
  congr      : ∀ {s s'}, P s → SameDoors s s' → P s'
  findUnsafe : ∀ {s} doors, P s → P ((s.postHold.latchUnlocked doors).setDoor .unsafe_)
  bypass     : ∀ {s}, P s → P s.enterBypassed
  leave      : ∀ {s}, P s → P s.returnToNone
  release    : ∀ {s} side, P s → P (s.release side)
  session    : ∀ {s} side d, s.sdu.door.session = some side → d.session = some side → P s → P (s.setDoor d)
  offer      : ∀ {s} door button kind, s.sdu.door.session ≠ some (doorSide s.params door) → P s →
    P (s.offerStop door button kind)
  clear      : ∀ {s} target, P s → P (s.stopClear target).1
  record     : ∀ {s} p, s.sdu.door = .none → P s → P { s with params := p, configured := true }

/-- R184: an accepted CONFIGURE finds the door state NONE. -/
theorem State.configure_cases_none (s : State) (p : Params) :
    (s.configure p).1 = s ∨ s.sdu.door = .none ∧ (s.configure p).1 = s.takeConfigure p := by
  unfold State.configure
  split
  · exact .inl rfl
  · next accepted =>
    refine .inr ⟨?_, rfl⟩
    by_contra door
    unfold refuseConfigure at accepted
    split at accepted
    · cases accepted
    · rw [if_pos door] at accepted
      cases accepted

/-- R133: the re-mapping of the buttons reaches neither the doors nor the stop list. -/
theorem State.remapButtons_sameDoors (s : State) : SameDoors s s.remapButtons := by
  obtain ⟨sdu, -⟩ := s.remapButtons_spec
  have drc : s.remapButtons.drc = s.drc := by simp
  have params : s.remapButtons.params = s.params := by simp
  generalize s.remapButtons = m at *
  exact ⟨by rw [drc], by rw [sdu], by rw [sdu]; rfl, params⟩

namespace DoorInvariant

variable {P : State → Prop} (inv : DoorInvariant P) {s s' : State}
include inv

/-- An operation that reaches neither the doors nor the record. -/
theorem of_entry (h : P s) (entry : s'.drc.table.doors = s.drc.table.doors) (sdu : s'.sdu = s.sdu)
    (params : s'.params = s.params) : P s' := inv.congr h ⟨entry, by rw [sdu], by rw [sdu], params⟩

/-- Nor the restriction table. -/
theorem of_speeds (h : P s) (speeds : s'.drc.speeds = s.drc.speeds) (sdu : s'.sdu = s.sdu)
    (params : s'.params = s.params) : P s' := inv.of_entry h (congrArg (·.table.doors) speeds :) sdu params

/-- The state is written out: nothing that is read is among its changes. -/
theorem of_eq {m : State} (h : P s) (eq : s' = m) (same : SameDoors s m) : P s' := eq ▸ inv.congr h same

/-! ## The events of the doors (R144 to R151) -/

theorem enterUnsafe (h : P s) (doors : List (Fin 8)) : P (s.enterUnsafe doors) := by
  have entered := inv.findUnsafe doors h
  unfold State.enterUnsafe
  dsimp only
  split
  · exact inv.bypass entered
  · exact entered

theorem completeClosing (h : P s) : P s.completeClosing := by
  have stopped : P { s with sdu := { s.sdu with closeTimer := none } } := inv.congr h ⟨rfl, rfl, rfl, rfl⟩
  have closed := inv.leave stopped
  have rung : ∀ m : State, P m → P m.requestDepartureBell := fun m hm =>
    inv.of_entry hm (by simp) (by simp) (by simp)
  unfold State.completeClosing
  dsimp only
  split
  · exact closed
  · exact rung _ closed

theorem leaveBypassed (h : P s) : P s.leaveBypassed := by
  have told : P (s.clearFault .doorBypass 0) := inv.congr h ⟨rfl, rfl, rfl, rfl⟩
  unfold State.leaveBypassed
  dsimp only
  split
  · exact inv.leave told
  · exact inv.findUnsafe _ told

theorem releaseRequest (h : P s) (side : Side) : P (s.releaseRequest side) := by
  have refused : P s.refuseRelease := inv.of_entry h (by simp) (by simp) (by simp)
  unfold State.releaseRequest
  split
  · split
    · exact inv.release side h
    · exact refused
  · split
    · exact h
    · exact refused
  · next cur closing =>
    split
    · next same =>
      have opened : P { s with sdu := { s.sdu with
          closeTimer := none, outputs := releaseOutputs s.params side [] } } := inv.congr h ⟨rfl, rfl, rfl, rfl⟩
      exact inv.session side _ (by simp [closing, same, DoorState.session]) rfl opened
    · exact refused
  · exact refused
  · exact refused

theorem closeRequest (h : P s) : P s.closeRequest := by
  unfold State.closeRequest
  split
  · next side released =>
    have closed : P { s with sdu := { s.sdu with outputs := allClosed, closeTimer := some s.now } } :=
      inv.congr h ⟨rfl, rfl, rfl, rfl⟩
    have closing := inv.session side (.closing side) (by simp [released, DoorState.session]) rfl closed
    dsimp only
    split
    · exact inv.completeClosing closing
    · exact closing
  · exact h

theorem doorUnlocks (h : P s) (door : Fin 8) : P (s.doorUnlocks door) := by
  have latched : P (s.latchUnlocked [door]) := inv.congr h ⟨rfl, rfl, rfl, rfl⟩
  unfold State.doorUnlocks
  split
  · exact inv.enterUnsafe h _
  · split
    · exact h
    · exact latched
  · split
    · exact h
    · exact latched
  · exact latched
  · exact latched

theorem doorLocks (h : P s) (door : Fin 8) : P (s.doorLocks door) := by
  have told : P (s.clearFault .doorUnlocked door.val) := inv.congr h ⟨rfl, rfl, rfl, rfl⟩
  unfold State.doorLocks
  dsimp only
  split
  · split
    · exact inv.completeClosing told
    · exact told
  · split
    · exact inv.leave told
    · exact told
  all_goals exact told

theorem doorInput (h : P s) (door : Fin 8) (locked : Bool) : P (s.doorInput door locked) := by
  have taken : P { s with sdu := { s.sdu with locked := s.sdu.locked.set door locked } } :=
    inv.congr h ⟨rfl, rfl, rfl, rfl⟩
  unfold State.doorInput
  dsimp only
  split
  · exact h
  · split
    · exact taken
    · split
      · exact inv.doorLocks taken door
      · exact inv.doorUnlocks taken door

theorem bypassOn (h : P s) : P s.bypassOn := by
  have turned : P { s with sdu := { s.sdu with bypass := true } } := inv.congr h ⟨rfl, rfl, rfl, rfl⟩
  unfold State.bypassOn
  dsimp only
  split
  · exact h
  · split
    · exact turned
    · split
      · exact inv.bypass turned
      · exact inv.bypass turned
      · exact inv.bypass turned
      · exact turned
      · exact turned

theorem bypassOff (h : P s) : P s.bypassOff := by
  have turned : P { s with sdu := { s.sdu with bypass := false } } := inv.congr h ⟨rfl, rfl, rfl, rfl⟩
  unfold State.bypassOff
  dsimp only
  split
  · split
    · exact inv.leaveBypassed turned
    · exact turned
  · exact h

theorem arm (h : P s) (b : DoorButton) (v : Bool) : P { s with sdu := s.sdu.arm b v } :=
  inv.congr h ⟨rfl, by cases b <;> rfl, by cases b <;> rfl, rfl⟩

theorem doorPress (h : P s) (b : DoorButton) {act : State → State} (acts : ∀ m : State, P m → P (act m)) :
    P (s.doorPress b act) := by
  have disarmed := inv.arm h b false
  rcases s.doorPress_cases b act with e | e | e <;> rw [e]
  · exact h
  · exact disarmed
  · exact acts _ disarmed

/-! ## The button conditioners (R128 to R131) -/

theorem setButton (h : P s) (i : Fin 16) (c : Conditioner) : P (s.setButton i c) :=
  inv.congr h ⟨rfl, rfl, rfl, rfl⟩

theorem takePress (h : P s) (i : Fin 16) : P (s.takePress i) := by
  unfold State.takePress
  split
  · split
    · next door kind _ =>
      unfold State.stopRequest
      split
      · have sdu := s.sessionRequest_sdu door i
        exact inv.congr h ⟨by simp, by rw [sdu], by rw [sdu]; rfl, by simp⟩
      · next apart => exact inv.offer door i kind apart h
    · exact h
  · exact h

theorem settleButton (h : P s) (i : Fin 16) : P (s.settleButton i) := by
  unfold State.settleButton
  dsimp only
  split
  · split
    · exact inv.takePress (inv.setButton h i _) i
    · exact inv.setButton h i _
  · exact h

theorem holdButton (h : P s) (i : Fin 16) : P (s.holdButton i) := by
  unfold State.holdButton
  dsimp only
  split
  · exact inv.congr (inv.setButton h i _) ⟨rfl, rfl, rfl, rfl⟩
  · exact h

theorem recoverButton (h : P s) (i : Fin 16) : P (s.recoverButton i) := by
  unfold State.recoverButton
  dsimp only
  split
  · exact inv.congr (inv.setButton h i _) ⟨rfl, rfl, rfl, rfl⟩
  · exact h

/-! ## Every command -/

/-- No event of a block breaks it. -/
theorem event (e : Event s s') (h : P s) : P s' := by
  cases e with
  | nothing => exact h
  | releasePress side => exact inv.doorPress h _ fun _ hm => inv.releaseRequest hm side
  | closePress => exact inv.doorPress h _ fun _ hm => inv.closeRequest hm
  | doorInput door locked => exact inv.doorInput h door locked
  | bypassOn => exact inv.bypassOn h
  | bypassOff => exact inv.bypassOff h
  | buttonInactive b => exact inv.arm h b true
  | closeTimeout =>
    have sdu := s.closeTimeout_sdu
    exact inv.congr h ⟨by simp, by rw [sdu], by rw [sdu]; rfl, by simp⟩
  | buttonInput i raw => exact inv.setButton h i _
  | settleButton i => exact inv.settleButton h i
  | holdButton i => exact inv.holdButton h i
  | recoverButton i => exact inv.recoverButton h i
  | handleRise | detentOpen | selectorRelease => exact inv.congr h ⟨rfl, rfl, rfl, rfl⟩
  | controlInterval => exact inv.of_entry h (by simp) (by simp) (by simp)
  | reverser r => exact inv.of_entry h (by simp) (by simp) (by simp)
  | selectorPress | approachInterval | loopPage | contactLost => exact inv.of_entry h (by simp) (by simp) (by simp)
  | deadman pressed => exact inv.of_speeds h (by simp; rfl) (by simp) (by simp)
  | vigilanceWarning => exact inv.of_speeds h (by simp; rfl) (by simp) (by simp)
  | _ => exact inv.of_speeds h (by simp) (by simp) (by simp)

/-- R150, R184 to R186: CONFIGURE comes in the door state NONE alone, and its examination of the doors enters UNSAFE or
changes nothing. -/
theorem takeConfigure (h : P s) (calm : s.sdu.door = .none) (p : Params) : P (s.takeConfigure p) := by
  have drive : ∀ (m : State) (first : Bool), P m → P (m.configureDrc first) := fun m first hm =>
    inv.of_entry hm (by simp) (by simp) (by simp)
  have doors : ∀ (m : State) (first : Bool), P m → P (m.configureSdu first) := fun m first hm => by
    have remapped := inv.congr hm m.remapButtons_sameDoors
    cases first with
    | true =>
      rw [State.configureSdu_first]
      unfold State.examineDoors
      split
      · exact remapped
      · exact inv.enterUnsafe remapped _
    | false =>
      rw [State.configureSdu_later]
      exact remapped
  have taken := doors _ (!s.configured) (drive _ (!s.configured) (inv.record (storedParams p) calm h))
  exact inv.of_speeds taken (State.settle_speeds _) (by simp [State.takeConfigure]) (by simp [State.takeConfigure])

/-- No command of the cab link breaks it. -/
theorem runCommand (c : LinkCommand) (h : P s) : P (s.runCommand c).1 := by
  cases c with
  | configure p =>
    change P (s.configure p).1
    rcases s.configure_cases_none p with e | ⟨calm, e⟩ <;> rw [e]
    · exact h
    · exact inv.takeConfigure h calm p
  | stopClear target => exact inv.clear target h
  | junctionLoad load => exact inv.of_eq h (s.junctionLoad_frame load) ⟨rfl, rfl, rfl, rfl⟩
  | junctionDrop id => exact inv.of_eq h (s.junctionDrop_frame id) ⟨rfl, rfl, rfl, rfl⟩
  | routeAppend id sel => exact inv.of_eq h (s.routeAppend_frame id sel) ⟨rfl, rfl, rfl, rfl⟩
  | routeClear => exact inv.of_eq h s.routeClear_frame ⟨rfl, rfl, rfl, rfl⟩
  | patternLoad load => exact inv.of_eq h (s.patternLoad_frame load) ⟨rfl, rfl, rfl, rfl⟩
  | buttonIsolate i a => exact inv.of_eq h (s.buttonIsolate_frame i a) ⟨rfl, rfl, rfl, rfl⟩
  | reportRate r => exact inv.of_eq h (s.reportRate_frame r) ⟨rfl, rfl, rfl, rfl⟩
  | faultsRead n => exact inv.of_eq h (s.faultsRead_frame n) ⟨rfl, rfl, rfl, rfl⟩
  | restart | restrictPost | restrictLift | soundStart | soundStop =>
    exact inv.of_entry h (by simp [State.runCommand]) (by simp [State.runCommand]) (by simp [State.runCommand])
  | _ => exact h

theorem kept : Kept P where
  time _ _ h := inv.congr h ⟨rfl, rfl, rfl, rfl⟩
  clp _ _ h := inv.congr h ⟨rfl, rfl, rfl, rfl⟩
  event _ _ := inv.event
  run c _ := inv.runCommand c

end DoorInvariant
end Sys2Proof.Machine
end

section
/-! O6: the DOORS entry (R143). -/

namespace Sys2Proof.Machine

variable {s s' : State}

/-- R21, R143: an entry in the DOORS slot is as an internal owner posts one. -/
def DoorsPosted (s : State) : Prop :=
  ∀ e, s.drc.table.doors = some e → e.phase = .active ∧ e.start = none ∧ e.stop = none

theorem DoorsPosted.postHold_doors (posted : DoorsPosted s) :
    s.postHold.drc.table.doors = some (internalEntry .hold 0 reasonDoorHold) :=
  congrArg Table.doors (State.post_table (slot := .doors) posted)

theorem DoorsPosted.postBypass_doors (posted : DoorsPosted s) :
    s.postBypass.drc.table.doors = some (internalEntry .ceiling s.params.bypassCeil.toNat reasonBypass) :=
  congrArg Table.doors (State.post_table (slot := .doors) posted)

/-- R143: a session holds the tram, in RELEASED as in CLOSING. -/
theorem doorsEntry_session (p : Params) {d : DoorState} {side : Side} (session : d.session = some side) :
    doorsEntry p d = some (internalEntry .hold 0 reasonDoorHold) := by
  cases d with
  | released _ | closing _ => rfl
  | none | unsafe_ | bypassed => cases session

namespace DoorsHeld

theorem posted (h : DoorsHeld s) : DoorsPosted s := by
  intro e held
  have entry : doorsEntry s.params s.sdu.door = some e := h.symm.trans held
  cases door : s.sdu.door <;> rw [door] at entry <;> cases entry <;> exact ⟨rfl, rfl, rfl⟩

/-- R143: the door state moves once its entry stands. -/
theorem setDoor {d : DoorState} (entry : s.drc.table.doors = doorsEntry s.params d) : DoorsHeld (s.setDoor d) := entry

theorem of_entry (h : DoorsHeld s) (entry : s'.drc.table.doors = s.drc.table.doors) (door : s'.sdu.door = s.sdu.door)
    (params : s'.params = s.params) : DoorsHeld s' := by
  unfold DoorsHeld
  rw [entry, door, params]
  exact h

theorem enterBypassed (h : DoorsHeld s) : DoorsHeld s.enterBypassed := by
  refine setDoor ?_
  simp only [State.latchUnlocked_frame, State.latch_drc, State.latch_params, State.postBypass_frame]
  exact DoorsPosted.postBypass_doors (s := { s with sdu := s.sdu.shut }) h.posted

theorem findUnsafe (h : DoorsHeld s) (doors : List (Fin 8)) :
    DoorsHeld ((s.postHold.latchUnlocked doors).setDoor .unsafe_) := by
  refine setDoor ?_
  simp only [State.latchUnlocked_frame]
  exact h.posted.postHold_doors

theorem returnToNone (s : State) : DoorsHeld s.returnToNone := by
  refine setDoor ?_
  rw [State.lift_table]
  rfl

theorem release (h : DoorsHeld s) (side : Side) : DoorsHeld (s.release side) := by
  refine setDoor ?_
  simp only [State.releaseStops_frame]
  exact h.posted.postHold_doors

theorem stopClear (h : DoorsHeld s) (target : Byte) : DoorsHeld (s.stopClear target).1 := by
  rw [State.stopClear_frame]
  exact h

theorem doorInvariant : DoorInvariant DoorsHeld where
  congr h same := h.of_entry same.entry same.door same.params
  findUnsafe doors h := h.findUnsafe doors
  bypass := enterBypassed
  leave _ := returnToNone _
  release side h := h.release side
  session _ _ before after h :=
    setDoor (h.trans ((doorsEntry_session _ before).trans (doorsEntry_session _ after).symm))
  offer _ _ _ _ h := h.of_entry (by simp) (by simp) (by simp)
  clear target h := h.stopClear target
  record _ calm h := h.trans (by rw [calm]; rfl)

/-- R143, R153: after POWER_ON the door state is NONE, and the DOORS slot empty. -/
theorem poweredOn (now : Nat) (q : List Instr) (p : PowerInputs) : DoorsHeld (State.poweredOn now q p) := by
  have doors : ∀ r : Reverser, (Drc.withReverser 0 r).table.doors = none := fun r => by cases r <;> rfl
  exact doors (reverserOf p.forward p.reverse)

end DoorsHeld
end Sys2Proof.Machine
end

section
/-! O6: the stop list with its lamps and its sides (R134, R138), and the obligation. -/

namespace Sys2Proof.Machine

variable {s s' : State}

/-- R145: what the entries of a released side leave. -/
theorem State.releaseStops_sdu (s : State) (side : Side) : (s.releaseStops side).sdu =
    if ∀ e ∈ s.sdu.stops, doorSide s.params e.door ≠ side then s.sdu
    else s.sdu.setStops (s.sdu.stops.filter fun e => doorSide s.params e.door ≠ side) := by
  have gone : (s.sdu.stops.filter fun e => doorSide s.params e.door = side) = [] ↔
      ∀ e ∈ s.sdu.stops, doorSide s.params e.door ≠ side := by simp [List.filter_eq_nil_iff]
  unfold State.releaseStops
  dsimp only
  simp only [gone]
  split <;> rfl

/-- R136: the list that STOP_CLEAR leaves is a part of the list, with the lamps following it where it is written. -/
theorem State.stopClear_sdu (s : State) (target : Byte) : (s.stopClear target).1.sdu = s.sdu ∨
    ∃ p : StopEntry → Bool, (s.stopClear target).1.sdu = s.sdu.setStops (s.sdu.stops.filter p) := by
  unfold State.stopClear
  split
  · exact .inl rfl
  · split
    · exact .inr ⟨_, rfl⟩
    · exact .inl rfl
  · split
    · exact .inl rfl
    · exact .inr ⟨fun _ => false, by rw [List.filter_false]; rfl⟩

namespace StopsSound

theorem listed (h : StopsSound s) : StopsListed s.sdu.stops :=
  ⟨h.doors, fun e mem => ⟨h.kinds e mem, h.counts e mem⟩⟩

/-- R138: a list that is sound, with lamps that follow it, and no entry of the side of a session. -/
theorem of_listed (list : StopsListed s.sdu.stops) (lamps : s.sdu.setStops s.sdu.stops = s.sdu)
    (sides : ∀ e ∈ s.sdu.stops, s.sdu.door.session ≠ some (doorSide s.params e.door)) : StopsSound s where
  doors := list.doors
  sides := sides
  kinds e mem := (list.entries e mem).1
  counts e mem := (list.entries e mem).2
  stopLamp := (congrArg Sdu.stopLamp lamps).symm
  rampLamp := (congrArg Sdu.rampLamp lamps).symm

/-- R138: an operation that writes the list, and the lamps by it. -/
theorem relisted {l : List StopEntry} {d : Sdu} (list : StopsListed l) (sdu : s.sdu = d.setStops l)
    (sides : ∀ e ∈ l, s.sdu.door.session ≠ some (doorSide s.params e.door)) : StopsSound s := by
  have stops : s.sdu.stops = l := by rw [sdu]; rfl
  refine of_listed (stops ▸ list) ?_ (stops ▸ sides)
  rw [stops, sdu]
  rfl

/-- An operation that leaves the list and its lamps. -/
theorem unlisted (h : StopsSound s) (listing : s'.sdu.listing = s.sdu.listing)
    (sides : ∀ e ∈ s.sdu.stops, s'.sdu.door.session ≠ some (doorSide s'.params e.door)) : StopsSound s' := by
  simp only [Sdu.listing, Prod.mk.injEq] at listing
  obtain ⟨stops, stopLamp, rampLamp⟩ := listing
  exact ⟨stops ▸ h.doors, stops ▸ sides, stops ▸ h.kinds, stops ▸ h.counts, by rw [stops, stopLamp, h.stopLamp],
    by rw [stops, rampLamp, h.rampLamp]⟩

/-- An operation after which no session stands. -/
theorem calm (h : StopsSound s) (listing : s'.sdu.listing = s.sdu.listing) (calm : s'.sdu.door.session = none) :
    StopsSound s' := h.unlisted listing fun _ _ => by rw [calm]; nofun

theorem congr (h : StopsSound s) (same : SameDoors s s') : StopsSound s' := by
  obtain ⟨-, door, listing, params⟩ := same
  refine h.unlisted listing ?_
  rw [door, params]
  exact h.sides

/-- R145: an accepted release takes the entries of its side from the list. -/
theorem release (h : StopsSound s) (side : Side) : StopsSound (s.release side) := by
  unfold State.release
  dsimp only
  have held : StopsSound { s.postHold with sdu := { s.postHold.sdu with
      outputs := releaseOutputs s.postHold.params side s.postHold.sdu.stops } } :=
    h.unlisted (by simp; rfl) (by simpa using h.sides)
  generalize ({ s.postHold with sdu := _ } : State) = m at held ⊢
  have sdu := m.releaseStops_sdu side
  have params : ((m.releaseStops side).setDoor (.released side)).params = m.params := by simp
  have session : ((m.releaseStops side).setDoor (.released side)).sdu.door.session = some side := rfl
  split at sdu
  · next none =>
    refine held.unlisted (by rw [State.setDoor_sdu, sdu]; rfl) fun e mem => ?_
    rw [session, params]
    exact fun same => none e mem (Option.some.inj same).symm
  · refine relisted (d := { m.sdu with door := .released side }) (held.listed.filter _)
      (by rw [State.setDoor_sdu, sdu]; rfl) fun e mem => ?_
    rw [session, params]
    have apart := (List.mem_filter.mp mem).2
    exact fun same => of_decide_eq_true apart (Option.some.inj same).symm

theorem offerStop (h : StopsSound s) {door : Fin 8} (apart : s.sdu.door.session ≠ some (doorSide s.params door))
    (button : Fin 16) (kind : StopKind) : StopsSound (s.offerStop door button kind) := by
  have sdu := s.offerStop_sdu door button kind
  split at sdu
  · exact h.unlisted (by rw [sdu]) (by simpa using h.sides)
  · refine relisted (h.listed.merge door kind) sdu fun e mem => ?_
    simp only [State.offerStop_door, State.offerStop_frame]
    rcases door_of_mem_mergeStop mem with own | ⟨e₀, mem₀, old⟩
    · rw [own]; exact apart
    · rw [← old]; exact h.sides e₀ mem₀

theorem stopClear (h : StopsSound s) (target : Byte) : StopsSound (s.stopClear target).1 := by
  have frame := s.stopClear_frame target
  have door : (s.stopClear target).1.sdu.door = s.sdu.door := by rw [frame]
  have params : (s.stopClear target).1.params = s.params := by rw [frame]
  obtain sdu | ⟨p, sdu⟩ := s.stopClear_sdu target
  · exact h.unlisted (by rw [sdu]) (by rw [door, params]; exact h.sides)
  · refine relisted (h.listed.filter p) sdu fun e mem => ?_
    rw [door, params]
    exact h.sides e (List.mem_of_mem_filter mem)

theorem doorInvariant : DoorInvariant StopsSound where
  congr := congr
  findUnsafe _ h := h.calm (by simp; rfl) rfl
  bypass h := h.calm (by simp; rfl) rfl
  leave h := h.calm (by simp; rfl) rfl
  release side h := h.release side
  session _ _ before after h := h.unlisted rfl fun e mem => by
    rw [before.symm] at after
    exact after ▸ h.sides e mem
  offer _ button kind apart h := h.offerStop apart button kind
  clear target h := h.stopClear target
  record _ calm h := h.calm rfl (by rw [calm]; rfl)

/-- R138, R141: after POWER_ON the list is empty, and the lamps are off. -/
theorem poweredOn (now : Nat) (q : List Instr) (p : PowerInputs) : StopsSound (State.poweredOn now q p) :=
  of_listed .nil rfl nofun

end StopsSound

/-- Settles O6: every command but POWER_ON keeps the DOORS entry and the stop list sound, as `DoorInvariant` has it, and
after POWER_ON they are sound anyway. -/
theorem doorsAndStopsKept : Obligations.DoorsAndStopsKept :=
  ⟨fun _ _ => DoorsHeld.doorInvariant.kept.step (fun _ _ h => h) .poweredOn,
    fun _ _ => StopsSound.doorInvariant.kept.step (fun _ _ h => StopsSound.congr h ⟨rfl, rfl, rfl, rfl⟩) .poweredOn⟩

end Sys2Proof.Machine
end

section
/-! SUPPORT. What the expiry of a button's timer makes of its conditioner (R128 to R131), and when a press is a stop
request (R129). -/

namespace Sys2Proof.Machine

variable {p : Params} {i : Fin 16} {now : Nat} {c : Conditioner}

/-! ## The service state (R129, R130) -/

theorem service_inService : service p i c = .inService ↔
    c.isolated = false ∧ (mapping p i).isSome = true ∧ c.stuck = false := by
  unfold service
  cases c.isolated <;> cases mapping p i <;> cases c.stuck <;> simp

theorem service_outOfService : service p i c ≠ .inService ↔
    c.isolated = true ∨ (mapping p i).isSome = false ∨ c.stuck = true := by
  rw [ne_eq, service_inService]
  cases c.isolated <;> cases (mapping p i).isSome <;> cases c.stuck <;> simp

/-- R130: the hold timer runs while the level of a button in service is ACTIVE. -/
theorem holdRuns_iff : holdRuns p i c = true ↔ c.level = true ∧ service p i c = .inService := by
  rw [service_inService]
  simp only [holdRuns, Bool.and_eq_true, Bool.not_eq_true']
  tauto

/-! ## The conditioner (R128 to R132) -/

theorem Conditioner.input_same (now : Nat) : c.input now c.raw = c := if_pos rfl

theorem Conditioner.input_changed {raw : Bool} (changed : raw ≠ c.raw) :
    c.input now raw = { c with raw := raw, settle := if raw = c.level then none else some now } :=
  if_neg changed.symm

/-- R130, R131: the timers of a conditioner whose hold timer does not run. -/
theorem Conditioner.settleTimers_still (still : holdRuns p i c ≠ true) : c.settleTimers p i now =
    { c with hold := none, recovery := if c.stuck ∧ !c.level then some (c.recovery.getD now) else none } := by
  unfold Conditioner.settleTimers
  rw [if_neg still]

/-- R131: a release stops the hold timer, and starts the recovery timer of a stuck button. -/
theorem Conditioner.settled_released (released : c.raw = false) : c.settled p i now = { c with
    level := false, settle := none, hold := none
    recovery := if c.stuck then some (c.recovery.getD now) else none } := by
  unfold Conditioner.settled
  rw [Conditioner.settleTimers_still (by simp [holdRuns, released])]
  simp [released]

/-- R130: a press of a button that is not in service runs no timer. -/
theorem Conditioner.settled_outOfService (pressed : c.raw = true) (out : service p i c ≠ .inService) :
    c.settled p i now = { c with level := true, settle := none, hold := none, recovery := none } := by
  have still : holdRuns p i { c with level := c.raw, settle := none } ≠ true := fun runs => out (holdRuns_iff.mp runs).2
  unfold Conditioner.settled
  rw [Conditioner.settleTimers_still still]
  simp [pressed]

/-- R130: a press of a button in service runs its hold timer. -/
theorem Conditioner.settled_inService (pressed : c.raw = true) (inService : service p i c = .inService) :
    c.settled p i now =
      { c with level := true, settle := none, hold := some (c.hold.getD now), recovery := none } := by
  have runs : holdRuns p i { c with level := c.raw, settle := none } = true := holdRuns_iff.mpr ⟨pressed, inService⟩
  unfold Conditioner.settled Conditioner.settleTimers
  rw [if_pos runs]
  simp [pressed]

/-- R130: a button that gets stuck. -/
theorem Conditioner.stick_pressed (level : c.level = true) :
    c.stick p i now = { c with stuck := true, hold := none, recovery := none } := by
  unfold Conditioner.stick
  rw [Conditioner.settleTimers_still (by simp [holdRuns])]
  simp [level]

/-- R131, R132: a button that is no longer stuck, while its hold timer does not run. -/
theorem Conditioner.unstick_still (still : c.level = false ∨ c.isolated = true) :
    c.unstick p i now = { c with stuck := false, hold := none, recovery := none } := by
  unfold Conditioner.unstick
  rw [Conditioner.settleTimers_still (by rcases still with h | h <;> simp [holdRuns, h])]
  simp

/-! ## A button of the state -/

variable {s : State} {st : Nat}

theorem State.setButton_same (button : s.sdu.buttons[i] = c) : s.setButton i c = s := by
  have same : s.sdu.buttons.set i c = s.sdu.buttons := button ▸ Vector.set_getElem_self ..
  simp only [State.setButton, same]

theorem State.setButton_button (i : Fin 16) (c : Conditioner) (s : State) :
    (s.setButton i c).sdu.buttons[i] = c := by simp [State.setButton]

/-- R129: a press of a button that is not in service is no stop request. -/
theorem State.takePress_outOfService (button : s.sdu.buttons[i] = c) (out : service s.params i c ≠ .inService) :
    s.takePress i = s := if_neg (by rwa [button])

/-- R129: a press of a button in service is one. -/
theorem State.takePress_inService {door : Fin 8} {kind : StopKind} (button : s.sdu.buttons[i] = c)
    (inService : service s.params i c = .inService) (mapped : mapping s.params i = some (door, kind)) :
    s.takePress i = s.stopRequest door i kind := by
  unfold State.takePress
  rw [button, if_pos inService, mapped]

theorem State.buttonInput_eq (button : s.sdu.buttons[i] = c) (raw : Bool) :
    s.buttonInput i raw = s.setButton i (c.input s.now raw) := by rw [State.buttonInput, button]

/-- R128: before 40 ms the settle timer's expiry has no effect. -/
theorem State.settleButton_early (button : s.sdu.buttons[i] = c)
    (early : ∀ st, c.settle = some st → s.now < st + 40000) : s.settleButton i = s := by
  subst button
  exact if_neg (not_expired early)

theorem State.settleButton_released (button : s.sdu.buttons[i] = c) (timer : c.settle = some st)
    (due : st + 40000 ≤ s.now) (released : c.raw = false) :
    s.settleButton i = s.setButton i (c.settled s.params i s.now) := by
  subst button
  exact (if_pos (expired_iff.mpr ⟨st, timer, due⟩)).trans (if_neg fun pressed => by
    cases released.symm.trans pressed.1)

theorem State.settleButton_pressed (button : s.sdu.buttons[i] = c) (timer : c.settle = some st)
    (due : st + 40000 ≤ s.now) (pressed : c.raw = true) (level : c.level = false) :
    s.settleButton i = (s.setButton i (c.settled s.params i s.now)).takePress i := by
  subst button
  exact (if_pos (expired_iff.mpr ⟨st, timer, due⟩)).trans (if_pos ⟨pressed, by rw [level]; rfl⟩)

/-- R130: before 20 000 ms the hold timer's expiry has no effect. -/
theorem State.holdButton_early (button : s.sdu.buttons[i] = c)
    (early : ∀ st, c.hold = some st → s.now < st + 20000000) : s.holdButton i = s := by
  subst button
  exact if_neg (not_expired early)

theorem State.holdButton_due (button : s.sdu.buttons[i] = c) (timer : c.hold = some st)
    (due : st + 20000000 ≤ s.now) :
    s.holdButton i = (s.setButton i (c.stick s.params i s.now)).latch .buttonStuck i.val := by
  subst button
  exact if_pos (expired_iff.mpr ⟨st, timer, due⟩)

/-- R131: before 2000 ms the recovery timer's expiry has no effect. -/
theorem State.recoverButton_early (button : s.sdu.buttons[i] = c)
    (early : ∀ st, c.recovery = some st → s.now < st + 2000000) : s.recoverButton i = s := by
  subst button
  exact if_neg (not_expired early)

theorem State.recoverButton_due (button : s.sdu.buttons[i] = c) (timer : c.recovery = some st)
    (due : st + 2000000 ≤ s.now) :
    s.recoverButton i = (s.setButton i (c.unstick s.params i s.now)).clearFault .buttonStuck i.val := by
  subst button
  exact if_pos (expired_iff.mpr ⟨st, timer, due⟩)

end Sys2Proof.Machine
end

section
/-! O44: the timers of a passenger button (R128, R130, R131). -/

namespace Sys2Proof.Machine

/-- A timer that runs from `st` has not reached a limit that lies ahead of it. -/
theorem running_early {timer : Option Nat} {st limit now : Nat} (running : timer = some st) (early : now < st + limit) :
    ∀ st', timer = some st' → now < st' + limit :=
  fun _ same => Option.some.inj (running.symm.trans same) ▸ early

theorem stopped_early {timer : Option Nat} {limit now : Nat} (stopped : timer = none) :
    ∀ st, timer = some st → now < st + limit :=
  fun _ running => nomatch stopped.symm.trans running

/-- Settles O44: each expiry is early or due, and a due one leaves the conditioner as the equations of `settled`,
`stick` and `unstick` write it out. -/
theorem buttonTimers : Obligations.ButtonTimers := by
  rintro t _ i raw mapped s c rfl button map
  have held : (s.atTime t).sdu.buttons[i] = c := button
  have mapped_iff : (mapping s.params i).isSome = mapped := by
    rw [Bool.eq_iff_iff, map]
    exact mappingOf_isSome_iff _
  refine ⟨?_, fun changed => ?_, fun st timer => ⟨fun early => ?_, fun due released level still => ?_,
    fun due pressed level out => ?_⟩, fun stopped => ?_, fun st timer => ⟨fun early => ?_, fun due level => ?_⟩,
    fun stopped => ?_, fun st timer => ⟨fun early => ?_, fun due level => ?_⟩, fun stopped => ?_⟩
  · rintro rfl
    refine congrArg Host.Outcome.next ((State.buttonInput_eq held _).trans ?_)
    rw [Conditioner.input_same]
    exact State.setButton_same held
  · refine congrArg Host.Outcome.next ((State.buttonInput_eq held _).trans ?_)
    rw [Conditioner.input_changed changed]
    rfl
  · exact congrArg Host.Outcome.next (State.settleButton_early held (running_early timer early))
  · refine congrArg Host.Outcome.next ((State.settleButton_released held timer due released).trans ?_)
    rw [Conditioner.settled_released released, still]
    rfl
  · have outOfService : service (s.atTime t).params i c ≠ .inService := by
      rw [service_outOfService, State.atTime_params, mapped_iff]
      tauto
    refine congrArg Host.Outcome.next ((State.settleButton_pressed held timer due pressed level).trans ?_)
    rw [Conditioner.settled_outOfService pressed outOfService]
    exact State.takePress_outOfService (State.setButton_button ..) outOfService
  · exact congrArg Host.Outcome.next (State.settleButton_early held (stopped_early stopped))
  · exact congrArg Host.Outcome.next (State.holdButton_early held (running_early timer early))
  · refine ⟨_, congrArg Host.Outcome.next (State.holdButton_due held timer due), ?_, Clp.latch_holds _ _ _ _⟩
    rw [Conditioner.stick_pressed level]
    rfl
  · exact congrArg Host.Outcome.next (State.holdButton_early held (stopped_early stopped))
  · exact congrArg Host.Outcome.next (State.recoverButton_early held (running_early timer early))
  · refine ⟨_, congrArg Host.Outcome.next (State.recoverButton_due held timer due), ?_, Clp.clearFault_inactive _ _ _⟩
    rw [Conditioner.unstick_still (.inl level)]
    rfl
  · exact congrArg Host.Outcome.next (State.recoverButton_early held (stopped_early stopped))

end Sys2Proof.Machine
end

section
/-! O45: a taken press of a button in service (R129, R134, R135, R138 to R140, R146, R148). -/

namespace Sys2Proof.Machine

variable {s : State} {door : Fin 8} {button : Fin 16} {kind : StopKind}

/-! ## The door of a session (R146, R148) -/

theorem DoorState.session_iff {d : DoorState} {side : Side} :
    d.session = some side ↔ d = .released side ∨ d = .closing side := by
  cases d <;> simp [DoorState.session]

theorem State.stopRequest_session (session : s.sdu.door.session = some (doorSide s.params door)) :
    s.stopRequest door button kind = s.sessionRequest door button := if_pos session

theorem State.stopRequest_listed (apart : s.sdu.door.session ≠ some (doorSide s.params door)) :
    s.stopRequest door button kind = s.offerStop door button kind := if_neg apart

/-- R146: in RELEASED a request opens an ENABLED output. -/
theorem State.sessionRequest_enabled {side : Side} (released : s.sdu.door = .released side)
    (enabled : s.sdu.outputs[door] = .enabled) : s.sessionRequest door button =
      State.reportDoors (.output door button) s.sdu.door
        { s with sdu := { s.sdu with outputs := s.sdu.outputs.set door .opened } } := by
  unfold State.sessionRequest
  rw [released]
  exact if_pos enabled

theorem State.sessionRequest_notEnabled {side : Side} (released : s.sdu.door = .released side)
    (other : s.sdu.outputs[door] ≠ .enabled) : s.sessionRequest door button = s := by
  unfold State.sessionRequest
  rw [released]
  exact if_neg other

/-- R148: in CLOSING a request is reported as late. -/
theorem State.sessionRequest_late {side : Side} (closing : s.sdu.door = .closing side) :
    s.sessionRequest door button = s.reportDoors (.latePress door button) s.sdu.door := by
  unfold State.sessionRequest
  rw [closing]

/-! ## A request at the stop list (R135, R138 to R140) -/

theorem StopEntry.merge_eq (kind : StopKind) (e : StopEntry) : e.merge kind = { e with
    alight := e.alight || decide (kind = .alight), board := e.board || decide (kind = .board)
    access := e.access || decide (kind = .access), count := min 255 (e.count + 1) } := by
  cases kind <;> simp [StopEntry.merge, StopEntry.add]

theorem newStop_eq (door : Fin 8) (kind : StopKind) : newStop door kind =
    { door := door, alight := decide (kind = .alight), board := decide (kind = .board)
      access := decide (kind = .access), count := 1 } := by
  cases kind <;> rfl

theorem State.offerStop_same (same : mergeStop door kind s.sdu.stops = s.sdu.stops) :
    s.offerStop door button kind = s := if_pos same

/-- R140: the STOPS report of a request for a door that is listed, or not. -/
def stopsCause (door : Fin 8) (button : Fin 16) (kind : StopKind) (l : List StopEntry) : StopsCause :=
  if ∃ e ∈ l, e.door = door then .merged door button kind else .added door button kind

/-- R138, R139, R140: a request that changes the list. -/
theorem State.offerStop_changed {before after : List StopEntry} (stops : s.sdu.stops = before)
    (list : after = mergeStop door kind before) (changed : after ≠ before) :
    s.offerStop door button kind =
      if before = [] then ((s.setStops after).reportStops (stopsCause door button kind before)).requestChime
      else (s.setStops after).reportStops (stopsCause door button kind before) := by
  have cause : (if listed door before then StopsCause.merged door button kind else .added door button kind) =
      stopsCause door button kind before := by simp only [stopsCause, listed_iff]
  subst stops list
  rw [← cause]
  exact if_neg changed

theorem mergeStop_ne_nil (door : Fin 8) (kind : StopKind) (l : List StopEntry) : mergeStop door kind l ≠ [] := by
  by_cases old : ∃ e ∈ l, e.door = door
  · rw [mergeStop_listed old]
    obtain ⟨e, mem, -⟩ := old
    simpa using List.ne_nil_of_mem mem
  · rw [mergeStop_unlisted old]
    simp

/-- R138, R140: a list with an entry is written with the stop lamp lit, and reported. -/
theorem State.setStops_reported {l : List StopEntry} (some : l ≠ []) (cause : StopsCause) :
    (s.setStops l).reportStops cause = { s with
      sdu := { s.sdu with stops := l, stopLamp := true, rampLamp := l.any fun e => e.access }
      clp := s.clp.raise (.stops cause l true (l.any fun e => e.access)) } := by
  have lamp : (!l.isEmpty) = true := by simpa using some
  rw [← lamp]
  rfl

/-! ## The obligation -/

/-- R128, R130: a button in service after a taken press. -/
def State.pressTaken (i : Fin 16) (c : Conditioner) (s : State) : State :=
  s.setButton i { c with level := true, settle := none, hold := some s.now, recovery := none }

/-- R128, R130: a taken press of a button in service starts its hold timer, and is a stop request. -/
theorem State.settleButton_inService {i : Fin 16} {c : Conditioner} {st : Nat} (held : s.sdu.buttons[i] = c)
    (timer : c.settle = some st) (due : st + 40000 ≤ s.now) (pressed : c.raw = true) (level : c.level = false)
    (inService : service s.params i c = .inService) (calm : c.hold = none)
    (mapped : mapping s.params i = some (door, kind)) :
    s.settleButton i = (s.pressTaken i c).stopRequest door i kind := by
  rw [State.settleButton_pressed held timer due pressed level, Conditioner.settled_inService pressed inService, calm]
  exact State.takePress_inService (State.setButton_button ..) inService mapped

/-- R135: the list after a request, written out. -/
theorem mergeStop_eq (door : Fin 8) (kind : StopKind) (l : List StopEntry) : mergeStop door kind l =
    if ∃ e ∈ l, e.door = door then
      l.map (fun e => if e.door = door then { e with
        alight := e.alight || decide (kind = .alight), board := e.board || decide (kind = .board)
        access := e.access || decide (kind = .access), count := min 255 (e.count + 1) } else e)
    else l ++ [{ door := door, alight := decide (kind = .alight), board := decide (kind = .board)
                 access := decide (kind = .access), count := 1 }] := by
  split
  · next old => simp only [mergeStop_listed old, StopEntry.merge_eq]
  · next new => rw [mergeStop_unlisted new, newStop_eq]

/-- Settles O45: the press is a stop request, for the door of a session or for the list. -/
theorem takenPress : Obligations.TakenPress := by
  rintro t _ i door kind s _ c inSession after rfl button ⟨st, timer, due⟩ pressed level free loose calm mapped session
    list rfl
  have inService : service s.params i c = .inService := service_inService.mpr ⟨free, by rw [mapped]; rfl, loose⟩
  have settled := State.settleButton_inService (s := s.atTime t) button timer due pressed level inService calm mapped
  rw [← DoorState.session_iff] at session
  rw [← mergeStop_eq] at list
  have taken : ∀ m, ((s.atTime t).pressTaken i c).stopRequest door i kind = m →
      exec (.settleTimerExpiry t i) s = .next m := fun m request => congrArg Host.Outcome.next (settled.trans request)
  have routed := fun inside => State.stopRequest_session (s := (s.atTime t).pressTaken i c) (button := i) (kind := kind)
    (session.mp inside)
  have offered := fun outside : inSession = false => State.stopRequest_listed (s := (s.atTime t).pressTaken i c)
    (button := i) (kind := kind) (mt session.mpr (by rw [outside]; nofun))
  refine ⟨fun inside released enabled => ?_, fun inside released other => ?_, fun inside closing => ?_,
    fun outside same => ?_, fun outside changed s2 eq => ?_⟩
  · exact taken _ ((routed inside).trans (State.sessionRequest_enabled released enabled))
  · exact taken _ ((routed inside).trans (State.sessionRequest_notEnabled released other))
  · exact taken _ ((routed inside).trans (State.sessionRequest_late closing))
  · exact taken _ ((offered outside).trans (State.offerStop_same (list.symm.trans same)))
  · have entries : after ≠ [] := list ▸ mergeStop_ne_nil _ _ _
    have relisted : (((s.atTime t).pressTaken i c).setStops after).reportStops
        (stopsCause door i kind s.sdu.stops) = s2 := (State.setStops_reported entries _).trans eq.symm
    have request := State.offerStop_changed (s := (s.atTime t).pressTaken i c) (button := i) rfl list changed
    refine ⟨fun some => ?_, fun none => ?_⟩
    · exact taken _ ((offered outside).trans (request.trans ((if_neg some).trans relisted)))
    · exact taken _ ((offered outside).trans (request.trans ((if_pos none).trans (congrArg _ relisted))))

end Sys2Proof.Machine
end

section
/-! O46: BUTTON_ISOLATE and STOP_CLEAR (R132, R136, R138). -/

namespace Sys2Proof.Machine

variable {s : State} {i : Fin 16} {c : Conditioner} {index action target : Byte}

/-! ## BUTTON_ISOLATE at its owner (R132) -/

theorem State.buttonIsolate_outOfRange (s : State) (bad : 15 < index.toNat ∨ 1 < action.toNat) :
    ∃ n, s.buttonIsolate index action = (s, .range n) := by
  unfold State.buttonIsolate
  split
  · split
    · omega
    · omega
    · exact ⟨_, rfl⟩
  · exact ⟨_, rfl⟩

theorem State.buttonIsolate_inRange (s : State) (button : index.toNat = i.val) : s.buttonIsolate index action =
    if action.toNat = 0 then (s.isolateButton i, .ok ((s.isolateButton i).buttonData i))
    else if action.toNat = 1 then (s.restoreButton i, .ok ((s.restoreButton i).buttonData i))
    else (s, .rangeUnnamed 0x13 2) := by
  have same : (⟨index.toNat, button ▸ i.isLt⟩ : Fin 16) = i := Fin.ext button
  unfold State.buttonIsolate
  rw [dif_pos (button ▸ i.isLt), same]
  dsimp only
  split
  · next code => rw [code]; rfl
  · next code => rw [code]; rfl
  · next other unknown => rw [if_neg other, if_neg unknown]

/-- R132: the reply carries the button as it stands. -/
theorem State.buttonData_eq (held : s.sdu.buttons[i] = c) :
    s.buttonData i = .button i.val (mapping s.params i) c.level (service s.params i c) := by
  rw [State.buttonData, held]

theorem service_isolated {p : Params} (isolated : c.isolated = true) : service p i c = .isolated := if_pos isolated

theorem service_restored {p : Params} {hold : Option Nat} (loose : c.stuck = false) :
    service p i { c with isolated := false, hold := hold } = if (mapping p i).isSome then .inService else .unused := by
  unfold service
  cases mapping p i <;> simp [loose]

/-- R132: a button that is isolated: no longer stuck, its timers stopped. -/
def Conditioner.putOut (c : Conditioner) : Conditioner :=
  { c with isolated := true, stuck := false, hold := none, recovery := none }

theorem State.isolateButton_eq (held : s.sdu.buttons[i] = c) : s.isolateButton i =
    if c.stuck then (s.setButton i c.putOut).clearFault .buttonStuck i.val else s.setButton i c.putOut := by
  have out : ({ c with isolated := true } : Conditioner).unstick s.params i s.now = c.putOut :=
    Conditioner.unstick_still (.inr rfl)
  unfold State.isolateButton
  rw [held, ← out]

/-- R132: ISOLATE writes the conditioner, and tells the fault set of a button that was stuck. -/
theorem State.isolateButton_spec (held : s.sdu.buttons[i] = c) :
    s.isolateButton i = { s.setButton i c.putOut with
      clp := { s.clp with faults := (s.isolateButton i).clp.faults } } ∧
    (c.stuck = true → Inactive .buttonStuck i.val (s.isolateButton i).clp.faults) ∧
    (c.stuck = false → (s.isolateButton i).clp.faults = s.clp.faults) := by
  rw [State.isolateButton_eq held]
  cases stuck : c.stuck with
  | true => exact ⟨rfl, fun _ => Clp.clearFault_inactive _ _ _, nofun⟩
  | false => exact ⟨rfl, nofun, fun _ => rfl⟩

theorem Conditioner.putOut_same (isolated : c.isolated = true) (loose : c.stuck = false) (hold : c.hold = none)
    (recovery : c.recovery = none) : c.putOut = c := by
  cases c
  simp_all [Conditioner.putOut]

theorem State.restoreButton_eq (held : s.sdu.buttons[i] = c) : s.restoreButton i =
    s.setButton i (({ c with isolated := false } : Conditioner).settleTimers s.params i s.now) := by
  rw [State.restoreButton, held]

/-- R132: an isolated button that is restored. -/
theorem Conditioner.restored {p : Params} {now : Nat} (loose : c.stuck = false) (hold : c.hold = none)
    (recovery : c.recovery = none) : ({ c with isolated := false } : Conditioner).settleTimers p i now = { c with
      isolated := false, hold := if c.level ∧ (mapping p i).isSome then some now else none } := by
  unfold Conditioner.settleTimers holdRuns
  simp [loose, hold, recovery]

/-- R130, R131: timers that follow their conditions are not moved. -/
theorem Conditioner.settleTimers_timed_same {p : Params} {now : Nat} (hold : c.hold.isSome = holdRuns p i c)
    (recovery : c.recovery.isSome = (c.stuck && !c.level)) : c.settleTimers p i now = c := by
  have held : (if holdRuns p i c then some (c.hold.getD now) else none) = c.hold := by
    rw [← hold]
    cases c.hold <;> rfl
  have recovers : (if c.stuck ∧ !c.level then some (c.recovery.getD now) else none) = c.recovery := by
    simp only [← Bool.and_eq_true, ← recovery]
    cases c.recovery <;> rfl
  unfold Conditioner.settleTimers
  rw [held, recovers]

/-- R132: ISOLATE is answered with the button isolated. -/
theorem State.buttonIsolate_isolated (held : s.sdu.buttons[i] = c) (button : index.toNat = i.val)
    (code : action.toNat = 0) : s.buttonIsolate index action =
      (s.isolateButton i, .ok (.button i.val (mapping s.params i) c.level .isolated)) := by
  obtain ⟨eq, -⟩ := State.isolateButton_spec held
  have out : (s.isolateButton i).sdu.buttons[i] = c.putOut := by
    rw [eq]
    exact State.setButton_button i c.putOut s
  have params : (s.isolateButton i).params = s.params := by rw [eq]; rfl
  rw [State.buttonIsolate_inRange s button, if_pos code, State.buttonData_eq out, service_isolated rfl, params]
  rfl

/-- R132: RESTORE is answered with the service state of the button in its new state `c'`. -/
theorem State.buttonIsolate_restored {c' : Conditioner} (held : s.sdu.buttons[i] = c) (button : index.toNat = i.val)
    (code : action.toNat = 1)
    (restored : ({ c with isolated := false } : Conditioner).settleTimers s.params i s.now = c') :
    s.buttonIsolate index action =
      (s.setButton i c', .ok (.button i.val (mapping s.params i) c'.level (service s.params i c'))) := by
  rw [State.buttonIsolate_inRange s button, if_neg (by omega), if_pos code, State.restoreButton_eq held, restored,
    State.buttonData_eq (State.setButton_button ..)]
  rfl

/-! ## STOP_CLEAR at its owner (R136) -/

theorem stopTarget_door {d : Fin 8} (door : target.toNat = d.val) : stopTarget target = some (some d) := by
  unfold stopTarget
  rw [dif_pos (door ▸ d.isLt)]
  simp only [door]

theorem stopTarget_all (all : target.toNat = 255) : stopTarget target = some none := by
  have byte : target = 0xFF := BitVec.eq_of_toNat_eq all
  subst byte
  rfl

theorem stopTarget_none (above : 7 < target.toNat) (other : target.toNat ≠ 255) : stopTarget target = none := by
  unfold stopTarget
  rw [dif_neg (by omega), if_neg]
  rintro rfl
  exact other rfl

theorem State.stopClear_outOfRange (s : State) (bad : stopTarget target = none) :
    s.stopClear target = (s, .rangeUnnamed 0x12 1) := by
  rw [State.stopClear, bad]

theorem State.stopClear_notFound {d : Fin 8} (door : stopTarget target = some (some d))
    (absent : ∀ e ∈ s.sdu.stops, e.door ≠ d) : s.stopClear target = (s, .plain .notFound) := by
  have unlisted : ¬ listed d s.sdu.stops = true := fun held => by
    obtain ⟨e, mem, same⟩ := listed_iff.mp held
    exact absent e mem same
  rw [State.stopClear, door]
  exact if_neg unlisted

theorem State.stopClear_door {d : Fin 8} (door : stopTarget target = some (some d))
    (held : ∃ e ∈ s.sdu.stops, e.door = d) {after : List StopEntry}
    (list : after = s.sdu.stops.filter fun e => decide (e.door ≠ d)) : s.stopClear target =
      ((s.setStops after).reportStops (.cleared d),
        .ok (.stopsCleared (s.sdu.stops.length - after.length) after.length)) := by
  rw [State.stopClear, door, list]
  exact if_pos (listed_iff.mpr held)

theorem State.stopClear_empty (all : stopTarget target = some none) (empty : s.sdu.stops = []) :
    s.stopClear target = (s, .ok (.stopsCleared 0 0)) := by
  rw [State.stopClear, all]
  exact if_pos empty

theorem State.stopClear_all (all : stopTarget target = some none) (some : s.sdu.stops ≠ []) : s.stopClear target =
    ((s.setStops []).reportStops .clearedAll, .ok (.stopsCleared s.sdu.stops.length 0)) := by
  rw [State.stopClear, all]
  exact if_neg some

/-! ## The obligation -/

/-- Settles O46: on a ready link each command is its owner's answer, with the reply behind the report that it raised. -/
theorem stopCommands : Obligations.StopCommands := by
  rintro t tag index action target s _ ready rfl
  have isolateRow : exec (.buttonIsolate t tag index action) s =
      .next (s.command t 0x13 tag (.buttonIsolate index action)) := rfl
  have clearRow : exec (.stopClear t tag target) s = .next (s.command t 0x12 tag (.stopClear target)) := rfl
  refine ⟨fun bad => ?_, fun i button c held => ⟨fun out loose hold recovery code => ?_, fun free code => ?_,
    fun out loose hold recovery code => ?_, fun free hold recovery code => ?_⟩, fun above other => ?_,
    fun d door absent => ?_, fun d door listed after list => ?_, fun all empty => ?_, fun all some => ?_⟩
  · obtain ⟨n, run⟩ := (s.atTime t).buttonIsolate_outOfRange bad
    exact ⟨n, exec_answered isolateRow ready run⟩
  · have same : (s.atTime t).isolateButton i = s.atTime t := by
      have putOut := Conditioner.putOut_same out loose hold recovery
      rw [State.isolateButton_eq (s := s.atTime t) held, loose, putOut]
      exact State.setButton_same (s := s.atTime t) held
    have run := State.buttonIsolate_isolated (s := s.atTime t) held button code
    rw [same] at run
    exact exec_answered isolateRow ready run
  · obtain ⟨eq, stuck, faults⟩ := State.isolateButton_spec (s := s.atTime t) held
    have run := State.buttonIsolate_isolated (s := s.atTime t) held button code
    generalize (s.atTime t).isolateButton i = m at *
    have outbound : m.clp.outbound = s.clp.outbound := by rw [eq]; rfl
    refine ⟨_, exec_replied isolateRow ready run (congrArg replyCount outbound), ?_, ?_, stuck, faults⟩
    · rw [eq]; rfl
    · rw [← outbound]; rfl
  · have run := State.buttonIsolate_restored (s := s.atTime t) held button code
      (Conditioner.restored loose hold recovery)
    rw [service_restored loose] at run
    exact exec_replied isolateRow ready run rfl
  · have same : ({ c with isolated := false } : Conditioner).settleTimers s.params i (max s.now t) = c := by
      have whole : ({ c with isolated := false } : Conditioner) = c := by rw [← free]
      rw [whole]
      exact Conditioner.settleTimers_timed_same hold recovery
    have run := State.buttonIsolate_restored (s := s.atTime t) held button code same
    rw [State.setButton_same (s := s.atTime t) held] at run
    exact exec_answered isolateRow ready run
  · exact ⟨_, exec_answered clearRow ready (State.stopClear_outOfRange _ (stopTarget_none above other))⟩
  · exact exec_answered clearRow ready (State.stopClear_notFound (s := s.atTime t) (stopTarget_door door) absent)
  · exact exec_replied clearRow ready (State.stopClear_door (s := s.atTime t) (stopTarget_door door) listed list)
      (Clp.raise_replies _ _)
  · exact exec_answered clearRow ready (State.stopClear_empty (s := s.atTime t) (stopTarget_all all) empty)
  · exact exec_replied clearRow ready (State.stopClear_all (s := s.atTime t) (stopTarget_all all) some)
      (Clp.raise_replies _ _)

end Sys2Proof.Machine
end

section
/-! SUPPORT. The transitions of the door state machine (R144 to R151), an equation per case or what each writes. -/

namespace Sys2Proof.Machine

variable {s m : State}

/-! ## A post or a request from a state that differs beside it -/

/-- R21: a post does not read the moment or the Stop and Door Unit. -/
theorem State.post_beside (now : Nat) (d : Sdu) (slot : Slot) (kind : Kind) (ceiling : Nat) (reason : Byte)
    (s : State) : ({ s with now := now, sdu := d } : State).post slot kind ceiling reason =
      { s with now := now, sdu := d, drc := (s.post slot kind ceiling reason).drc
               clp := (s.post slot kind ceiling reason).clp } := by
  simp only [State.post, State.writeSlot_eq, State.clip_eq]
  cases s.drc.table.get slot with
  | none => rfl
  | some old =>
    dsimp only
    split_ifs <;> rfl

/-- R143: nor does the post of the DOORS entry as HOLD. -/
theorem State.postHold_beside (now : Nat) (d : Sdu) (s : State) : ({ s with now := now, sdu := d } : State).postHold =
    { s with now := now, sdu := d, drc := (s.post .doors .hold 0 0xE4).drc, clp := (s.post .doors .hold 0 0xE4).clp } :=
  State.post_beside ..

/-- R165: the Tone Unit after a request. -/
theorem State.sound_tnu (ch : ChannelId) (pattern priority : Nat) (source : Source) (mode : Mode) (s : State) :
    (s.sound ch pattern priority source mode).tnu =
      (s.setChannel ch ((s.channel ch).arrive s.tnu.pattern s.now
        { pattern := pattern, priority := priority, source := source, mode := mode, rank := 0 }).channel).tnu := by
  rw [State.sound_arrived]
  unfold State.arrived
  dsimp only
  (repeat' split) <;> simp

theorem State.sound_tnu_congr (now : m.now = s.now) (tnu : m.tnu = s.tnu) (ch : ChannelId) (pattern priority : Nat)
    (source : Source) (mode : Mode) :
    (m.sound ch pattern priority source mode).tnu = (s.sound ch pattern priority source mode).tnu := by
  simp only [State.sound_tnu, State.setChannel, State.channel, now, tnu]

/-- An event of the doors is told by the blocks that it reaches. -/
theorem State.eq_of_doors_frame (now : m.now = s.now) (poweredAt : m.poweredAt = s.poweredAt)
    (pending : m.pending = s.pending) (amu : m.amu = s.amu) (rtm : m.rtm = s.rtm) (lpt : m.lpt = s.lpt)
    (params : m.params = s.params) (configured : m.configured = s.configured) :
    m = { s with drc := m.drc, sdu := m.sdu, tnu := m.tnu, clp := m.clp } := by
  rw [← now, ← poweredAt, ← pending, ← amu, ← rtm, ← lpt, ← params, ← configured]

/-! ## The presses of the cab door buttons (R142) -/

section press
variable {α : Type} {x y z : α} {stood t : Nat} {b : DoorButton} {act : State → State}

/-- R142: an input is taken once it has stood for 40 ms. -/
theorem ite_stood (long : 40 ≤ stood) (eq : x = z) : (if Config.buttonMs ≤ stood then x else y) = z :=
  (if_pos long).trans eq

theorem ite_unstood (idle : stood < 40 ∨ x = y) : (if Config.buttonMs ≤ stood then x else y) = y := by
  rcases idle with short | same
  · exact if_neg (Nat.not_le.mpr short)
  · rw [same, ite_self]

/-- R142: a press that has not stood, or comes before the button was inactive again. -/
theorem State.doorPress_idle (idle : stood < 40 ∨ s.sdu.armed b = false) :
    (if Config.buttonMs ≤ stood then (s.atTime t).doorPress b act else s.atTime t) = s.atTime t :=
  ite_unstood (idle.imp_right fun unarmed => if_neg (ne_true_of_eq_false unarmed))

theorem State.doorPress_discarded (long : 40 ≤ stood) (armed : s.sdu.armed b = true)
    (unconfigured : s.configured = false) :
    (if Config.buttonMs ≤ stood then (s.atTime t).doorPress b act else s.atTime t) =
      { s with now := max s.now t, sdu := s.sdu.arm b false } :=
  ite_stood long ((if_pos armed).trans (if_neg (ne_true_of_eq_false unconfigured)))

theorem State.doorPress_taken (long : 40 ≤ stood) (armed : s.sdu.armed b = true) (configured : s.configured = true) :
    (if Config.buttonMs ≤ stood then (s.atTime t).doorPress b act else s.atTime t) =
      act { s with now := max s.now t, sdu := s.sdu.arm b false } :=
  ite_stood long ((if_pos armed).trans (if_pos configured))

/-- R142: of the unit, arming a button writes whether its next press can be taken. -/
theorem Sdu.arm_eq (b : DoorButton) (v : Bool) (d : Sdu) :
    ∃ left right close, d.arm b v = { d with armedLeft := left, armedRight := right, armedClose := close } := by
  cases b <;> exact ⟨_, _, _, rfl⟩

end press

/-! ## Release (R144, R145, R148) -/

section release
variable {side : Side} {stops : List StopEntry}

/-- R144: the conditions of an accepted release, written out. -/
theorem releaseAllowed_iff : releaseAllowed side s = true ↔ s.drc.driveState ≠ .unconfigured ∧
    (s.amu.atStandstill = true ∨ s.drc.refClass = .lost ∧ 5000 ≤ s.drc.brakeHeld) ∧ s.rtm.zone = false ∧
    (∃ d : Fin 8, doorSide s.params d = side) ∧ s.sdu.bypass = false := by
  unfold releaseAllowed Config.releaseBrakeHeld
  simp [allDoors, and_assoc]

/-- R145: the listed doors of the side are opened, and its other doors are enabled. -/
theorem releaseOutputs_eq (p : Params) : releaseOutputs p side stops = Vector.ofFn fun d =>
    if doorSide p d ≠ side then .closed else if ∃ e ∈ stops, e.door = d then .opened else .enabled := by
  unfold releaseOutputs
  simp only [listed_iff, ite_not]

/-- R148: a re-release enables the doors of its side. -/
theorem releaseOutputs_nil (p : Params) : releaseOutputs p side [] =
    Vector.ofFn fun d => if doorSide p d = side then .enabled else .closed := rfl

theorem State.releaseStops_none (none : s.sdu.stops.filter (fun e => decide (doorSide s.params e.door = side)) = []) :
    s.releaseStops side = s := if_pos none

theorem State.releaseStops_some {gone : List StopEntry}
    (list : gone = s.sdu.stops.filter fun e => decide (doorSide s.params e.door = side)) (some : gone ≠ []) :
    s.releaseStops side =
      (s.setStops (s.sdu.stops.filter fun e => decide (doorSide s.params e.door ≠ side))).reportStops
        (.released side (gone.map fun e => e.door)) := by
  subst list
  exact if_neg some

theorem State.releaseRequest_none (none : s.sdu.door = .none) :
    s.releaseRequest side = if releaseAllowed side s then s.release side else s.refuseRelease := by
  rw [State.releaseRequest, none]

theorem State.releaseRequest_refused (refused : s.sdu.door = .none ∧ releaseAllowed side s = false ∨
      s.sdu.door = .unsafe_ ∨ s.sdu.door = .bypassed ∨
      ∃ x, x ≠ side ∧ (s.sdu.door = .released x ∨ s.sdu.door = .closing x)) :
    s.releaseRequest side = s.refuseRelease := by
  rcases refused with ⟨none, no⟩ | unsafe_ | bypassed | ⟨x, other, released | closing⟩
  · rw [State.releaseRequest_none none, no]
    rfl
  · rw [State.releaseRequest, unsafe_]
  · rw [State.releaseRequest, bypassed]
  · rw [State.releaseRequest, released]
    exact if_neg other
  · rw [State.releaseRequest, closing]
    exact if_neg other

theorem State.releaseRequest_released (released : s.sdu.door = .released side) : s.releaseRequest side = s := by
  rw [State.releaseRequest, released]
  exact if_pos rfl

theorem State.releaseRequest_closing (closing : s.sdu.door = .closing side) :
    s.releaseRequest side = s.reRelease side := by
  rw [State.releaseRequest, closing]
  exact if_pos rfl

/-- R148: the unit and the report of a re-release. -/
theorem State.reRelease_closing {d : Sdu} (closing : s.sdu.door = .closing side)
    (opened : d = { s.sdu with
      door := .released side, closeTimer := none
      outputs := Vector.ofFn fun d => if doorSide s.params d = side then .enabled else .closed }) :
    s.reRelease side = { s with sdu := d, clp := s.clp.raise (.doors .state (.closing side) d.view) } := by
  subst opened
  rw [← closing, ← releaseOutputs_nil]
  rfl

end release

/-! ## Closing (R147 to R149) -/

/-- R149: what the completion of a closing writes. -/
structure CompletesClosing (s m : State) : Prop where
  blocks : m = { s with drc := m.drc, sdu := m.sdu, tnu := m.tnu, clp := m.clp }
  sdu    : m.sdu = { s.sdu with door := .none, closeTimer := none }
  drc    : m.drc = (s.lift .doors).drc
  tnu    : m.tnu = if s.params.departureBell = 0 then s.tnu else s.requestDepartureBell.tnu
  faults : Latchings (· = .soundDropped) 1 s.clp.faults m.clp.faults

theorem State.completeClosing_completes (s : State) : CompletesClosing s s.completeClosing := by
  have drc : (State.lift .doors { s with sdu := { s.sdu with closeTimer := none } }).drc = (s.lift .doors).drc :=
    State.lift_drc_congr (by rfl) (by rfl) .doors
  have faults : ((State.lift .doors { s with sdu := { s.sdu with closeTimer := none } }).setDoor .none).clp.faults =
      s.clp.faults := (State.setDoor_faults ..).trans (State.lift_faults ..)
  obtain ⟨now, poweredAt, pending, amu, rtm, lpt, params, configured⟩ := s.completeClosing_frame
  have blocks := State.eq_of_doors_frame now poweredAt pending amu rtm lpt params configured
  unfold State.completeClosing at blocks ⊢
  dsimp only at blocks ⊢
  split at blocks
  · next silent =>
    rw [if_pos silent]
    refine ⟨blocks, by simp, by simpa using drc, ?_, .of_eq faults⟩
    rw [if_pos (by simpa using silent)]
    simp
  · next rings =>
    rw [if_neg rings]
    refine ⟨blocks, by simp, by simpa using drc, ?_, faults ▸ State.sound_latchings ..⟩
    rw [if_neg (by simpa using rings)]
    exact State.sound_tnu_congr (by simp) (by simp) ..

theorem State.closeRequest_otherwise (apart : ∀ side, s.sdu.door ≠ .released side) : s.closeRequest = s := by
  unfold State.closeRequest
  split
  · next side released => exact absurd released (apart side)
  · rfl

/-- R147: in RELEASED the closing begins, and completes at once with every door locked. -/
theorem State.closeRequest_released {side : Side} {d : Sdu} (released : s.sdu.door = .released side)
    (closing : d = { s.sdu with
      door := .closing side, outputs := Vector.replicate 8 .closed, closeTimer := some s.now }) :
    s.closeRequest = if s.sdu.allLocked
      then State.completeClosing { s with sdu := d, clp := s.clp.raise (.doors .state (.released side) d.view) }
      else { s with sdu := d, clp := s.clp.raise (.doors .state (.released side) d.view) } := by
  subst closing
  simp only [State.closeRequest, State.setDoor, State.reportDoors, released]
  rfl

theorem Sdu.allLocked_iff {d : Sdu} : d.allLocked = true ↔ ∀ i : Fin 8, d.locked[i] = true := by
  simp [Sdu.allLocked, allDoors]

theorem Sdu.not_allLocked_iff {d : Sdu} : ¬ d.allLocked = true ↔ ∃ i : Fin 8, d.locked[i] = false := by
  simp [Sdu.allLocked_iff]

/-- R149: a closing that completes at once, told from the state in which the button was pressed. -/
theorem State.closeRequest_locked {side : Side} {d : Sdu} (released : s.sdu.door = .released side)
    (closing : d = { s.sdu with
      door := .closing side, outputs := Vector.replicate 8 .closed, closeTimer := some s.now })
    (locked : ∀ i : Fin 8, s.sdu.locked[i] = true) :
    s.closeRequest = { s with
      sdu := { d with door := .none, closeTimer := none }, drc := (s.lift .doors).drc
      tnu := s.closeRequest.tnu, clp := s.closeRequest.clp } ∧
    s.closeRequest.tnu = if s.params.departureBell = 0 then s.tnu else s.requestDepartureBell.tnu := by
  have allLocked : s.sdu.allLocked = true := Sdu.allLocked_iff.mpr locked
  obtain ⟨blocks, sdu, drc, tnu, -⟩ := State.completeClosing_completes
    { s with sdu := d, clp := s.clp.raise (.doors .state (.released side) d.view) }
  rw [State.closeRequest_released released closing, if_pos allLocked]
  generalize State.completeClosing _ = m at *
  refine ⟨blocks.trans ?_,
    tnu.trans (ite_congr rfl (fun _ => rfl) fun _ => State.sound_tnu_congr (by rfl) (by rfl) ..)⟩
  rw [sdu, drc.trans (State.lift_drc_congr (s := s) (by rfl) (by rfl) .doors)]

/-- R148: at the close timeout. -/
theorem State.closeTimeout_due {st : Nat} (timer : s.sdu.closeTimer = some st)
    (due : st + s.params.closeTimeout.toNat * 1000000 ≤ s.now) :
    s.closeTimeout = State.latch .doorCloseTimeout 0 { s with sdu := { s.sdu with closeTimer := none } } :=
  if_pos (by simpa [expired, timer] using due)

theorem State.closeTimeout_early (early : ∀ st, s.sdu.closeTimer = some st →
      s.now < st + s.params.closeTimeout.toNat * 1000000) : s.closeTimeout = s := by
  refine if_neg ?_
  unfold expired
  split
  · exact Bool.false_ne_true
  · next st timer => simpa using early st timer

end Sys2Proof.Machine
end

section
/-! O47: the release buttons, the close button and the close timer (R142, R144, R145, R147 to R149, R152). -/

namespace Sys2Proof.Machine

variable {s : State}

section release
variable {side : Side} {now : Nat} {d d' : Sdu}

/-- R145: an accepted release with no entry of its side in the stop list. -/
theorem State.release_unlisted (none : d.door = .none)
    (unlisted : d.stops.filter (fun e => decide (doorSide s.params e.door = side)) = [])
    (opened : d' = { d with door := .released side, outputs := releaseOutputs s.params side d.stops }) :
    ({ s with now := now, sdu := d } : State).release side = { s with
      now := now, sdu := d', drc := (s.post .doors .hold 0 0xE4).drc
      clp := (s.post .doors .hold 0 0xE4).clp.raise (.doors .state .none d'.view) } := by
  subst opened
  unfold State.release
  rw [State.postHold_beside]
  dsimp only
  rw [State.releaseStops_none unlisted, State.setDoor, State.reportDoors, none]
  rfl

/-- R145 step 3: with entries of its side, which leave the list. -/
theorem State.release_listed {gone kept : List StopEntry} (none : d.door = .none)
    (goes : gone = d.stops.filter fun e => decide (doorSide s.params e.door = side)) (listed : gone ≠ [])
    (stays : kept = d.stops.filter fun e => decide (doorSide s.params e.door ≠ side))
    (opened : d' = { d.setStops kept with
      door := .released side, outputs := releaseOutputs s.params side d.stops }) :
    ({ s with now := now, sdu := d } : State).release side = { s with
      now := now, sdu := d', drc := (s.post .doors .hold 0 0xE4).drc
      clp := ((s.post .doors .hold 0 0xE4).clp.raise (.stops (.released side (gone.map fun e => e.door)) kept
        (!kept.isEmpty) (kept.any fun e => e.access))).raise (.doors .state .none d'.view) } := by
  subst opened stays
  unfold State.release
  rw [State.postHold_beside]
  dsimp only
  rw [State.releaseStops_some goes listed, State.setDoor, State.reportDoors, ← none]
  rfl

end release

/-- Settles O47: a taken press disarms its button and is the request of its door state; the close timer at its limit. -/
theorem releaseAndClose : Obligations.ReleaseAndClose := by
  refine ⟨?_, ?_⟩
  · rintro t stood side s s1 b allowed outs gone kept own pressed permitted outputs goes stays
    have button : b = releaseButton side := by rcases own with ⟨rfl, rfl⟩ | ⟨rfl, rfl⟩ <;> rfl
    subst button
    have taken : 40 ≤ stood → s.sdu.armed (releaseButton side) = true → s.configured = true →
        ∀ m, s1.releaseRequest side = m → exec (.releasePress t stood side) s = .next m :=
      fun long armed configured m request => congrArg Host.Outcome.next
        ((State.doorPress_taken long armed configured).trans (pressed ▸ request))
    refine ⟨fun idle => congrArg Host.Outcome.next (State.doorPress_idle idle), fun long armed unconfigured =>
      pressed ▸ congrArg Host.Outcome.next (State.doorPress_discarded long armed unconfigured),
      fun long armed configured => ?_⟩
    replace taken := taken long armed configured
    obtain ⟨left, right, close, disarmed⟩ := s.sdu.arm_eq (releaseButton side) false
    rw [disarmed] at pressed
    have door : s1.sdu.door = s.sdu.door := by rw [pressed]
    have allows : allowed = releaseAllowed side s1 := by
      rw [Bool.eq_iff_iff, permitted, releaseAllowed_iff, pressed]
    rw [← releaseOutputs_eq] at outputs
    rw [← door]
    refine ⟨fun calm yes => ?_, fun refused => ?_, fun released => ?_, fun closing d opened => ?_⟩
    · have release := (State.releaseRequest_none calm).trans (if_pos (allows.symm.trans yes))
      rw [door] at calm
      subst pressed outputs
      by_cases unlisted : gone = []
      · exact ⟨_, taken _ (release.trans (State.release_unlisted calm (goes ▸ unlisted) rfl)), rfl, rfl,
          fun _ => ⟨rfl, rfl, rfl, rfl⟩, fun listed => absurd unlisted listed⟩
      · exact ⟨_, taken _ (release.trans (State.release_listed calm goes unlisted stays rfl)), rfl, rfl,
          fun empty => absurd empty unlisted, fun _ => ⟨rfl, rfl, rfl, rfl⟩⟩
    · exact taken _ (State.releaseRequest_refused (allows ▸ refused))
    · exact taken _ (State.releaseRequest_released released)
    · subst pressed
      exact taken _ ((State.releaseRequest_closing closing).trans (State.reRelease_closing closing opened))
  · rintro t stood b side s s1 d pressed closing
    have taken : 40 ≤ stood → s.sdu.armedClose = true → s.configured = true →
        ∀ m, s1.closeRequest = m → exec (.closePress t stood) s = .next m :=
      fun long armed configured m request => congrArg Host.Outcome.next
        ((State.doorPress_taken (b := .close) long armed configured).trans (pressed ▸ request))
    have now : s1.now = max s.now t := by rw [pressed]
    have door : s1.sdu.door = s.sdu.door := by rw [pressed]; rfl
    have levels : s1.sdu.locked = s.sdu.locked := by rw [pressed]; rfl
    rw [← now] at closing
    rw [← door, ← levels]
    refine ⟨fun idle => congrArg Host.Outcome.next (State.doorPress_idle (b := .close) idle),
      fun long armed ignored => ?_, fun long armed configured released unlocked => ?_,
      fun long armed configured released locked => ?_, ?_,
      fun ⟨st, timer, due⟩ => ?_, fun early => congrArg Host.Outcome.next (State.closeTimeout_early early)⟩
    · cases configured : s.configured with
      | false =>
        exact pressed ▸ congrArg Host.Outcome.next (State.doorPress_discarded (b := .close) long armed configured)
      | true =>
        refine taken long armed configured _ (State.closeRequest_otherwise fun x released => ?_)
        simp [configured, released] at ignored
    · subst pressed
      exact taken long armed configured _ ((State.closeRequest_released released closing).trans
        (if_neg (Sdu.not_allLocked_iff.mpr unlocked)))
    · obtain ⟨blocks, tnu⟩ := State.closeRequest_locked released closing locked
      rw [← State.lift_drc_congr (m := s1) (s := s) (by rw [pressed]) (by rw [pressed])]
      subst pressed
      exact ⟨_, taken long armed configured _ rfl, blocks, fun silent => tnu.trans (if_pos silent),
        fun rings => tnu.trans (if_neg rings)⟩
    · by_cases long : 40 ≤ stood
      · exact congrArg Host.Outcome.next ((if_pos long).trans (by rw [if_pos long]; rfl))
      · exact congrArg Host.Outcome.next ((if_neg long).trans (by rw [if_neg long]; rfl))
    · exact ⟨_, congrArg Host.Outcome.next (State.closeTimeout_due timer due), rfl,
        fun room => Clp.latch_holds _ _ _ _ room⟩

end Sys2Proof.Machine
end

section
/-! SUPPORT. UNSAFE and BYPASSED, the door inputs and the bypass switch (R142, R143, R146, R149 to R151): an equation
per case, or what each writes. -/

namespace Sys2Proof.Machine

variable {s : State} {door : Fin 8} {doors : List (Fin 8)}

/-! ## UNSAFE (R150) -/

/-- R150: UNSAFE is entered with some doors found not locked. -/
def State.findUnsafe (doors : List (Fin 8)) (s : State) : State := (s.postHold.latchUnlocked doors).setDoor .unsafe_

/-- R150: what the entry of UNSAFE writes, and latches with room. -/
structure FindsUnsafe (doors : List (Fin 8)) (s m : State) : Prop where
  sdu     : m.sdu = { s.sdu with door := .unsafe_ }
  drc     : m.drc = (s.post .doors .hold 0 0xE4).drc
  tnu     : m.tnu = s.tnu
  params  : m.params = s.params
  faults  : Latchings (· = .doorUnlocked) doors.length s.clp.faults m.clp.faults
  latched : s.clp.faults.length + doors.length ≤ 32 → ∀ d ∈ doors, Latched .doorUnlocked d.val m

theorem State.findUnsafe_finds (doors : List (Fin 8)) (s : State) : FindsUnsafe doors s (s.findUnsafe doors) := by
  have held : s.postHold.clp.faults = s.clp.faults := State.post_faults ..
  have told : (s.findUnsafe doors).clp.faults = (s.postHold.latchUnlocked doors).clp.faults := State.setDoor_faults ..
  refine ⟨by simp [State.findUnsafe], ?_, by simp [State.findUnsafe], by simp [State.findUnsafe], ?_,
    fun room => ?_⟩
  · unfold State.findUnsafe
    simp only [State.setDoor_frame, State.latchUnlocked_frame]
    rfl
  · rw [told, ← held]
    exact State.latchUnlocked_latchings ..
  · unfold Latched
    rw [told]
    exact State.latchUnlocked_latched (by rwa [held])

theorem State.enterUnsafe_off (off : s.sdu.bypass = false) : s.enterUnsafe doors = s.findUnsafe doors := by
  have same : (s.findUnsafe doors).sdu.bypass = false := by rw [(s.findUnsafe_finds doors).sdu]; exact off
  exact if_neg (ne_true_of_eq_false same)

theorem State.enterUnsafe_on (on : s.sdu.bypass = true) :
    s.enterUnsafe doors = (s.findUnsafe doors).enterBypassed := by
  have same : (s.findUnsafe doors).sdu.bypass = true := by rw [(s.findUnsafe_finds doors).sdu]; exact on
  exact if_pos same

/-! ## BYPASSED (R151) -/

theorem mem_bypassLatches {p : Params} {d : Sdu} (session : d.door.session = some (doorSide p door))
    (unlocked : d.locked[door] = false) : door ∈ bypassLatches p d := by
  simp [bypassLatches, session, mem_unlocked, unlocked]

theorem bypassLatches_length (p : Params) (d : Sdu) : (bypassLatches p d).length ≤ 8 := by
  unfold bypassLatches
  split
  · exact (List.length_filter_le _ _).trans (unlocked_length d)
  · exact Nat.zero_le _

theorem bypassLatches_nil {p : Params} {d : Sdu} (apart : d.door.session = none) : bypassLatches p d = [] := by
  rw [bypassLatches, apart]

/-- R151: the DOORS entry in BYPASSED is the bypass CEILING. -/
theorem State.enterBypassed_drc (s : State) :
    s.enterBypassed.drc = (s.post .doors .ceiling s.params.bypassCeil.toNat 0xE5).drc := by
  unfold State.enterBypassed
  simp only [State.setDoor_frame, State.latchUnlocked_frame, State.latch_drc]
  exact State.post_drc_congr (by rfl) (by rfl) ..

/-- R151: what entering BYPASSED writes. -/
theorem State.enterBypassed_eq (s : State) : s.enterBypassed = { s with
    drc := (s.post .doors .ceiling s.params.bypassCeil.toNat 0xE5).drc
    sdu := { s.sdu with door := .bypassed, closeTimer := none, outputs := Vector.replicate 8 .closed }
    clp := s.enterBypassed.clp } := by
  obtain ⟨now, poweredAt, pending, amu, rtm, lpt, tnu, params, configured⟩ := s.enterBypassed_frame
  refine (State.eq_of_doors_frame now poweredAt pending amu rtm lpt params configured).trans ?_
  rw [State.enterBypassed_drc, State.enterBypassed_sdu, tnu]
  rfl

/-- R151: entering BYPASSED keeps what the fault set holds, and latches with room DOOR_BYPASS and the doors of the
session's side that are not locked. -/
theorem State.enterBypassed_latched (room : s.clp.faults.length + 1 + (bypassLatches s.params s.sdu).length ≤ 32) :
    (∀ code index, Latched code index s → Latched code index s.enterBypassed) ∧
    Latched .doorBypass 0 s.enterBypassed ∧
    ∀ d ∈ bypassLatches s.params s.sdu, Latched .doorUnlocked d.val s.enterBypassed := by
  have eq : s.enterBypassed = (((State.postBypass { s with sdu := s.sdu.shut }).latch .doorBypass 0).latchUnlocked
    (bypassLatches s.params s.sdu)).setDoor .bypassed := rfl
  have held : (State.postBypass { s with sdu := s.sdu.shut }).clp.faults = s.clp.faults := State.post_faults ..
  generalize State.postBypass { s with sdu := s.sdu.shut } = p at *
  have first := Clp.latch_latchings (codes := (· = .doorBypass)) rfl 0 p.amu.odometerMm p.clp
  have bypass : Latched .doorBypass 0 (p.latch .doorBypass 0) := Clp.latch_holds _ _ _ _ (.inl (by rw [held]; omega))
  change Latchings _ 1 p.clp.faults (p.latch .doorBypass 0).clp.faults at first
  rw [held] at first
  generalize p.latch .doorBypass 0 = m at *
  have length := first.length
  have further := State.latchUnlocked_latchings (bypassLatches s.params s.sdu) m
  have unlocked := State.latchUnlocked_latched (doors := bypassLatches s.params s.sdu) (s := m) (by omega)
  have told : s.enterBypassed.clp.faults = (m.latchUnlocked (bypassLatches s.params s.sdu)).clp.faults := by
    rw [eq, State.setDoor_faults]
  rw [← told] at further
  unfold Latched at unlocked
  rw [← told] at unlocked
  exact ⟨fun _ _ => further.latched ∘ first.latched, further.latched bypass, unlocked⟩

/-- R150, R151: what a door that unlocks in NONE with the switch ON leaves: UNSAFE, and in the same event BYPASSED. -/
theorem State.enterUnsafe_bypassed (on : s.sdu.bypass = true) :
    (s.enterUnsafe [door]).sdu = { s.sdu with
      door := .bypassed, closeTimer := none, outputs := Vector.replicate 8 .closed } ∧
    (s.enterUnsafe [door]).drc =
      ((s.post .doors .hold 0 0xE4).post .doors .ceiling s.params.bypassCeil.toNat 0xE5).drc ∧
    (s.clp.faults.length < 31 →
      Latched .doorUnlocked door.val (s.enterUnsafe [door]) ∧ Latched .doorBypass 0 (s.enterUnsafe [door])) := by
  have found := s.findUnsafe_finds [door]
  rw [State.enterUnsafe_on on]
  generalize s.findUnsafe [door] = m at *
  have none : bypassLatches m.params m.sdu = [] := bypassLatches_nil (by rw [found.sdu]; rfl)
  refine ⟨by rw [State.enterBypassed_eq, found.sdu], ?_, fun room => ?_⟩
  · rw [State.enterBypassed_drc, found.params]
    exact State.post_drc_congr found.drc (found.params.trans (by simp)) ..
  · have length : m.clp.faults.length ≤ s.clp.faults.length + 1 := found.faults.length
    obtain ⟨keeps, bypass, -⟩ := m.enterBypassed_latched (by rw [none, List.length_nil]; omega)
    exact ⟨keeps _ _ (found.latched (Nat.le_of_lt (Nat.succ_lt_succ room)) door (.head _)), bypass⟩

theorem State.returnToNone_faults (s : State) : s.returnToNone.clp.faults = s.clp.faults :=
  (State.setDoor_faults ..).trans (State.lift_faults ..)

theorem State.leaveBypassed_locked (locked : s.sdu.allLocked = true) :
    s.leaveBypassed = (s.clearFault .doorBypass 0).returnToNone := if_pos locked

theorem State.leaveBypassed_unlocked (unlocked : ¬ s.sdu.allLocked = true) :
    s.leaveBypassed = (s.clearFault .doorBypass 0).findUnsafe s.sdu.unlocked := if_neg unlocked

/-- R151: what leaving BYPASSED at the switch writes, tells the fault set and latches. -/
structure LeavesBypassed (s m : State) : Prop where
  blocks   : m = { s with drc := m.drc, sdu := { s.sdu with door := m.sdu.door }, clp := m.clp }
  inactive : Inactive .doorBypass 0 m.clp.faults
  locked   : (∀ d : Fin 8, s.sdu.locked[d] = true) → m.sdu.door = .none ∧ m.drc = (s.lift .doors).drc
  unlocked : (∃ d : Fin 8, s.sdu.locked[d] = false) → m.sdu.door = .unsafe_ ∧
    m.drc = (s.post .doors .hold 0 0xE4).drc ∧
    (s.clp.faults.length < 24 → ∀ d : Fin 8, s.sdu.locked[d] = false → Latched .doorUnlocked d.val m)

theorem State.leaveBypassed_leaves (s : State) : LeavesBypassed s s.leaveBypassed := by
  have told : Inactive .doorBypass 0 (s.clearFault .doorBypass 0).clp.faults := Clp.clearFault_inactive _ _ _
  obtain ⟨now, poweredAt, pending, amu, rtm, lpt, tnu, params, configured⟩ := s.leaveBypassed_frame
  have blocks := State.eq_of_doors_frame now poweredAt pending amu rtm lpt params configured
  rw [tnu] at blocks
  by_cases locked : s.sdu.allLocked = true
  · rw [State.leaveBypassed_locked locked] at blocks ⊢
    have sdu := (s.clearFault .doorBypass 0).returnToNone_sdu
    refine ⟨blocks.trans (by rw [sdu]; rfl), ?_, fun _ => ⟨by rw [sdu], ?_⟩,
      fun unlocked => absurd locked (Sdu.not_allLocked_iff.mpr unlocked)⟩
    · rw [State.returnToNone_faults]
      exact told
    · exact State.lift_drc_congr (by rfl) (by rfl) .doors
  · rw [State.leaveBypassed_unlocked locked] at blocks ⊢
    have found := (s.clearFault .doorBypass 0).findUnsafe_finds s.sdu.unlocked
    generalize (s.clearFault .doorBypass 0).findUnsafe s.sdu.unlocked = m at *
    refine ⟨blocks.trans (by rw [found.sdu]; rfl), found.faults.inactive (by simp) told,
      fun all => absurd (Sdu.allLocked_iff.mpr all) locked, fun _ => ⟨by rw [found.sdu], ?_, ?_⟩⟩
    · exact found.drc.trans (State.post_drc_congr (by rfl) (by rfl) ..)
    · intro room d level
      have length : (s.clearFault .doorBypass 0).clp.faults.length = s.clp.faults.length := List.length_map _
      refine found.latched ?_ d (mem_unlocked.mpr level)
      rw [length]
      exact Nat.add_le_add (Nat.le_of_lt room) (unlocked_length s.sdu)

/-! ## Door inputs (R142, R146, R149, R150) -/

theorem State.doorInput_same {locked : Bool} (same : s.sdu.locked[door] = locked) : s.doorInput door locked = s :=
  if_pos same

theorem State.doorInput_changed {locked : Bool} (changed : s.sdu.locked[door] ≠ locked) :
    s.doorInput door locked = (
      let taken : State := { s with sdu := { s.sdu with locked := s.sdu.locked.set door locked } }
      if !s.configured then taken else if locked then taken.doorLocks door else taken.doorUnlocks door) :=
  if_neg changed

theorem Sdu.allLocked_set {d : Sdu} {locked : Bool} :
    ({ d with locked := d.locked.set door locked } : Sdu).allLocked = true ↔
      locked = true ∧ ∀ i : Fin 8, i = door ∨ d.locked[i] = true := by
  rw [Sdu.allLocked_iff]
  have other : ∀ i : Fin 8, i ≠ door → (d.locked.set door locked)[i] = d.locked[i] := fun i ne =>
    Vector.getElem_set_ne _ _ (by simpa [Fin.ext_iff, eq_comm] using ne)
  have own : (d.locked.set door locked)[door] = locked := Vector.getElem_set_self _
  refine ⟨fun all => ⟨own.symm.trans (all door), fun i => or_iff_not_imp_left.mpr fun ne =>
    (other i ne).symm.trans (all i)⟩, fun ⟨taken, rest⟩ i => ?_⟩
  rcases rest i with rfl | level
  · exact own.trans taken
  · by_cases same : i = door
    · subst same
      exact own.trans taken
    · exact (other i same).trans level

theorem State.doorLocks_closing (closing : ∃ x, s.sdu.door = .closing x) (locked : s.sdu.allLocked = true) :
    s.doorLocks door = (s.clearFault .doorUnlocked door.val).completeClosing := by
  obtain ⟨x, closing⟩ := closing
  simp only [State.doorLocks, State.clearFault_sdu, closing]
  exact if_pos locked

theorem State.doorLocks_unsafe (unsafe_ : s.sdu.door = .unsafe_) (locked : s.sdu.allLocked = true) :
    s.doorLocks door = (s.clearFault .doorUnlocked door.val).returnToNone := by
  simp only [State.doorLocks, State.clearFault_sdu, unsafe_]
  exact if_pos locked

theorem State.doorLocks_otherwise (other : s.sdu.allLocked = false ∨ s.sdu.door = .none ∨ s.sdu.door = .bypassed ∨
      ∃ x, s.sdu.door = .released x) : s.doorLocks door = s.clearFault .doorUnlocked door.val := by
  rcases other with unlocked | none | bypassed | ⟨x, released⟩
  · simp only [State.doorLocks, State.clearFault_sdu, unlocked]
    split <;> rfl
  · simp only [State.doorLocks, State.clearFault_sdu, none]
  · simp only [State.doorLocks, State.clearFault_sdu, bypassed]
  · simp only [State.doorLocks, State.clearFault_sdu, released]

/-- R150: the condition of DOOR_UNLOCKED does not stand for a door that is taken as locked. -/
theorem State.doorLocks_inactive (door : Fin 8) (s : State) :
    Inactive .doorUnlocked door.val (s.doorLocks door).clp.faults := by
  have told : Inactive .doorUnlocked door.val (s.clearFault .doorUnlocked door.val).clp.faults :=
    Clp.clearFault_inactive _ _ _
  unfold State.doorLocks
  dsimp only
  split
  · split
    · exact (State.completeClosing_completes _).faults.inactive (by simp) told
    · exact told
  · split
    · rw [State.returnToNone_faults]
      exact told
    · exact told
  all_goals exact told

theorem State.doorUnlocks_none (none : s.sdu.door = .none) : s.doorUnlocks door = s.enterUnsafe [door] := by
  rw [State.doorUnlocks, none]

theorem State.doorUnlocks_own (session : s.sdu.door.session = some (doorSide s.params door)) :
    s.doorUnlocks door = s := by
  unfold State.doorUnlocks
  rcases DoorState.session_iff.mp session with released | closing
  · rw [released]
    exact if_pos rfl
  · rw [closing]
    exact if_pos rfl

theorem State.doorUnlocks_away (some : s.sdu.door ≠ .none)
    (away : s.sdu.door.session ≠ .some (doorSide s.params door)) :
    s.doorUnlocks door = s.latch .doorUnlocked door.val := by
  unfold State.doorUnlocks
  split
  · next none => exact absurd none some
  · next released => exact if_neg fun own => away (by rw [released, own]; rfl)
  · next closing => exact if_neg fun own => away (by rw [closing, own]; rfl)
  · rfl
  · rfl

/-! ## The bypass switch (R142, R151) -/

theorem State.bypassOn_idle (off : s.sdu.bypass = false)
    (idle : s.configured = false ∨ s.sdu.door = .none ∨ s.sdu.door = .bypassed) :
    s.bypassOn = { s with sdu := { s.sdu with bypass := true } } := by
  rcases idle with unconfigured | none | bypassed
  · simp [State.bypassOn, off, unconfigured]
  · simp [State.bypassOn, off, none]
  · simp [State.bypassOn, off, bypassed]

theorem State.bypassOn_enters (off : s.sdu.bypass = false) (configured : s.configured = true)
    (some : s.sdu.door ≠ .none) (apart : s.sdu.door ≠ .bypassed) :
    s.bypassOn = State.enterBypassed { s with sdu := { s.sdu with bypass := true } } := by
  simp only [State.bypassOn, off, configured]
  cases door : s.sdu.door with
  | none => exact absurd door some
  | bypassed => exact absurd door apart
  | released _ | closing _ | unsafe_ => rfl

theorem State.bypassOff_idle (on : s.sdu.bypass = true) (idle : s.configured = false ∨ s.sdu.door ≠ .bypassed) :
    s.bypassOff = { s with sdu := { s.sdu with bypass := false } } := by
  have stays : ¬(s.configured = true ∧ s.sdu.door = .bypassed) := fun ⟨configured, bypassed⟩ =>
    idle.elim (ne_false_of_eq_true configured) fun apart => apart bypassed
  exact (if_pos on).trans (if_neg stays)

theorem State.bypassOff_leaves (on : s.sdu.bypass = true) (configured : s.configured = true)
    (bypassed : s.sdu.door = .bypassed) :
    s.bypassOff = State.leaveBypassed { s with sdu := { s.sdu with bypass := false } } :=
  (if_pos on).trans (if_pos ⟨configured, bypassed⟩)

end Sys2Proof.Machine
end

section
/-! O48: the door inputs and the bypass switch (R142, R143, R146, R149 to R152). -/

namespace Sys2Proof.Machine

/-- Settles O48: a taken change is the transition of its door state. -/
theorem doorsAndBypass : Obligations.DoorsAndBypass := by
  refine ⟨?_, ?_⟩
  · intro t stood door locked last s s1 level lasting
    have taken : 40 ≤ stood → s.sdu.locked[door] ≠ locked → s.configured = true →
        exec (.doorInputChange t stood door locked) s =
          .next (if locked then s1.doorLocks door else s1.doorUnlocks door) := fun long changed configured =>
      congrArg Host.Outcome.next (ite_stood long ((State.doorInput_changed (s := s.atTime t) changed).trans
        ((if_neg (by simp [configured])).trans (level ▸ rfl))))
    refine ⟨fun idle => ?_, fun long changed unconfigured => ?_, fun long changed configured => ?_⟩
    · exact congrArg Host.Outcome.next (ite_unstood (idle.imp_right (State.doorInput_same (s := s.atTime t))))
    · exact congrArg Host.Outcome.next (ite_stood long ((State.doorInput_changed (s := s.atTime t) changed).trans
        ((if_pos (by simp [unconfigured])).trans level.symm)))
    replace taken := taken long changed configured
    have allLocked : last = s1.sdu.allLocked := by
      rw [Bool.eq_iff_iff, lasting, level, Sdu.allLocked_set]
    obtain ⟨clp, drc, tnu, params, state, bypass⟩ : s1.clp = s.clp ∧ s1.drc = s.drc ∧ s1.tnu = s.tnu ∧
        s1.params = s.params ∧ s1.sdu.door = s.sdu.door ∧ s1.sdu.bypass = s.sdu.bypass := by
      rw [level]
      exact ⟨rfl, rfl, rfl, rfl, rfl, rfl⟩
    have hold := State.post_drc_congr drc params .doors .hold 0 0xE4
    unfold HasRoom
    rw [← State.lift_drc_congr drc params, ← hold, ← clp, ← drc, ← tnu, ← params, ← state, ← bypass]
    cases locked with
    | true =>
      refine ⟨s1.doorLocks door, taken, ?_, fun _ => State.doorLocks_inactive door s1, fun all closing => ?_,
        fun all unsafe_ => ?_, fun _ other => ?_, nofun, nofun, nofun⟩
      · obtain ⟨now, poweredAt, pending, amu, rtm, lpt, params, configured⟩ := s1.doorLocks_frame door
        exact State.eq_of_doors_frame now poweredAt pending amu rtm lpt params configured
      · have done := (s1.clearFault .doorUnlocked door.val).completeClosing_completes
        rw [State.doorLocks_closing closing (allLocked.symm.trans all)]
        exact ⟨done.sdu, done.drc.trans (State.lift_drc_congr (by rfl) (by rfl) ..),
          done.tnu.trans (ite_congr rfl (fun _ => rfl) fun _ => State.sound_tnu_congr (by rfl) (by rfl) ..)⟩
      · rw [State.doorLocks_unsafe unsafe_ (allLocked.symm.trans all)]
        exact ⟨by simp, State.lift_drc_congr (by rfl) (by rfl) .doors, by simp⟩
      · rw [State.doorLocks_otherwise (allLocked ▸ other)]
        exact ⟨rfl, rfl, rfl, rfl⟩
    | false =>
      have unlast : ¬ last = true := fun all => Bool.false_ne_true (lasting.mp all).1
      have tones : (s1.doorUnlocks door).tnu = s1.tnu := by simp
      refine ⟨s1.doorUnlocks door, taken, ?_, nofun, fun all => absurd all unlast,
        fun all => absurd all unlast, nofun, fun _ calm off => ?_, fun _ calm on => ?_, fun _ apart => ?_⟩
      · obtain ⟨now, poweredAt, pending, amu, rtm, lpt, -, params, configured⟩ := s1.doorUnlocks_frame door
        exact State.eq_of_doors_frame now poweredAt pending amu rtm lpt params configured
      · have found := s1.findUnsafe_finds [door]
        rw [State.doorUnlocks_none calm, State.enterUnsafe_off off]
        exact ⟨found.sdu, found.drc, found.tnu,
          fun room => found.latched (Nat.le_of_lt (Nat.succ_lt_succ room)) door (.head _)⟩
      · obtain ⟨sdu, entry, latched⟩ := State.enterUnsafe_bypassed (door := door) on
        rw [State.doorUnlocks_none calm] at tones ⊢
        exact ⟨sdu, entry.trans (State.post_drc_congr hold (by simp [params]) ..), tones, latched⟩
      · by_cases own : s1.sdu.door.session = some (doorSide s1.params door)
        · rw [State.doorUnlocks_own own]
          exact ⟨rfl, rfl, rfl, fun _ => rfl, fun away => absurd own away⟩
        · rw [State.doorUnlocks_away apart own]
          exact ⟨rfl, rfl, rfl, fun same => absurd same own, fun _ room => Clp.latch_holds _ _ _ _ room⟩
  · intro t stood s
    refine ⟨fun idle => ?_, fun idle => ?_, fun long off calm => ?_, fun long on apart => ?_,
      fun long off configured some apart => ?_, fun long on configured bypassed => ?_⟩
    · exact congrArg Host.Outcome.next (ite_unstood (idle.imp_right fun on => if_pos on))
    · exact congrArg Host.Outcome.next (ite_unstood (idle.imp_right fun off => if_neg (ne_true_of_eq_false off)))
    · exact congrArg Host.Outcome.next (ite_stood long (State.bypassOn_idle (s := s.atTime t) off calm))
    · exact congrArg Host.Outcome.next (ite_stood long (State.bypassOff_idle (s := s.atTime t) on apart))
    · have enters := State.bypassOn_enters (s := s.atTime t) off configured some apart
      have length := bypassLatches_length s.params { s.sdu with bypass := true }
      have latched := State.enterBypassed_latched (s := { s.atTime t with sdu := { s.sdu with bypass := true } })
      have eq := State.enterBypassed_eq { s.atTime t with sdu := { s.sdu with bypass := true } }
      refine ⟨_, congrArg Host.Outcome.next (ite_stood long enters), eq.trans ?_, fun room => ?_⟩
      · rw [State.post_drc_congr (s := s) (by rfl) (by rfl)]
        rfl
      · obtain ⟨-, bypass, unlocked⟩ := latched (Nat.add_le_add room length)
        exact ⟨bypass, fun d session level => unlocked d (mem_bypassLatches session level)⟩
    · have turned := State.bypassOff_leaves (s := s.atTime t) on configured bypassed
      have leaves := State.leaveBypassed_leaves { s.atTime t with sdu := { s.sdu with bypass := false } }
      refine ⟨_, congrArg Host.Outcome.next (ite_stood long turned), leaves.blocks, leaves.inactive, fun locked => ?_,
        fun unlocked => ?_⟩
      · obtain ⟨door, drc⟩ := leaves.locked locked
        exact ⟨door, drc.trans (State.lift_drc_congr (by rfl) (by rfl) ..)⟩
      · obtain ⟨door, drc, latched⟩ := leaves.unlocked unlocked
        exact ⟨door, drc.trans (State.post_drc_congr (by rfl) (by rfl) ..), latched⟩

end Sys2Proof.Machine
end

section
/-! SUPPORT. Tone channels: the order of a queue (R165), what a channel holds beside its playing context, and when that
makes the channel sound (R155). -/

namespace Sys2Proof.Machine

/-! ## Keys and places -/

/-- R155: a request's key. -/
def Request.key (r : Request) : Source × Nat := (r.source, r.pattern)

/-- What the soundness of a channel reads of a request that plays or is saved: its key and its priority. -/
def Request.place (r : Request) : (Source × Nat) × Nat := (r.key, r.priority)

theorem Request.key_eq_iff {r : Request} {source : Source} {pattern : Nat} :
    r.key = (source, pattern) ↔ r.source = source ∧ r.pattern = pattern := Prod.mk.injEq .. |>.to_iff

theorem Request.hasKey_iff {r : Request} {source : Source} {pattern : Nat} :
    r.hasKey source pattern = true ↔ r.source = source ∧ r.pattern = pattern := by
  simp [Request.hasKey]

theorem Request.hasKey_iff_key {r q : Request} : r.hasKey q.source q.pattern = true ↔ r.key = q.key :=
  Request.hasKey_iff.trans Request.key_eq_iff.symm

/-- The keys that a channel holds beside that of its playing context. -/
def Channel.restKeys (c : Channel) : List (Source × Nat) :=
  c.stack.map (fun sv => sv.req.key) ++ c.queue.map Request.key

theorem Channel.keys_eq (c : Channel) : c.keys = c.playing.toList.map (fun p => p.saved.req.key) ++ c.restKeys :=
  List.append_assoc ..

theorem Channel.mem_restKeys {c : Channel} {k : Source × Nat} :
    k ∈ c.restKeys ↔ (∃ sv ∈ c.stack, sv.req.key = k) ∨ ∃ r ∈ c.queue, r.key = k := by
  simp [Channel.restKeys]

theorem Channel.mem_keys {c : Channel} {k : Source × Nat} :
    k ∈ c.keys ↔ (∃ p, c.playing = some p ∧ p.saved.req.key = k) ∨ (∃ sv ∈ c.stack, sv.req.key = k) ∨
      ∃ r ∈ c.queue, r.key = k := by
  rw [Channel.keys_eq, List.mem_append, Channel.mem_restKeys]
  simp

/-! ## The order of a queue -/

/-- R165: of two waiting requests the one nearer the head: that of the higher priority or, among equal ones, of the
lower arrival rank. -/
def Request.Before (q r : Request) : Prop := r.priority < q.priority ∨ r.priority = q.priority ∧ q.rank < r.rank

theorem Request.Before.trans {a b c : Request} (h : a.Before b) (h' : b.Before c) : a.Before c := by
  unfold Request.Before at *
  omega

theorem Request.before_of_not {q r : Request} (h : ¬ q.Before r) (apart : q.rank ≠ r.rank) : r.Before q := by
  unfold Request.Before at *
  omega

theorem place_cons (r q : Request) (l : List Request) [Decidable (q.Before r)] :
    place r (q :: l) = if q.Before r then q :: place r l else r :: q :: l :=
  if_congr (by unfold Request.Before; omega) rfl rfl

theorem place_perm (r : Request) (l : List Request) : (place r l).Perm (r :: l) := by
  induction l with
  | nil => exact .refl _
  | cons q l ih =>
    classical
    rw [place_cons]
    split
    · exact (ih.cons q).trans (.swap r q l)
    · exact .refl _

theorem mem_place {r q : Request} {l : List Request} : q ∈ place r l ↔ q = r ∨ q ∈ l :=
  (place_perm r l).mem_iff.trans List.mem_cons

theorem place_length (r : Request) (l : List Request) : (place r l).length = l.length + 1 := (place_perm r l).length_eq

/-- R165: a request of an arrival rank of its own is placed in order. -/
theorem place_pairwise {r : Request} {l : List Request} (order : l.Pairwise Request.Before)
    (apart : ∀ q ∈ l, q.rank ≠ r.rank) : (place r l).Pairwise Request.Before := by
  induction l with
  | nil => exact List.pairwise_singleton ..
  | cons q l ih =>
    obtain ⟨first, rest⟩ := List.pairwise_cons.mp order
    classical
    rw [place_cons]
    split
    · next before =>
      refine List.pairwise_cons.mpr ⟨fun x hx => ?_, ih rest fun x hx => apart x (.tail _ hx)⟩
      rcases mem_place.mp hx with rfl | hx
      · exact before
      · exact first x hx
    · next behind =>
      have ahead := Request.before_of_not behind (apart q (.head _))
      refine List.pairwise_cons.mpr ⟨fun x hx => ?_, order⟩
      rcases List.mem_cons.mp hx with rfl | hx
      · exact ahead
      · exact ahead.trans (first x hx)

/-- R165: a request is placed behind those that come before it. -/
theorem place_eq {r : Request} {l : List Request} (order : l.Pairwise Request.Before) {p : Request → Bool}
    (before : ∀ q ∈ l, p q = true ↔ q.Before r) :
    place r l = l.take (l.countP p) ++ r :: l.drop (l.countP p) := by
  induction l with
  | nil => rfl
  | cons q l ih =>
    obtain ⟨first, rest⟩ := List.pairwise_cons.mp order
    have tail := ih rest fun x hx => before x (.tail _ hx)
    classical
    rw [place_cons]
    by_cases ahead : q.Before r
    · rw [if_pos ahead, List.countP_cons_of_pos ((before q (.head _)).mpr ahead), tail]
      rfl
    · have none : (q :: l).countP p = 0 := by
        refine List.countP_eq_zero.mpr fun x hx hp => ahead ?_
        rcases List.mem_cons.mp hx with rfl | hx'
        · exact (before x hx).mp hp
        · exact (first x hx').trans ((before x hx).mp hp)
      rw [if_neg ahead, none]
      rfl

/-- The place of a request in its queue. -/
theorem idxOf_placed {r : Request} {l : List Request} (new : r ∉ l) {n : Nat} (le : n ≤ l.length) :
    (l.take n ++ r :: l.drop n).idxOf r = n := by
  rw [List.idxOf_append_of_notMem fun h => new (List.mem_of_mem_take h), List.idxOf_cons_self, List.length_take]
  omega

/-! ## What a channel holds beside its playing context -/

/-- R155, R165, R166: the soundness of the saved contexts and the waiting requests by themselves. -/
structure Channel.RestSound (c : Channel) : Prop where
  stackFits : c.stack.length ≤ 3
  queueFits : c.queue.length ≤ 6
  stack     : c.stack.Pairwise fun a b => b.req.priority < a.req.priority
  queue     : c.queue.Pairwise Request.Before
  keys      : c.restKeys.Nodup
  apart     : (c.queue.map fun r => r.rank).Nodup
  ranked    : ∀ r ∈ c.queue, r.rank < c.nextRank
  next      : c.nextRank ≤ 256

/-- A context of this key and priority may play on the channel. -/
structure Channel.Admits (c : Channel) (r : Request) : Prop where
  key     : r.key ∉ c.restKeys
  saved   : ∀ sv ∈ c.stack, sv.req.priority < r.priority
  waiting : ∀ q ∈ c.queue, q.priority ≤ r.priority

theorem ChannelSound.rest {c : Channel} (h : ChannelSound c) : c.RestSound where
  stackFits := h.stackFits
  queueFits := h.queueFits
  stack := h.stack
  queue := h.queue
  keys := (List.nodup_append.mp (c.keys_eq ▸ h.keys)).2.1
  apart := h.ranks.1
  ranked := h.ranks.2.1
  next := h.ranks.2.2

theorem ChannelSound.admits {c : Channel} (h : ChannelSound c) {p : Playing} (playing : c.playing = some p) :
    c.Admits p.saved.req where
  key mem := by
    have keys := h.keys
    rw [Channel.keys_eq, playing] at keys
    exact (List.nodup_cons.mp keys).1 mem
  saved := h.saved p playing
  waiting := h.waiting p playing

/-- R155: a channel that plays is sound when what it holds beside is, and admits what plays. -/
theorem Channel.RestSound.plays {c : Channel} (h : c.RestSound) {p : Playing} (playing : c.playing = some p)
    (admits : c.Admits p.saved.req) : ChannelSound c where
  stackFits := h.stackFits
  queueFits := h.queueFits
  stack := h.stack
  queue := h.queue
  keys := by
    rw [Channel.keys_eq, playing]
    exact List.nodup_cons.mpr ⟨admits.key, h.keys⟩
  ranks := ⟨h.apart, h.ranked, h.next⟩
  idle none := by simp [none] at playing
  saved q hq := by cases playing.symm.trans hq; exact admits.saved
  waiting q hq := by cases playing.symm.trans hq; exact admits.waiting

/-- R155: an idle channel is sound when it holds nothing. -/
theorem ChannelSound.of_idle {c : Channel} (playing : c.playing = none) (stack : c.stack = []) (queue : c.queue = [])
    (next : c.nextRank ≤ 256) : ChannelSound c := by
  constructor <;> simp [playing, stack, queue, next, Channel.keys]

/-- A channel that holds a part of what another holds beside its playing context, in the same order. -/
structure Channel.Part (d c : Channel) : Prop where
  stack    : d.stack.Sublist c.stack
  queue    : d.queue.Sublist c.queue
  nextRank : d.nextRank = c.nextRank

namespace Channel.Part

variable {c d : Channel} (part : d.Part c)
include part

theorem restKeys : d.restKeys.Sublist c.restKeys := (part.stack.map _).append (part.queue.map _)

theorem rest (h : c.RestSound) : d.RestSound where
  stackFits := part.stack.length_le.trans h.stackFits
  queueFits := part.queue.length_le.trans h.queueFits
  stack := h.stack.sublist part.stack
  queue := h.queue.sublist part.queue
  keys := h.keys.sublist part.restKeys
  apart := h.apart.sublist (part.queue.map _)
  ranked r hr := part.nextRank ▸ h.ranked r (part.queue.subset hr)
  next := part.nextRank ▸ h.next

theorem admits {r : Request} (h : c.Admits r) : d.Admits r where
  key mem := h.key (part.restKeys.subset mem)
  saved sv hsv := h.saved sv (part.stack.subset hsv)
  waiting q hq := h.waiting q (part.queue.subset hq)

theorem keys (playing : d.playing = c.playing) : d.keys.Sublist c.keys := by
  rw [Channel.keys_eq, Channel.keys_eq, playing]
  exact (List.Sublist.refl _).append part.restKeys

/-- A part of what a sound channel holds is sound with the same playing context. -/
theorem sound (h : ChannelSound c) (playing : d.playing = c.playing) : ChannelSound d := by
  cases hp : c.playing with
  | none =>
    obtain ⟨stack, queue⟩ := h.idle hp
    refine .of_idle (playing.trans hp) ?_ ?_ (part.nextRank ▸ h.rest.next)
    · exact List.sublist_nil.mp (stack ▸ part.stack)
    · exact List.sublist_nil.mp (queue ▸ part.queue)
  | some p => exact (part.rest h.rest).plays (playing.trans hp) (part.admits (h.admits hp))

end Channel.Part

/-- What the soundness of a channel reads of it. -/
def Channel.shape (c : Channel) :
    Option ((Source × Nat) × Nat) × List ((Source × Nat) × Nat) × List Request × Nat :=
  (c.playing.map fun p => p.saved.req.place, c.stack.map fun sv => sv.req.place, c.queue, c.nextRank)

theorem Channel.shape_eq_iff {c d : Channel} : d.shape = c.shape ↔
    (d.playing.map fun p => p.saved.req.place) = (c.playing.map fun p => p.saved.req.place) ∧
    (d.stack.map fun sv => sv.req.place) = (c.stack.map fun sv => sv.req.place) ∧ d.queue = c.queue ∧
    d.nextRank = c.nextRank := by
  simp [Channel.shape]

/-- R155: a channel of the same keys and priorities, queue and next arrival rank is as sound. -/
theorem ChannelSound.of_shape {c d : Channel} (h : ChannelSound c) (shape : d.shape = c.shape) : ChannelSound d := by
  obtain ⟨playing, stack, queue, next⟩ := Channel.shape_eq_iff.mp shape
  have placed : ∀ sv ∈ d.stack, ∃ sv' ∈ c.stack, sv'.req.place = sv.req.place := fun sv hsv =>
    List.mem_map.mp (stack ▸ List.mem_map_of_mem (f := fun sv : Saved => sv.req.place) hsv)
  have restKeys : d.restKeys = c.restKeys := by
    have keys := congrArg (List.map Prod.fst) stack
    rw [List.map_map, List.map_map] at keys
    exact congrArg₂ (· ++ ·) keys (congrArg _ queue)
  have rest : d.RestSound := by
    refine { h.rest with
      stackFits := ?_, stack := ?_, queueFits := queue ▸ h.queueFits, queue := queue ▸ h.queue
      keys := restKeys ▸ h.rest.keys, apart := queue ▸ h.rest.apart, ranked := queue ▸ next ▸ h.rest.ranked
      next := next ▸ h.rest.next }
    · have length := congrArg List.length stack
      rw [List.length_map, List.length_map] at length
      exact length ▸ h.stackFits
    · have order : (c.stack.map fun sv => sv.req.place).Pairwise fun a b => b.2 < a.2 := List.pairwise_map.mpr h.stack
      exact List.pairwise_map.mp (stack ▸ order)
  cases hp : c.playing with
  | none =>
    rw [hp] at playing
    obtain ⟨emptyStack, emptyQueue⟩ := h.idle hp
    refine .of_idle (Option.map_eq_none_iff.mp playing) ?_ (queue.trans emptyQueue) rest.next
    rw [emptyStack] at stack
    exact List.map_eq_nil_iff.mp stack
  | some p =>
    rw [hp] at playing
    obtain ⟨q, hq, place⟩ := Option.map_eq_some_iff.mp playing
    obtain ⟨key, priority⟩ := Prod.mk.inj place
    have admits := h.admits hp
    refine rest.plays hq ⟨?_, fun sv hsv => ?_, ?_⟩
    · rw [key, restKeys]
      exact admits.key
    · obtain ⟨sv', hsv', same⟩ := placed sv hsv
      rw [priority, ← (Prod.mk.inj same).2]
      exact admits.saved sv' hsv'
    · rw [priority, queue]
      exact admits.waiting

end Sys2Proof.Machine
end

section
/-! SUPPORT. What an end and an arrival do to a tone channel, one equation for each case (R163 to R168). -/

namespace Sys2Proof.Machine

variable {pat : Nat → Option Pattern} {now : Nat} {c : Channel}

/-! ## What plays after an end (R162, R166) -/

theorem advance_req {p : Option Pattern} {sv next : Saved} (h : advance p sv = some next) : next.req = sv.req := by
  unfold advance at h
  dsimp only at h
  split at h
  · cases h; rfl
  · split at h
    · cases h; rfl
    · split at h
      · cases h; rfl
      · cases h

/-- R166: of what a channel holds, nothing, the head of the queue or the top of the stack plays next. -/
theorem Channel.next_cases (c : Channel) : (c.stack = [] ∧ c.queue = []) ∨
    (∃ r rest, c.queue = r :: rest ∧ ∀ top ∈ c.stack.head?, top.req.priority < r.priority) ∨
    ∃ top below, c.stack = top :: below ∧ ∀ r ∈ c.queue.head?, r.priority ≤ top.req.priority := by
  cases hs : c.stack with
  | nil =>
    cases hq : c.queue with
    | nil => exact .inl ⟨rfl, rfl⟩
    | cons r rest => exact .inr (.inl ⟨r, rest, rfl, nofun⟩)
  | cons top below =>
    cases hq : c.queue with
    | nil => exact .inr (.inr ⟨top, below, rfl, nofun⟩)
    | cons r rest =>
      rcases Nat.lt_or_ge top.req.priority r.priority with lt | ge
      · exact .inr (.inl ⟨r, rest, rfl, by simpa using lt⟩)
      · exact .inr (.inr ⟨top, below, rfl, by simpa using ge⟩)

theorem Channel.chooseNext_idle (stack : c.stack = []) (queue : c.queue = []) (n : Nat) :
    c.chooseNext pat now n = ({ c with playing := none }, []) := by
  cases n <;> simp [Channel.chooseNext, Channel.queueFirst, stack, queue]

theorem Channel.chooseNext_queue {r : Request} {rest : List Request} (queue : c.queue = r :: rest)
    (above : ∀ top ∈ c.stack.head?, top.req.priority < r.priority) (n : Nat) :
    c.chooseNext pat now (n + 1) = ({ c with playing := some (start pat now r), queue := rest }, []) := by
  have first : c.queueFirst = true := by
    unfold Channel.queueFirst
    rw [queue]
    cases hs : c.stack with
    | nil => rfl
    | cons top below => exact decide_eq_true (above top (by simp [hs]))
  simp [Channel.chooseNext, first, queue]

section resumed
variable {top : Saved} {below : List Saved} (stack : c.stack = top :: below)
  (first : ∀ r ∈ c.queue.head?, r.priority ≤ top.req.priority) (n : Nat)
include stack first

theorem Channel.not_queueFirst : c.queueFirst = false := by
  unfold Channel.queueFirst
  rw [stack]
  cases hq : c.queue with
  | nil => rfl
  | cons r rest => exact decide_eq_false (Nat.not_lt.mpr (first r (by simp [hq])))

/-- R166: the top of the stack resumes with the time it was saved with. -/
theorem Channel.chooseNext_resumes (left : top.remaining ≠ 0) : c.chooseNext pat now (n + 1) =
    ({ c with playing := some { saved := top, since := now }, stack := below }, []) := by
  simp [Channel.chooseNext, Channel.not_queueFirst stack first, stack, left]

/-- R162: saved with no time left, it moves on to its next step or repeat. -/
theorem Channel.chooseNext_moves (left : top.remaining = 0) {next : Saved}
    (moves : advance (pat top.req.pattern) top = some next) : c.chooseNext pat now (n + 1) =
    ({ c with playing := some { saved := next, since := now }, stack := below }, []) := by
  simp [Channel.chooseNext, Channel.not_queueFirst stack first, stack, left, moves]

/-- R162: or it has completed, and the channel chooses again. -/
theorem Channel.chooseNext_completes (left : top.remaining = 0)
    (completes : advance (pat top.req.pattern) top = none) : c.chooseNext pat now (n + 1) =
    (({ c with stack := below }.chooseNext pat now n).1, ⟨.completed, top.req, min 15 (top.repeats + 1)⟩ ::
      ({ c with stack := below }.chooseNext pat now n).2) := by
  simp [Channel.chooseNext, Channel.not_queueFirst stack first, stack, left, completes]

/-- R162, R166: the top of the stack resumes in its own place, or leaves and the channel chooses again. -/
theorem Channel.chooseNext_stack : (∃ next : Saved, next.req = top.req ∧ c.chooseNext pat now (n + 1) =
      ({ c with playing := some { saved := next, since := now }, stack := below }, [])) ∨
    ∃ e, c.chooseNext pat now (n + 1) =
      (({ c with stack := below }.chooseNext pat now n).1,
        e :: ({ c with stack := below }.chooseNext pat now n).2) := by
  by_cases left : top.remaining = 0
  · cases moved : advance (pat top.req.pattern) top with
    | some next => exact .inl ⟨next, advance_req moved, Channel.chooseNext_moves stack first n left moved⟩
    | none => exact .inr ⟨_, Channel.chooseNext_completes stack first n left moved⟩
  · exact .inl ⟨top, rfl, Channel.chooseNext_resumes stack first n left⟩

end resumed

/-- R154, R155: the choice reaches neither the output nor the arrival ranks. -/
theorem Channel.chooseNext_frame (n : Nat) : ∀ c : Channel,
    (c.chooseNext pat now n).1.output = c.output ∧ (c.chooseNext pat now n).1.nextRank = c.nextRank := by
  induction n with
  | zero => exact fun _ => ⟨rfl, rfl⟩
  | succ n ih =>
    intro c
    rcases c.next_cases with ⟨stack, queue⟩ | ⟨r, rest, queue, above⟩ | ⟨top, below, stack, first⟩
    · rw [Channel.chooseNext_idle stack queue]
      exact ⟨rfl, rfl⟩
    · rw [Channel.chooseNext_queue queue above]
      exact ⟨rfl, rfl⟩
    · rcases Channel.chooseNext_stack (pat := pat) (now := now) stack first n with ⟨next, -, e⟩ | ⟨x, e⟩
      · rw [e]
        exact ⟨rfl, rfl⟩
      · rw [e]
        exact ih { c with stack := below }

/-- R162: where no saved context is out of time none completes as another ends. -/
theorem Channel.chooseNext_noExits (n : Nat) (c : Channel) (left : ∀ sv ∈ c.stack, sv.remaining ≠ 0) :
    (c.chooseNext pat now n).2 = [] := by
  cases n with
  | zero => rfl
  | succ n =>
    rcases c.next_cases with ⟨stack, queue⟩ | ⟨r, rest, queue, above⟩ | ⟨top, below, stack, first⟩
    · rw [Channel.chooseNext_idle stack queue]
    · rw [Channel.chooseNext_queue queue above]
    · rw [Channel.chooseNext_resumes stack first n (left top (by simp [stack]))]

/-- R166: the head of the queue plays above the stack. -/
theorem Channel.RestSound.playHead (h : c.RestSound) {r : Request} {rest : List Request} (queue : c.queue = r :: rest)
    (above : ∀ top ∈ c.stack.head?, top.req.priority < r.priority) :
    ChannelSound { c with playing := some (start pat now r), queue := rest } := by
  have part : Channel.Part { c with playing := some (start pat now r), queue := rest } c :=
    ⟨.refl _, queue ▸ List.sublist_cons_self r rest, rfl⟩
  have order := h.queue
  rw [queue, List.pairwise_cons] at order
  have keys := h.keys
  rw [Channel.restKeys, queue, List.map_cons, List.nodup_middle, List.nodup_cons] at keys
  refine (part.rest h).plays rfl ⟨keys.1, fun sv hsv => ?_, fun q hq => ?_⟩
  · have saved := h.stack
    change sv ∈ c.stack at hsv
    cases hs : c.stack with
    | nil => rw [hs] at hsv; cases hsv
    | cons top below =>
      have lt := above top (by simp [hs])
      rw [hs] at hsv saved
      rcases List.mem_cons.mp hsv with rfl | deeper
      · exact lt
      · exact ((List.pairwise_cons.mp saved).1 sv deeper).trans lt
  · exact (order.1 q hq).elim Nat.le_of_lt fun same => same.1.le

/-- R166: the top of the stack plays, at whatever step, at or above the queue. -/
theorem Channel.RestSound.playTop (h : c.RestSound) {top next : Saved} {below : List Saved}
    (stack : c.stack = top :: below) (first : ∀ r ∈ c.queue.head?, r.priority ≤ top.req.priority)
    (same : next.req = top.req) :
    ChannelSound { c with playing := some { saved := next, since := now }, stack := below } := by
  have part : Channel.Part { c with playing := some { saved := next, since := now }, stack := below } c :=
    ⟨stack ▸ List.sublist_cons_self top below, .refl _, rfl⟩
  have saved := h.stack
  rw [stack, List.pairwise_cons] at saved
  have keys := h.keys
  rw [Channel.restKeys, stack] at keys
  refine (part.rest h).plays rfl ?_
  dsimp only
  rw [same]
  refine ⟨(List.nodup_cons.mp keys).1, saved.1, fun q hq => ?_⟩
  change q ∈ c.queue at hq
  have order := h.queue
  cases hq' : c.queue with
  | nil => rw [hq'] at hq; cases hq
  | cons r rest =>
    have le := first r (by simp [hq'])
    rw [hq'] at hq order
    rcases List.mem_cons.mp hq with rfl | later
    · exact le
    · exact (((List.pairwise_cons.mp order).1 q later).elim Nat.le_of_lt fun same => same.1.le).trans le

/-- R166: what plays next leaves the channel sound, whatever ended. -/
theorem Channel.RestSound.chooseNext (n : Nat) : ∀ {c : Channel}, c.RestSound → c.stack.length < n →
    ChannelSound (c.chooseNext pat now n).1 := by
  induction n with
  | zero => exact fun _ short => absurd short (Nat.not_lt_zero _)
  | succ n ih =>
    intro c h short
    rcases c.next_cases with ⟨stack, queue⟩ | ⟨r, rest, queue, above⟩ | ⟨top, below, stack, first⟩
    · rw [Channel.chooseNext_idle stack queue]
      exact .of_idle rfl stack queue h.next
    · rw [Channel.chooseNext_queue queue above]
      exact h.playHead queue above
    · rcases Channel.chooseNext_stack (pat := pat) (now := now) stack first n with ⟨next, same, e⟩ | ⟨x, e⟩
      · rw [e]
        exact h.playTop stack first same
      · rw [e]
        have part : Channel.Part { c with stack := below } c :=
          ⟨stack ▸ List.sublist_cons_self top below, .refl _, rfl⟩
        rw [stack] at short
        exact ih (part.rest h) (Nat.lt_of_succ_lt_succ short)

theorem Channel.RestSound.endPlaying (h : c.RestSound) : ChannelSound (c.endPlaying pat now).1 :=
  h.chooseNext _ (Nat.lt_succ_self _)

/-! ## The removal of a key (R167) -/

variable {source : Source} {pattern : Nat}

theorem Channel.plays_iff : (c.playing.map fun p => p.saved.req.hasKey source pattern) = some true ↔
    ∃ p, c.playing = some p ∧ p.saved.req.source = source ∧ p.saved.req.pattern = pattern := by
  simp only [Option.map_eq_some_iff, Request.hasKey_iff]

theorem Channel.remove_playing {p : Playing} (playing : c.playing = some p)
    (key : p.saved.req.source = source ∧ p.saved.req.pattern = pattern) :
    c.remove pat now source pattern = c.endPlaying pat now :=
  if_pos (Channel.plays_iff.mpr ⟨p, playing, key⟩)

theorem Channel.remove_otherwise
    (other : ∀ p, c.playing = some p → ¬ (p.saved.req.source = source ∧ p.saved.req.pattern = pattern)) :
    c.remove pat now source pattern = ({ c with
      stack := c.stack.filter fun sv => !sv.req.hasKey source pattern
      queue := c.queue.filter fun r => !r.hasKey source pattern }, []) :=
  if_neg fun plays => by
    obtain ⟨p, playing, key⟩ := Channel.plays_iff.mp plays
    exact other p playing key

theorem Channel.remove_frame : (c.remove pat now source pattern).1.output = c.output ∧
    (c.remove pat now source pattern).1.nextRank = c.nextRank := by
  unfold Channel.remove
  dsimp only
  split
  · exact Channel.chooseNext_frame _ c
  · exact ⟨rfl, rfl⟩

theorem ChannelSound.remove (h : ChannelSound c) : ChannelSound (c.remove pat now source pattern).1 := by
  unfold Channel.remove
  dsimp only
  split
  · exact h.rest.endPlaying
  · exact Channel.Part.sound ⟨List.filter_sublist, List.filter_sublist, rfl⟩ h rfl

/-! ## The next arrival rank (R155) -/

/-- R155: the arrival rank that the next new request takes, and the queue as it then stands. -/
def Channel.freshRank (c : Channel) : Nat := if c.nextRank ≤ 255 then c.nextRank else c.queue.length
def Channel.rankedQueue (c : Channel) : List Request :=
  if c.nextRank ≤ 255 then c.queue else c.queue.mapIdx fun i q => { q with rank := i }

theorem Channel.rankNext_eq (c : Channel) :
    c.rankNext = (c.freshRank, { c with queue := c.rankedQueue, nextRank := c.freshRank + 1 }) := by
  unfold Channel.rankNext Channel.freshRank Channel.rankedQueue
  split <;> rfl

theorem mem_renumber {q : Request} {l : List Request} : q ∈ renumber l →
    ∃ i, i < l.length ∧ ∃ old ∈ l, q = { old with rank := i } := by
  intro h
  obtain ⟨i, hi, rfl⟩ := List.mem_mapIdx.mp h
  exact ⟨i, hi, l[i], List.getElem_mem hi, rfl⟩

theorem renumber_ranks (l : List Request) : (renumber l).map (fun r => r.rank) = List.range l.length := by
  refine List.ext_getElem (by simp [renumber]) fun i _ _ => ?_
  simp [renumber]

theorem renumber_keys (l : List Request) : (renumber l).map Request.key = l.map Request.key := by
  refine List.ext_getElem (by simp [renumber]) fun i _ _ => ?_
  simp [renumber, Request.key]

theorem renumber_pairwise {l : List Request} (order : l.Pairwise Request.Before) :
    (renumber l).Pairwise Request.Before := by
  rw [List.pairwise_iff_getElem] at order ⊢
  intro i j hi hj lt
  simp only [renumber, List.length_mapIdx] at hi hj
  have before := order i j hi hj lt
  simp only [renumber, List.getElem_mapIdx]
  unfold Request.Before at *
  dsimp only
  omega

theorem Channel.rankedQueue_length (c : Channel) : c.rankedQueue.length = c.queue.length := by
  unfold Channel.rankedQueue
  split <;> simp

/-- R155: the new arrival rank comes behind all ranks of the queue. -/
theorem ChannelSound.rank_lt (h : ChannelSound c) {q : Request} (mem : q ∈ c.rankedQueue) : q.rank < c.freshRank := by
  unfold Channel.rankedQueue at mem
  unfold Channel.freshRank
  split at mem
  · next low =>
    rw [if_pos low]
    exact h.rest.ranked q mem
  · next high =>
    rw [if_neg high]
    obtain ⟨i, hi, old, -, rfl⟩ := mem_renumber mem
    exact hi

/-- R155: a sound channel is sound once its next arrival rank has been taken. -/
theorem ChannelSound.rankNext (h : ChannelSound c) : ChannelSound c.rankNext.2 ∧ c.rankNext.2.keys = c.keys := by
  unfold Channel.rankNext
  split
  · next low =>
    refine ⟨?_, rfl⟩
    have rest : Channel.RestSound { c with nextRank := c.nextRank + 1 } :=
      { h.rest with
        ranked := fun r hr => (h.rest.ranked r hr).trans (Nat.lt_succ_self _)
        next := Nat.succ_le_succ low }
    cases hp : c.playing with
    | none => exact .of_idle rfl (h.idle hp).1 (h.idle hp).2 rest.next
    | some p =>
      obtain ⟨key, saved, waiting⟩ := h.admits hp
      exact hp ▸ rest.plays hp ⟨key, saved, waiting⟩
  · have restKeys :
        Channel.restKeys { c with queue := renumber c.queue, nextRank := c.queue.length + 1 } = c.restKeys :=
      congrArg (_ ++ ·) (renumber_keys c.queue)
    refine ⟨?_, ?_⟩
    · have fits := h.queueFits
      have rest : Channel.RestSound { c with queue := renumber c.queue, nextRank := c.queue.length + 1 } :=
        { h.rest with
          queueFits := (by simpa [renumber] using fits), queue := renumber_pairwise h.rest.queue
          keys := restKeys ▸ h.rest.keys, apart := renumber_ranks c.queue ▸ List.nodup_range
          ranked := fun r hr => by
            obtain ⟨i, hi, -, -, rfl⟩ := mem_renumber hr
            exact hi.trans (Nat.lt_succ_self _)
          next := by dsimp only; omega }
      cases hp : c.playing with
      | none =>
        refine .of_idle rfl (h.idle hp).1 ?_ rest.next
        simp [(h.idle hp).2, renumber]
      | some p =>
        obtain ⟨key, saved, waiting⟩ := h.admits hp
        refine hp ▸ rest.plays hp ⟨restKeys ▸ key, saved, fun q hq => ?_⟩
        obtain ⟨-, -, old, mem, rfl⟩ := mem_renumber hq
        exact waiting old mem
    · rw [Channel.keys_eq, restKeys, Channel.keys_eq]

/-! ## What plays or waits (R164, R165) -/

variable {r : Request}

theorem Channel.playOrWait_idle (playing : c.playing = none) : c.playOrWait pat now r =
    { channel := { c with playing := some (start pat now r) }, outcome := .started, dropped := none
      displaced := none } := by
  simp only [Channel.playOrWait, playing]

section
variable {p : Playing} (playing : c.playing = some p)
include playing

theorem Channel.playOrWait_preempts (above : p.saved.req.priority < r.priority) : c.playOrWait pat now r =
    { channel := { c with
        playing := some (start pat now r)
        stack := p.freeze now :: (if 3 ≤ c.stack.length then c.stack.dropLast else c.stack) }
      outcome := .started, dropped := if 3 ≤ c.stack.length then c.stack.getLast? else none
      displaced := none } := by
  simp only [Channel.playOrWait, playing, if_pos above]
  rfl

theorem Channel.playOrWait_waits (low : r.priority ≤ p.saved.req.priority) (room : c.queue.length < 6) :
    c.playOrWait pat now r =
      { channel := { c with queue := place r c.queue }, outcome := .waiting ((place r c.queue).idxOf r), dropped := none
        displaced := none } := by
  simp only [Channel.playOrWait, playing, if_neg (Nat.not_lt.mpr low), Config.queueSlots, if_pos room]

theorem Channel.playOrWait_displaces (low : r.priority ≤ p.saved.req.priority) (full : c.queue.length = 6)
    {last : Request} (tail : c.queue.getLast? = some last) (lower : last.priority < r.priority) :
    c.playOrWait pat now r =
      { channel := { c with queue := place r c.queue.dropLast }
        outcome := .waiting ((place r c.queue.dropLast).idxOf r), dropped := none, displaced := some last } := by
  simp only [Channel.playOrWait, playing, if_neg (Nat.not_lt.mpr low), Config.queueSlots, full, Nat.lt_irrefl, if_false,
    tail, if_pos lower]

theorem Channel.playOrWait_discards (low : r.priority ≤ p.saved.req.priority) (full : c.queue.length = 6)
    (none : ∀ last, c.queue.getLast? = some last → r.priority ≤ last.priority) : c.playOrWait pat now r =
      { channel := c, outcome := .full, dropped := .none, displaced := .none } := by
  simp only [Channel.playOrWait, playing, if_neg (Nat.not_lt.mpr low), Config.queueSlots, full, Nat.lt_irrefl, if_false]
  cases tail : c.queue.getLast? with
  | none => rfl
  | some last => exact if_neg (Nat.not_lt.mpr (none last tail))

end

/-- R164: what plays goes on top of the stack, the oldest of a full stack leaving it. -/
theorem Channel.RestSound.push (h : c.RestSound) {sv : Saved} (admits : c.Admits sv.req) (p : Option Playing) :
    Channel.RestSound { c with
      playing := p, stack := sv :: (if 3 ≤ c.stack.length then c.stack.dropLast else c.stack) } := by
  have part : Channel.Part { c with stack := if 3 ≤ c.stack.length then c.stack.dropLast else c.stack } c := by
    refine ⟨?_, .refl _, rfl⟩
    dsimp only
    split
    · exact List.dropLast_sublist _
    · exact .refl _
  have fits := h.stackFits
  refine { h with stackFits := ?_, stack := ?_, keys := ?_ }
  · dsimp only
    rw [List.length_cons]
    split
    · rw [List.length_dropLast]
      omega
    · omega
  · exact List.pairwise_cons.mpr ⟨(part.admits admits).saved, (part.rest h).stack⟩
  · exact List.nodup_cons.mpr ⟨(part.admits admits).key, (part.rest h).keys⟩

/-- R165: a request of a key and an arrival rank of its own joins a queue with room in its place. -/
theorem Channel.RestSound.place (h : c.RestSound) (room : c.queue.length < 6) (key : r.key ∉ c.restKeys)
    (apart : ∀ q ∈ c.queue, q.rank ≠ r.rank) (ranked : r.rank < c.nextRank) :
    Channel.RestSound { c with queue := Machine.place r c.queue } := by
  have perm := place_perm r c.queue
  refine { h with queueFits := ?_, queue := place_pairwise h.queue apart, keys := ?_, apart := ?_, ranked := ?_ }
  · exact (place_length r c.queue).trans_le room
  · refine ((perm.map Request.key).append_left _).nodup_iff.mpr ?_
    exact List.nodup_middle.mpr (List.nodup_cons.mpr ⟨key, h.keys⟩)
  · refine (perm.map _).nodup_iff.mpr (List.nodup_cons.mpr ⟨fun mem => ?_, h.apart⟩)
    obtain ⟨q, hq, same⟩ := List.mem_map.mp mem
    exact apart q hq same
  · intro q hq
    rcases mem_place.mp hq with rfl | old
    · exact ranked
    · exact h.ranked q old

/-- R164: a request of a key of its own plays above what played. -/
theorem ChannelSound.preempt (h : ChannelSound c) {p : Playing} (playing : c.playing = some p) (key : r.key ∉ c.keys)
    (above : p.saved.req.priority < r.priority) : ChannelSound { c with
      playing := some (start pat now r)
      stack := p.freeze now :: (if 3 ≤ c.stack.length then c.stack.dropLast else c.stack) } := by
  have admits := h.admits playing
  have kept : ∀ sv ∈ (if 3 ≤ c.stack.length then c.stack.dropLast else c.stack), sv ∈ c.stack := by
    intro sv mem
    split at mem
    · exact List.mem_of_mem_dropLast mem
    · exact mem
  rw [Channel.mem_keys, not_or, not_or] at key
  obtain ⟨unplayed, unsaved, unqueued⟩ := key
  refine (h.rest.push (sv := p.freeze now) admits _).plays rfl ⟨fun mem => ?_, fun sv hsv => ?_, fun q hq => ?_⟩
  · rcases Channel.mem_restKeys.mp mem with ⟨sv, hsv, same⟩ | ⟨q, hq, same⟩
    · rcases List.mem_cons.mp hsv with rfl | saved
      · exact unplayed ⟨p, playing, same⟩
      · exact unsaved ⟨sv, kept sv saved, same⟩
    · exact unqueued ⟨q, hq, same⟩
  · rcases List.mem_cons.mp hsv with rfl | saved
    · exact above
    · exact (admits.saved sv (kept sv saved)).trans above
  · exact (admits.waiting q hq).trans above.le

/-- R165: a request of a key and an arrival rank of its own waits at or below what plays. -/
theorem ChannelSound.enqueue (h : ChannelSound c) {p : Playing} (playing : c.playing = some p) (key : r.key ∉ c.keys)
    (apart : ∀ q ∈ c.queue, q.rank ≠ r.rank) (ranked : r.rank < c.nextRank) (low : r.priority ≤ p.saved.req.priority)
    (room : c.queue.length < 6) : ChannelSound { c with queue := place r c.queue } := by
  have admits := h.admits playing
  rw [Channel.keys_eq, playing] at key
  have other : r.key ≠ p.saved.req.key := fun same => key (same ▸ .head _)
  refine (h.rest.place room (fun mem => key (.tail _ mem)) apart ranked).plays playing
    ⟨fun mem => ?_, admits.saved, fun q hq => ?_⟩
  · have grown : p.saved.req.key ∈ r.key :: c.restKeys :=
      List.perm_middle.mem_iff.mp ((((place_perm r c.queue).map Request.key).append_left _).mem_iff.mp mem)
    exact (List.mem_cons.mp grown).elim (fun same => other same.symm) admits.key
  · rcases mem_place.mp hq with rfl | old
    · exact low
    · exact admits.waiting q old

/-- R164, R165: a request of a key and an arrival rank of its own leaves the channel sound. -/
theorem ChannelSound.playOrWait (h : ChannelSound c) (key : r.key ∉ c.keys)
    (apart : ∀ q ∈ c.queue, q.rank ≠ r.rank) (ranked : r.rank < c.nextRank) :
    ChannelSound (c.playOrWait pat now r).channel := by
  cases playing : c.playing with
  | none =>
    obtain ⟨stack, queue⟩ := h.idle playing
    rw [Channel.playOrWait_idle playing]
    have part : Channel.Part { c with playing := some (start pat now r) } c := ⟨.refl _, .refl _, rfl⟩
    rw [Channel.keys_eq, List.mem_append, not_or] at key
    exact (part.rest h.rest).plays rfl ⟨key.2, by simp [stack], by simp [queue]⟩
  | some p =>
    rcases Nat.lt_or_ge p.saved.req.priority r.priority with above | low
    · rw [Channel.playOrWait_preempts playing above]
      exact h.preempt playing key above
    · rcases Nat.lt_or_eq_of_le h.queueFits with room | full
      · rw [Channel.playOrWait_waits playing low room]
        exact h.enqueue playing key apart ranked low room
      · by_cases lower : ∃ last, c.queue.getLast? = some last ∧ last.priority < r.priority
        · obtain ⟨last, tail, lower⟩ := lower
          rw [Channel.playOrWait_displaces playing low full tail lower]
          have part : Channel.Part { c with queue := c.queue.dropLast } c :=
            ⟨.refl _, List.dropLast_sublist _, rfl⟩
          refine (part.sound h rfl).enqueue playing (fun mem => key ((part.keys rfl).subset mem))
            (fun q hq => apart q (part.queue.subset hq)) ranked low ?_
          rw [List.length_dropLast, full]
          decide
        · rw [Channel.playOrWait_discards playing low full fun last tail =>
            Nat.not_lt.mp fun lt => lower ⟨last, tail, lt⟩]
          exact h

/-! ## An arrival (R163) -/

/-- R163: the request that plays takes the mode. -/
theorem Channel.arrive_playing {p : Playing} (playing : c.playing = some p)
    (key : p.saved.req.source = r.source ∧ p.saved.req.pattern = r.pattern) : c.arrive pat now r =
      { channel := { c with playing := some { p with saved := p.saved.withMode r.mode } }
        outcome := .updated, dropped := none, displaced := none } :=
  (if_pos (Channel.plays_iff.mpr ⟨p, playing, key⟩)).trans (by rw [playing]; rfl)

section
variable (other : ∀ p, c.playing = some p → ¬ (p.saved.req.source = r.source ∧ p.saved.req.pattern = r.pattern))
include other

theorem Channel.not_plays : ¬ (c.playing.map fun p => p.saved.req.hasKey r.source r.pattern) = some true :=
    fun plays => by
  obtain ⟨p, playing, key⟩ := Channel.plays_iff.mp plays
  exact other p playing key

theorem Channel.arrive_saved {sv : Saved} (mem : sv ∈ c.stack)
    (key : sv.req.source = r.source ∧ sv.req.pattern = r.pattern) : c.arrive pat now r =
      { channel := { c with stack := c.stack.map (Saved.update (Request.hasKey r.source r.pattern) r.mode) }
        outcome := .updated, dropped := none, displaced := none } :=
  (if_neg (Channel.not_plays other)).trans (if_pos (List.any_eq_true.mpr ⟨sv, mem, Request.hasKey_iff.mpr key⟩))

variable (unsaved : ∀ sv ∈ c.stack, ¬ (sv.req.source = r.source ∧ sv.req.pattern = r.pattern))
include unsaved

theorem Channel.arrive_beyond : c.arrive pat now r = match c.queue.find? (Request.hasKey r.source r.pattern) with
    | some old => ({ c with queue := c.queue.filter fun q => !q.hasKey r.source r.pattern } : Channel).playOrWait
        pat now { r with rank := old.rank }
    | none => c.rankNext.2.playOrWait pat now { r with rank := c.rankNext.1 } := by
  have saved : ¬ (c.stack.any fun sv => sv.req.hasKey r.source r.pattern) = true := fun saved => by
    obtain ⟨sv, mem, key⟩ := List.any_eq_true.mp saved
    exact unsaved sv mem (Request.hasKey_iff.mp key)
  exact (if_neg (Channel.not_plays other)).trans (if_neg saved)

/-- R163: a waiting request is replaced, and keeps its arrival rank. -/
theorem Channel.arrive_waiting {old : Request}
    (found : c.queue.find? (Request.hasKey r.source r.pattern) = some old) : c.arrive pat now r =
      ({ c with queue := c.queue.filter fun q => !q.hasKey r.source r.pattern } : Channel).playOrWait pat now
        { r with rank := old.rank } := by
  rw [Channel.arrive_beyond other unsaved, found]

/-- R155: a request of a new key takes the next arrival rank. -/
theorem Channel.arrive_new (new : c.queue.find? (Request.hasKey r.source r.pattern) = none) : c.arrive pat now r =
    ({ c with queue := c.rankedQueue, nextRank := c.freshRank + 1 } : Channel).playOrWait pat now
      { r with rank := c.freshRank } := by
  rw [Channel.arrive_beyond other unsaved, new, Channel.rankNext_eq]

end

theorem Saved.update_place (key : Request → Bool) (m : Mode) (sv : Saved) :
    (Saved.update key m sv).req.place = sv.req.place := by
  unfold Saved.update
  split <;> rfl

/-- R163: an arrival updates a context of its key, all keys and priorities standing, or there is none. -/
theorem Channel.arrive_cases (pat : Nat → Option Pattern) (now : Nat) (r : Request) (c : Channel) :
    (c.arrive pat now r).channel.shape = c.shape ∨
      (∀ p, c.playing = some p → ¬ (p.saved.req.source = r.source ∧ p.saved.req.pattern = r.pattern)) ∧
      ∀ sv ∈ c.stack, ¬ (sv.req.source = r.source ∧ sv.req.pattern = r.pattern) := by
  by_cases plays : ∃ p, c.playing = some p ∧ p.saved.req.source = r.source ∧ p.saved.req.pattern = r.pattern
  · obtain ⟨p, playing, key⟩ := plays
    rw [Channel.arrive_playing playing key]
    exact .inl (Channel.shape_eq_iff.mpr ⟨by rw [playing]; rfl, rfl, rfl, rfl⟩)
  · have other : ∀ p, c.playing = some p → ¬ (p.saved.req.source = r.source ∧ p.saved.req.pattern = r.pattern) :=
      fun p playing key => plays ⟨p, playing, key⟩
    by_cases saved : ∃ sv ∈ c.stack, sv.req.source = r.source ∧ sv.req.pattern = r.pattern
    · obtain ⟨sv, mem, key⟩ := saved
      rw [Channel.arrive_saved other mem key]
      refine .inl (Channel.shape_eq_iff.mpr ⟨rfl, ?_, rfl, rfl⟩)
      rw [List.map_map]
      exact List.map_congr_left fun sv _ => Saved.update_place _ _ sv
    · exact .inr ⟨other, fun sv mem key => saved ⟨sv, mem, key⟩⟩

/-- R163 to R165: an arrival leaves a sound channel sound. -/
theorem ChannelSound.arrive (h : ChannelSound c) : ChannelSound (c.arrive pat now r).channel := by
  rcases c.arrive_cases pat now r with updated | ⟨other, unsaved⟩
  · exact h.of_shape updated
  have unheld : (∀ q ∈ c.queue, q.key ≠ r.key) → r.key ∉ c.keys := by
    rintro unqueued mem
    rcases Channel.mem_keys.mp mem with ⟨p, playing, same⟩ | ⟨sv, hsv, same⟩ | ⟨q, hq, same⟩
    · exact other p playing (Request.key_eq_iff.mp same)
    · exact unsaved sv hsv (Request.key_eq_iff.mp same)
    · exact unqueued q hq same
  cases found : c.queue.find? (Request.hasKey r.source r.pattern) with
  | some old =>
    have mem := List.mem_of_find?_eq_some found
    have oldKey : old.hasKey r.source r.pattern = true := List.find?_some found
    have part : Channel.Part { c with queue := c.queue.filter fun q => !q.hasKey r.source r.pattern } c :=
      ⟨.refl _, List.filter_sublist, rfl⟩
    have rekeyed : ∀ q ∈ c.queue.filter (fun q => !q.hasKey r.source r.pattern), ¬ q.hasKey r.source r.pattern = true :=
      fun q hq => by simpa using (List.mem_filter.mp hq).2
    rw [Channel.arrive_waiting other unsaved found]
    refine (part.sound h rfl).playOrWait (fun held => ?_) (fun q hq same => rekeyed q hq ?_) (h.rest.ranked old mem)
    · rcases Channel.mem_keys.mp held with ⟨p, playing, same⟩ | ⟨sv, hsv, same⟩ | ⟨q, hq, same⟩
      · exact other p playing (Request.key_eq_iff.mp same)
      · exact unsaved sv hsv (Request.key_eq_iff.mp same)
      · exact rekeyed q hq (Request.hasKey_iff_key.mpr same)
    · rwa [List.inj_on_of_nodup_map h.rest.apart (part.queue.subset hq) mem same]
  | none =>
    obtain ⟨sound, keys⟩ := h.rankNext
    rw [Channel.rankNext_eq] at sound keys
    rw [Channel.arrive_new other unsaved found]
    refine sound.playOrWait ?_ (fun q hq => (h.rank_lt hq).ne) (Nat.lt_succ_self _)
    rw [keys]
    exact unheld fun q hq same => List.find?_eq_none.mp found q hq (Request.hasKey_iff_key.mpr same)

end Sys2Proof.Machine
end

section
/-! O8: the tone channels over every command. -/

namespace Sys2Proof.Machine

/-! ## The Tone Unit in the state -/

/-- R163, R169: a request that arrives, by what it does to its channel. -/
theorem State.requestSound_eq (ch : ChannelId) (r : Request) (s : State) : s.requestSound ch r =
    (s.arrived ch ((s.tnu.channel ch).arrive s.tnu.pattern s.now r),
      ((s.tnu.channel ch).arrive s.tnu.pattern s.now r).outcome) := rfl

theorem State.arrived_tnu (ch : ChannelId) (a : Arrival) (s : State) :
    (s.arrived ch a).tnu = (s.setChannel ch a.channel).tnu := by
  unfold State.arrived
  dsimp only
  (repeat' split) <;> simp

theorem State.endSound_tnu (ch : ChannelId) (source : Source) (pattern : Nat) (s : State) :
    (s.endSound ch source pattern).tnu =
      (s.setChannel ch ((s.tnu.channel ch).remove s.tnu.pattern s.now source pattern).1).tnu := by
  simp [State.endSound, State.channel]

theorem State.setChannel_channel (ch : ChannelId) (c : Channel) (s : State) :
    (s.setChannel ch c).tnu.channel ch = c.refresh s.tnu.pattern s.now := Tnu.channel_setChannel ..

/-- R154: the output is none of what the soundness of a channel reads. -/
theorem ChannelSound.refresh {c : Channel} (h : ChannelSound c) (pat : Nat → Option Pattern) (now : Nat) :
    ChannelSound (c.refresh pat now) := h.of_shape (Channel.shape_eq_iff.mpr (by simp))

/-- R162: nor is the step of what plays. -/
theorem ChannelSound.restep {c : Channel} (h : ChannelSound c) {p q : Playing} (playing : c.playing = some p)
    (same : q.saved.req = p.saved.req) : ChannelSound { c with playing := some q } :=
  h.of_shape (Channel.shape_eq_iff.mpr ⟨by simp [playing, same], rfl, rfl, rfl⟩)

/-- R157: a load reaches no channel. -/
theorem Tnu.loadPattern_channel (p : PatternLoad) (t : Tnu) (ch : ChannelId) :
    (t.loadPattern p).channel ch = t.channel ch := by
  unfold Tnu.loadPattern
  dsimp only
  split
  · cases ch <;> rfl
  · split <;> cases ch <;> rfl

/-- `TonesSound`, of the Tone Unit by itself. -/
structure Tnu.Sound (t : Tnu) : Prop where
  channel : ∀ ch, ChannelSound (t.channel ch)

theorem tonesSound_iff {s : State} : TonesSound s ↔ s.tnu.Sound := ⟨fun h => ⟨h⟩, fun h => h.channel⟩

namespace Tnu.Sound

/-- R171: RESTART empties the channels. -/
theorem restarted (t : Tnu) : t.restarted.Sound := ⟨fun ch => by
  cases ch <;> exact ChannelSound.initial.of_shape rfl⟩

@[simp] theorem either {a b : State} {p : Prop} [Decidable p] (ha : a.tnu.Sound) (hb : b.tnu.Sound) :
    (if p then a else b).tnu.Sound := by
  split
  · exact ha
  · exact hb

variable {s s' : State} (h : s.tnu.Sound)
include h

theorem setChannel (ch : ChannelId) {c : Channel} (sound : ChannelSound c) : (s.setChannel ch c).tnu.Sound := by
  refine ⟨fun o => ?_⟩
  by_cases same : o = ch
  · subst same
    rw [State.setChannel_channel]
    exact sound.refresh ..
  · exact (Tnu.channel_setChannel_other _ _ _ _ same).symm ▸ h.channel o

/-! ## The events of the Tone Unit -/

@[simp] theorem requestSound (ch : ChannelId) (r : Request) : (s.requestSound ch r).1.tnu.Sound :=
  State.arrived_tnu .. ▸ h.setChannel ch (h.channel ch).arrive

@[simp] theorem sound (ch : ChannelId) (pattern priority : Nat) (source : Source) (mode : Mode) :
    (s.sound ch pattern priority source mode).tnu.Sound := h.requestSound ..

@[simp] theorem endSound (ch : ChannelId) (source : Source) (pattern : Nat) :
    (s.endSound ch source pattern).tnu.Sound := State.endSound_tnu .. ▸ h.setChannel ch (h.channel ch).remove

theorem stepEnd (ch : ChannelId) : (s.stepEnd ch).tnu.Sound := by
  unfold State.stepEnd State.channel
  split
  · exact h
  · next p playing =>
    split
    · split
      · next sv moves => exact h.setChannel ch ((h.channel ch).restep playing (advance_req moves))
      · simpa using h.setChannel ch (h.channel ch).rest.endPlaying
    · exact h

theorem tonePeriodEnd (ch : ChannelId) : (s.tonePeriodEnd ch).tnu.Sound := by
  unfold State.tonePeriodEnd State.channel
  dsimp only
  split
  · exact h
  · split
    · exact h.setChannel ch ((h.channel ch).of_shape rfl)
    · exact h

theorem hornChange (pressed : Bool) : (s.hornChange pressed).tnu.Sound := by
  have held : ({ s.tnu with hornDown := pressed } : Tnu).Sound := ⟨h.channel⟩
  unfold State.hornChange
  (repeat' split) <;> simp [h, held]

theorem pedalChange (pressed : Bool) : (s.pedalChange pressed).tnu.Sound := by
  have held : ({ s.tnu with pedalDown := pressed } : Tnu).Sound := ⟨h.channel⟩
  unfold State.pedalChange
  (repeat' split) <;> simp [h, held]

/-- R168: SOUND_STOP. -/
theorem stopChannel (ch : ChannelId) : (s.stopChannel ch).1.tnu.Sound := by
  have part : Channel.Part (s.channel ch).withoutLink (s.tnu.channel ch) :=
    ⟨List.filter_sublist, List.filter_sublist, rfl⟩
  unfold State.stopChannel
  dsimp only
  split
  · simpa using h.setChannel ch (part.rest (h.channel ch).rest).endPlaying
  · simpa using h.setChannel ch (part.sound (h.channel ch) rfl)

theorem loadPattern (p : PatternLoad) : (s.tnu.loadPattern p).Sound :=
  ⟨fun ch => Tnu.loadPattern_channel p s.tnu ch ▸ h.channel ch⟩

/-! ## The requests and ends of the other blocks (Table 9-2) -/

@[simp] theorem requestAlarm : s.requestAlarm.tnu.Sound := h.sound ..
@[simp] theorem requestVigilanceWarning : s.requestVigilanceWarning.tnu.Sound := h.sound ..
@[simp] theorem requestDriveWarning : s.requestDriveWarning.tnu.Sound := h.sound ..
@[simp] theorem requestJunctionWarning : s.requestJunctionWarning.tnu.Sound := h.sound ..
@[simp] theorem requestRefuse (source : Source) : (s.requestRefuse source).tnu.Sound := h.sound ..
@[simp] theorem requestChime : s.requestChime.tnu.Sound := h.sound ..
@[simp] theorem requestDepartureBell : s.requestDepartureBell.tnu.Sound := h.sound ..

/-! ## The drive -/

/-- The drive is none of the Tone Unit. -/
theorem withDrc (d : Drc) : ({ s with drc := d } : State).tnu.Sound := h

@[simp] theorem endVigilanceWarning : s.endVigilanceWarning.tnu.Sound := by
  unfold State.endVigilanceWarning
  split <;> simp [h]

@[simp] theorem endDriveWarning : s.endDriveWarning.tnu.Sound := by
  unfold State.endDriveWarning
  split <;> simp [h]

@[simp] theorem settleVigilance : s.settleVigilance.tnu.Sound := by
  unfold State.settleVigilance
  (repeat' split) <;> simp [h]

@[simp] theorem settle : s.settle.tnu.Sound := by
  unfold State.settle
  simp [h]

@[simp] theorem handOnTrip (before : DriveState) (cause : TripReason) : (s.handOnTrip before cause).tnu.Sound := by
  have alarmed := h.endVigilanceWarning.endDriveWarning.requestAlarm
  unfold State.handOnTrip
  dsimp only
  split <;> exact alarmed

@[simp] theorem trip (cause : TripReason) : (s.trip cause).tnu.Sound := by
  unfold State.trip
  split
  · exact h
  · exact (h.withDrc _).handOnTrip ..
  · exact (h.withDrc _).handOnTrip ..

@[simp] theorem setBand (b : Band) : (s.setBand b).tnu.Sound := by
  exact either (h.withDrc _).endDriveWarning (either (h.withDrc _).requestDriveWarning (h.withDrc _))

@[simp] theorem bandStage : s.bandStage.tnu.Sound := by
  unfold State.bandStage
  (repeat' split) <;> simp [h]

@[simp] theorem controlStages : s.controlStages.tnu.Sound := by
  unfold State.controlStages
  simp [h]

theorem takeReverser (r : Reverser) : (s.takeReverser r).tnu.Sound := by
  have clips : ∀ m : State, m.tnu.Sound → (if r = .neutral ∧ 0 < m.drc.u then m.setU 0 else m).tnu.Sound :=
    fun m hm => either hm hm
  have clipped := clips (State.reverseEntry r { s with
    drc := { s.drc with reverser := r }, amu := { s.amu with direction := directionAfter r s.amu.direction } })
    (by simp [h])
  exact either h (either clipped (clipped.trip _))

theorem emergencyStop (tag : Byte) : (s.emergencyStop tag).tnu.Sound := by
  unfold State.emergencyStop
  split <;> simp [h]

/-! ## The route -/

@[simp] theorem handOn (e : Emit) : (s.handOn e).tnu.Sound := by
  unfold State.handOn
  (repeat' split) <;> simp [h]

@[simp] theorem exchange (b : Beacon) (e : Emit) : (s.exchange b e).tnu.Sound := by
  simp only [State.exchange, State.firstContact, State.enterUnknown, State.beaconMoves, State.handOnBeacon]
  (repeat' split) <;> simp [h]

theorem loopPage (page : List Byte) : (s.loopPage page).tnu.Sound := by
  simp only [State.loopPage, State.takePage, State.validBeacon]
  (repeat' split) <;> simp [h]

theorem contactLost : s.contactLost.tnu.Sound := by
  simp only [State.contactLost, State.loseContact]
  (repeat' split) <;> simp [h]

theorem approachInterval : s.approachInterval.tnu.Sound := by
  simp only [State.approachInterval, State.approachSteps, State.passHead, State.superviseHead]
  (repeat' split) <;> simp [h]

theorem selectorPress (sel : Selection) : (s.selectorPress sel).tnu.Sound := by
  simp only [State.selectorPress, State.selectHead, State.replaceSelection, State.reRequest]
  (repeat' split) <;> simp [h]

/-! ## The stops and the doors -/

@[simp] theorem offerStop (door : Fin 8) (button : Fin 16) (kind : StopKind) :
    (s.offerStop door button kind).tnu.Sound := by
  have listed : ∀ l cause, ((s.setStops l).reportStops cause).tnu.Sound := fun _ _ => h
  exact either h (either (listed ..).requestChime (listed ..))

theorem takePress (i : Fin 16) : (s.takePress i).tnu.Sound := by
  simp only [State.takePress, State.stopRequest, State.sessionRequest]
  (repeat' split) <;> simp [h]

theorem settleButton (i : Fin 16) : (s.settleButton i).tnu.Sound := by
  have settled : ∀ c, (s.setButton i c).tnu.Sound := fun _ => h
  exact either (either ((settled _).takePress i) (settled _)) h

@[simp] theorem completeClosing : s.completeClosing.tnu.Sound := by
  unfold State.completeClosing
  dsimp only
  split <;> simp [h]

theorem releaseRequest (side : Side) : (s.releaseRequest side).tnu.Sound := by
  simp only [State.releaseRequest, State.refuseRelease]
  (repeat' split) <;> simp [h]

theorem closeRequest : s.closeRequest.tnu.Sound := by
  unfold State.closeRequest
  split
  · exact either (completeClosing h) h
  · exact h

theorem doorPress (b : DoorButton) {act : State → State} (acts : ∀ m : State, m.tnu.Sound → (act m).tnu.Sound) :
    (s.doorPress b act).tnu.Sound := by
  rcases s.doorPress_cases b act with e | e | e <;> rw [e]
  · exact h
  · exact h
  · exact acts _ h

theorem doorLocks (door : Fin 8) : (s.doorLocks door).tnu.Sound := by
  have cleared : (s.clearFault .doorUnlocked door.val).tnu.Sound := h
  unfold State.doorLocks
  dsimp only
  split
  · exact either cleared.completeClosing cleared
  · exact either (by simp [h]) cleared
  all_goals exact cleared

theorem doorInput (door : Fin 8) (locked : Bool) : (s.doorInput door locked).tnu.Sound := by
  have taken : ∀ d : Sdu, ({ s with sdu := d } : State).tnu.Sound := fun _ => h
  exact either h (either (taken _) (either ((taken _).doorLocks door) (by simp [h])))

/-! ## All events and commands -/

/-- No event of a block breaks it. -/
theorem event (e : Event s s') : s'.tnu.Sound := by
  cases e with
  | stepEnd ch => exact h.stepEnd ch
  | tonePeriodEnd ch => exact h.tonePeriodEnd ch
  | hornChange pressed => exact h.hornChange pressed
  | pedalChange pressed => exact h.pedalChange pressed
  | reverser r => exact (h.takeReverser r).settle
  | emergencyStop tag => exact h.emergencyStop tag
  | loopPage page => exact h.loopPage page
  | contactLost => exact h.contactLost
  | approachInterval => exact h.approachInterval
  | selectorPress sel => exact h.selectorPress sel
  | settleButton i => exact h.settleButton i
  | releasePress side => exact h.doorPress _ fun m hm => hm.releaseRequest side
  | closePress => exact h.doorPress _ fun m hm => hm.closeRequest
  | doorInput door locked => exact h.doorInput door locked
  | tachoEdge ax =>
    unfold State.tachoEdge
    dsimp only
    split
    · split <;> simp [h]
    · exact h
  | noEdgeExpiry ax => exact either (settle (by simp [h])) h
  | sensorOpen ax => exact either h (settle (by simp [h]))
  | sensorOk ax => exact either (settle (by simp [h])) h
  | plausibilityExpiry ax => exact either (settle (by simp [h])) h
  | controlInterval => exact either (settle (controlStages (h.withDrc _))) h
  | detentClose => exact settle (either h (trip (h.withDrc _) _))
  | _ => simp [h]

/-- No command of the cab link breaks it. -/
theorem runCommand (c : LinkCommand) : (s.runCommand c).1.tnu.Sound := by
  cases c with
  | soundStart channel pattern priority mode =>
    simp only [State.runCommand, State.soundStart]
    (repeat' split) <;> simp [h]
  | soundStop channel =>
    simp only [State.runCommand, State.soundStop]
    split
    · exact h
    · exact h.stopChannel _
  | patternLoad load =>
    simp only [State.runCommand, State.patternLoad]
    split
    · exact h
    · exact h.loadPattern load
  | configure p =>
    change (s.configure p).1.tnu.Sound
    rcases s.configure_cases p with e | e <;> rw [e]
    · exact h
    · unfold State.takeConfigure
      simp [h]
  | restart =>
    simp only [State.runCommand, State.restartCommand, State.restart, State.restartBlocks]
    split
    · simp [restarted]
    · exact h
  | junctionLoad load => rw [State.runCommand, s.junctionLoad_frame]; exact h
  | junctionDrop id => rw [State.runCommand, s.junctionDrop_frame]; exact h
  | routeAppend id sel => rw [State.runCommand, s.routeAppend_frame]; exact h
  | routeClear => rw [State.runCommand, s.routeClear_frame]; exact h
  | stopClear target => rw [State.runCommand, s.stopClear_frame]; exact h
  | buttonIsolate i a => rw [State.runCommand, s.buttonIsolate_frame]; exact h
  | reportRate r => rw [State.runCommand, s.reportRate_frame]; exact h
  | faultsRead n => rw [State.runCommand, s.faultsRead_frame]; exact h
  | _ => simp [State.runCommand, h]

end Tnu.Sound

/-- R155: what POWER_ON leaves. -/
theorem TonesSound.poweredOn (now : Nat) (q : List Instr) (p : PowerInputs) :
    TonesSound (State.poweredOn now q p) := TonesSound.reset

theorem TonesSound.kept : Kept TonesSound where
  time _ _ h := h
  clp _ _ h := h
  event _ _ e h := tonesSound_iff.mpr ((tonesSound_iff.mp h).event e)
  run c _ h := tonesSound_iff.mpr ((tonesSound_iff.mp h).runCommand c)

/-- Settles O8: every command but POWER_ON keeps the channels sound, and after POWER_ON they are idle. -/
theorem tonesKept : Obligations.TonesKept := fun _ _ => TonesSound.kept.step (fun _ _ h => h) .poweredOn

end Sys2Proof.Machine
end

section
/-! O49: the arrival of a request (R154, R155, R163 to R165, R169). -/

namespace Sys2Proof.Machine

/-! ## What an arrival does to the part (R169) -/

theorem State.reportExit_eq (ch : ChannelId) (e : Exit) (s : State) :
    s.reportExit ch e = { s with clp := s.clp.soundLeft ch e.cause e.req e.repeats } := by
  unfold State.reportExit Clp.soundLeft
  split <;> rfl

theorem Channel.playOrWait_frame (pat : Nat → Option Pattern) (now : Nat) (r : Request) (c : Channel) :
    (c.playOrWait pat now r).channel.output = c.output ∧ (c.playOrWait pat now r).channel.nextRank = c.nextRank := by
  unfold Channel.playOrWait
  (repeat' split) <;> exact ⟨rfl, rfl⟩

theorem Channel.arrive_output (pat : Nat → Option Pattern) (now : Nat) (r : Request) (c : Channel) :
    (c.arrive pat now r).channel.output = c.output := by
  unfold Channel.arrive
  dsimp only
  split
  · rfl
  · split
    · rfl
    · split
      · exact (Channel.playOrWait_frame ..).1
      · rw [Channel.rankNext_eq]
        exact (Channel.playOrWait_frame ..).1

/-- The part after the arrival `a` at the channel `ch`, with the outcome and the channel that it leaves. -/
structure Arrives (ch : ChannelId) (a : Arrival) (s s' : State) (out : SoundOutcome) (c' : Channel) : Prop where
  blocks    : s' = { s with tnu := s.tnu.setChannel ch c', clp := s'.clp }
  channel   : c' = a.channel.refresh s.tnu.pattern s.now
  outcome   : out = a.outcome
  quiet     : a.dropped = none → a.displaced = none → s'.clp = s.clp
  dropped   : ∀ old, a.dropped = some old → a.displaced = none → s'.clp = s.dropped ch old
  displaced : ∀ q, a.dropped = none → a.displaced = some q → s'.clp = s.clp.soundLeft ch .displaced q 0

theorem State.arrived_arrives (ch : ChannelId) (a : Arrival) (s : State) :
    Arrives ch a s (s.arrived ch a) a.outcome (a.channel.refresh s.tnu.pattern s.now) := by
  refine ⟨?_, rfl, rfl, fun none none' => ?_, fun old some none => ?_, fun q none some => ?_⟩
  · unfold State.arrived
    simp only [State.reportExit_eq]
    (repeat' split) <;> rfl
  · simp only [State.arrived, none, none']
    rfl
  · simp only [State.arrived, some, none, State.reportExit_eq]
    rfl
  · simp only [State.arrived, none, some, State.reportExit_eq]
    rfl

/-- R163, R169: a request that arrives at a channel, told by what the channel makes of it. -/
theorem State.requestSound_arrives {ch : ChannelId} {r : Request} {s s' : State} {out : SoundOutcome} {c c' : Channel}
    (arrives : s.requestSound ch r = (s', out)) (before : s.tnu.channel ch = c) (after : s'.tnu.channel ch = c') :
    Arrives ch (c.arrive s.tnu.pattern s.now r) s s' out c' := by
  obtain ⟨rfl, rfl⟩ := Prod.mk.inj ((State.requestSound_eq ch r s).symm.trans arrives)
  rw [before, State.arrived_tnu, State.setChannel_channel] at after
  rw [before, ← after]
  exact State.arrived_arrives ..

namespace Arrives

variable {ch : ChannelId} {a : Arrival} {s s' : State} {out : SoundOutcome} {c' : Channel}
  (h : Arrives ch a s s' out c')
include h

theorem tnu : s'.tnu = s.tnu.setChannel ch c' := congrArg State.tnu h.blocks
theorem playing : c'.playing = a.channel.playing := h.channel ▸ Channel.refresh_playing ..
theorem queue : c'.queue = a.channel.queue := h.channel ▸ Channel.refresh_queue ..
theorem stack : c'.stack = a.channel.stack := h.channel ▸ Channel.refresh_stack ..
theorem nextRank : c'.nextRank = a.channel.nextRank := h.channel ▸ Channel.refresh_nextRank ..

end Arrives

/-! ## A request above what plays (R164) -/

/-- R164: what plays gives way to the request `r`, which then stands beside the queue `waiting`. -/
structure Preempts (ch : ChannelId) (r : Request) (p : Playing) (waiting : List Request) (c : Channel) (s s' : State)
    (out : SoundOutcome) (c' : Channel) : Prop where
  outcome : out = .started
  playing : c'.playing = some (start s.tnu.pattern s.now r)
  queue   : c'.queue = waiting
  stack   : c'.stack = { p.saved with remaining := p.saved.remaining - (s.now - p.since) / 1000 } ::
    (if c.stack.length = 3 then c.stack.dropLast else c.stack)
  quiet   : c.stack.length < 3 → s'.clp = s.clp
  dropped : ∀ old, c.stack.length = 3 → c.stack.getLast? = some old → s'.clp = s.dropped ch old

variable {ch : ChannelId} {r : Request} {s s' : State} {out : SoundOutcome} {c c' d : Channel} {p : Playing}

theorem Arrives.preempts (h : Arrives ch (d.playOrWait s.tnu.pattern s.now r) s s' out c')
    (playing : d.playing = some p)
    (fits : c.stack.length ≤ 3) (saved : d.stack = c.stack) (above : p.saved.req.priority < r.priority) :
    Preempts ch r p d.queue c s s' out c' := by
  rw [Channel.playOrWait_preempts playing above, saved] at h
  have full : 3 ≤ c.stack.length ↔ c.stack.length = 3 := ⟨fun le => Nat.le_antisymm fits le, fun eq => eq.ge⟩
  exact
    { outcome := h.outcome, playing := h.playing, queue := h.queue
      stack := h.stack.trans (congrArg _ (if_congr full rfl rfl))
      quiet := fun short => h.quiet (if_neg (Nat.not_le.mpr short)) rfl
      dropped := fun old full tail => h.dropped old ((if_pos full.ge).trans tail) rfl }

/-- R164, R179: the oldest context of a full stack latches SOUND_DROPPED. -/
theorem State.dropped_latched {old : Saved} (room : HasRoom .soundDropped 0 s) (clp : s'.clp = s.dropped ch old) :
    Latched .soundDropped 0 s' := by
  have faults : s'.clp.faults = (s.latch .soundDropped 0).clp.faults := by
    rw [clp]
    exact congrArg (fun m : State => m.clp.faults)
      (State.reportExit_eq ch ⟨.dropped, old.req, old.repeats⟩ (s.latch .soundDropped 0)).symm |>.trans
      (State.reportExits_faults (s.latch .soundDropped 0) ch [⟨.dropped, old.req, old.repeats⟩]).1
  unfold Latched
  rw [faults]
  exact Clp.latch_holds _ _ _ _ room

theorem Preempts.latched {waiting : List Request} (h : Preempts ch r p waiting c s s' out c')
    (full : c.stack.length = 3) (room : HasRoom .soundDropped 0 s) : Latched .soundDropped 0 s' := by
  have some : c.stack ≠ [] := fun empty => by simp [empty] at full
  exact State.dropped_latched room (h.dropped _ full (List.getLast?_eq_some_getLast some))

/-! ## A request at or below what plays (R165) -/

theorem Arrives.waits (h : Arrives ch (d.playOrWait s.tnu.pattern s.now r) s s' out c') (playing : d.playing = some p)
    (low : r.priority ≤ p.saved.req.priority) (room : d.queue.length < 6) (order : d.queue.Pairwise Request.Before)
    (new : r ∉ d.queue) {f : Request → Bool} (before : ∀ q ∈ d.queue, f q = true ↔ q.Before r) :
    out = .waiting (d.queue.countP f) ∧ c'.playing = d.playing ∧ c'.stack = d.stack ∧ s'.clp = s.clp ∧
      c'.queue = d.queue.take (d.queue.countP f) ++ r :: d.queue.drop (d.queue.countP f) := by
  rw [Channel.playOrWait_waits playing low room, place_eq order before, idxOf_placed new List.countP_le_length] at h
  exact ⟨h.outcome, h.playing, h.stack, h.quiet rfl rfl, h.queue⟩

theorem Arrives.displaces (h : Arrives ch (d.playOrWait s.tnu.pattern s.now r) s s' out c')
    (playing : d.playing = some p)
    (low : r.priority ≤ p.saved.req.priority) (full : d.queue.length = 6) {last : Request}
    (tail : d.queue.getLast? = some last) (lower : last.priority < r.priority)
    (order : d.queue.Pairwise Request.Before) (new : r ∉ d.queue) {f : Request → Bool}
    (before : ∀ q ∈ d.queue, f q = true ↔ q.Before r) :
    out = .waiting (d.queue.countP f) ∧ c'.playing = d.playing ∧ c'.stack = d.stack ∧
      s'.clp = s.clp.soundLeft ch .displaced last 0 ∧
      c'.queue = d.queue.take (d.queue.countP f) ++ r :: (d.queue.drop (d.queue.countP f)).dropLast := by
  have sub := List.dropLast_sublist d.queue
  have behind : f last = false := Bool.eq_false_iff.mpr fun hf => by
    have := (before last (List.mem_of_getLast? tail)).mp hf
    unfold Request.Before at this
    omega
  have count : d.queue.dropLast.countP f = d.queue.countP f := by
    conv_rhs => rw [← List.dropLast_append_getLast? last tail, List.countP_append]
    simp [behind]
  have short : d.queue.countP f ≤ d.queue.dropLast.length := count ▸ List.countP_le_length
  have placed := place_eq (order.sublist sub) fun q hq => before q (sub.subset hq)
  rw [count] at placed
  rw [Channel.playOrWait_displaces playing low full tail lower, placed,
    idxOf_placed (fun mem => new (sub.subset mem)) short] at h
  refine ⟨h.outcome, h.playing, h.stack, h.displaced last rfl rfl, h.queue.trans ?_⟩
  rw [List.dropLast_drop_eq_drop_dropLast]
  have take := List.take_append_of_le_length (l₂ := [last]) short
  rw [List.dropLast_append_getLast? last tail] at take
  exact congrArg (· ++ _) take.symm

theorem Arrives.discards (h : Arrives ch (d.playOrWait s.tnu.pattern s.now r) s s' out c')
    (playing : d.playing = some p)
    (low : r.priority ≤ p.saved.req.priority) (full : d.queue.length = 6)
    (all : ∀ q ∈ d.queue, r.priority ≤ q.priority) :
    out = .full ∧ c'.playing = d.playing ∧ c'.stack = d.stack ∧ c'.queue = d.queue ∧ s'.clp = s.clp := by
  rw [Channel.playOrWait_discards playing low full fun last tail => all last (List.mem_of_getLast? tail)] at h
  exact ⟨h.outcome, h.playing, h.stack, h.queue, h.quiet rfl rfl⟩

/-! ## The queue of a new key -/

/-- R165: the last of a queue has its lowest priority. -/
theorem last_lowest {l : List Request} {last : Request} (order : l.Pairwise Request.Before)
    (tail : l.getLast? = some last) : ∀ q ∈ l, last.priority ≤ q.priority := by
  rw [← List.dropLast_append_getLast? last tail] at order ⊢
  intro q mem
  rcases List.mem_append.mp mem with ahead | is
  · have before := (List.pairwise_append.mp order).2.2 q ahead last (.head _)
    exact before.elim Nat.le_of_lt fun same => same.1.le
  · rw [List.mem_singleton.mp is]

theorem Channel.rankedQueue_priorities (c : Channel) :
    c.rankedQueue.map (fun q => q.priority) = c.queue.map (fun q => q.priority) := by
  unfold Channel.rankedQueue
  split
  · rfl
  · refine List.ext_getElem (by simp) fun i _ _ => ?_
    simp

theorem Channel.rankedQueue_countP (c : Channel) (f : Nat → Bool) :
    c.rankedQueue.countP (fun q => f q.priority) = c.queue.countP fun q => f q.priority := by
  have counts := congrArg (List.countP f) c.rankedQueue_priorities
  rwa [List.countP_map, List.countP_map] at counts

theorem Channel.rankedQueue_getLast? (c : Channel) {last : Request} (tail : c.rankedQueue.getLast? = some last) :
    ∃ low, c.queue.getLast? = some low ∧ last = { low with rank := last.rank } := by
  unfold Channel.rankedQueue at tail
  split at tail
  · exact ⟨last, tail, rfl⟩
  · rw [List.getLast?_mapIdx, Option.map_eq_some_iff] at tail
    obtain ⟨low, found, rfl⟩ := tail
    exact ⟨low, found, rfl⟩

/-- R155, R165: a new request stands behind every waiting one of its priority or above. -/
theorem ChannelSound.before_fresh (h : ChannelSound c) (r : Request) (q : Request) (mem : q ∈ c.rankedQueue) :
    decide (r.priority ≤ q.priority) = true ↔ q.Before { r with rank := c.freshRank } := by
  have lt := h.rank_lt mem
  rw [decide_eq_true_iff]
  unfold Request.Before
  dsimp only
  omega

theorem ChannelSound.rankedQueue_pairwise (h : ChannelSound c) : c.rankedQueue.Pairwise Request.Before := by
  have sound := h.rankNext.1.rest.queue
  rwa [Channel.rankNext_eq] at sound

/-! ## The keys of a sound channel (R155) -/

theorem ChannelSound.saved_apart (h : ChannelSound c) {sv : Saved} (mem : sv ∈ c.stack) (playing : c.playing = some p) :
    p.saved.req.key ≠ sv.req.key := fun same =>
  (h.admits playing).key (Channel.mem_restKeys.mpr (.inl ⟨sv, mem, same.symm⟩))

theorem ChannelSound.waiting_apart (h : ChannelSound c) {q : Request} (mem : q ∈ c.queue)
    (playing : c.playing = some p) :
    p.saved.req.key ≠ q.key := fun same =>
  (h.admits playing).key (Channel.mem_restKeys.mpr (.inr ⟨q, mem, same.symm⟩))

theorem ChannelSound.waiting_unsaved (h : ChannelSound c) {q : Request} (mem : q ∈ c.queue) {sv : Saved}
    (saved : sv ∈ c.stack) : sv.req.key ≠ q.key :=
  (List.nodup_append.mp h.rest.keys).2.2 _ (List.mem_map_of_mem (f := fun sv : Saved => sv.req.key) saved) _
    (List.mem_map_of_mem mem)

/-- R155: a waiting request is the only one of its key. -/
theorem ChannelSound.find_waiting (h : ChannelSound c) {old : Request} (mem : old ∈ c.queue)
    (key : old.key = r.key) : c.queue.find? (Request.hasKey r.source r.pattern) = some old := by
  cases found : c.queue.find? (Request.hasKey r.source r.pattern) with
  | none => exact absurd (Request.hasKey_iff_key.mpr key) (List.find?_eq_none.mp found old mem)
  | some q =>
    have same : q.key = old.key := (Request.hasKey_iff_key.mp (List.find?_some found)).trans key.symm
    exact congrArg some (List.inj_on_of_nodup_map (List.nodup_append.mp h.rest.keys).2.1
      (List.mem_of_find?_eq_some found) mem same)

/-! ## The cases of an arrival -/

/-- R165, R169: a new request at or below what plays waits, in the place of the last of a full queue if that is lower,
or is discarded. -/
theorem Arrives.joins (h : Arrives ch
    (({ c with queue := c.rankedQueue, nextRank := c.freshRank + 1 } : Channel).playOrWait
      s.tnu.pattern s.now { r with rank := c.freshRank }) s s' out c') (sound : ChannelSound c)
    (playing : c.playing = some p) (low : r.priority ≤ p.saved.req.priority) :
    c'.playing = c.playing ∧ c'.stack = c.stack ∧
      ∀ n, n = c.queue.countP (fun q => decide (r.priority ≤ q.priority)) →
        (c.queue.length < 6 → out = .waiting n ∧ s'.clp = s.clp ∧
          c'.queue = c.rankedQueue.take n ++ { r with rank := c.freshRank } :: c.rankedQueue.drop n) ∧
        (c.queue.length = 6 → n < 6 → out = .waiting n ∧
          c'.queue = c.rankedQueue.take n ++ { r with rank := c.freshRank } :: (c.rankedQueue.drop n).dropLast ∧
          ∀ last, c.queue.getLast? = some last → s'.clp = s.clp.soundLeft ch .displaced last 0) ∧
        (c.queue.length = 6 → n = 6 → out = .full ∧ c'.queue = c.rankedQueue ∧ s'.clp = s.clp) := by
  have order := sound.rankedQueue_pairwise
  have apart : { r with rank := c.freshRank } ∉ c.rankedQueue := fun mem => lt_irrefl _ (sound.rank_lt mem)
  have count := c.rankedQueue_countP fun k => decide (r.priority ≤ k)
  have length := c.rankedQueue_length
  have fits := sound.queueFits
  rw [← length, ← count]
  rw [← length] at fits
  rcases Nat.lt_or_eq_of_le fits with room | full
  · obtain ⟨outcome, goesOn, stack, clp, queue⟩ := h.waits playing low room order apart (sound.before_fresh r)
    refine ⟨goesOn, stack, ?_⟩
    rintro n rfl
    exact ⟨fun _ => ⟨outcome, clp, queue⟩, fun full => absurd full room.ne, fun full => absurd full room.ne⟩
  · by_cases all : c.rankedQueue.countP (fun q => decide (r.priority ≤ q.priority)) = 6
    · obtain ⟨outcome, goesOn, stack, queue, clp⟩ := h.discards playing low full fun q mem =>
        of_decide_eq_true (List.countP_eq_length.mp (all.trans full.symm) q mem)
      refine ⟨goesOn, stack, ?_⟩
      rintro n rfl
      exact ⟨fun room => absurd full room.ne, fun _ some => absurd all some.ne, fun _ _ => ⟨outcome, queue, clp⟩⟩
    · have some : c.rankedQueue ≠ [] := fun empty => by simp [empty] at full
      have tail := List.getLast?_eq_some_getLast some
      have lower : (c.rankedQueue.getLast some).priority < r.priority := by
        by_contra high
        exact all ((List.countP_eq_length.mpr fun q mem =>
          decide_eq_true ((Nat.not_lt.mp high).trans (last_lowest order tail q mem))).trans full)
      obtain ⟨outcome, goesOn, stack, clp, queue⟩ :=
        h.displaces playing low full tail lower order apart (sound.before_fresh r)
      obtain ⟨low, found, eq⟩ := c.rankedQueue_getLast? tail
      refine ⟨goesOn, stack, ?_⟩
      rintro n rfl
      refine ⟨fun room => absurd full room.ne, fun _ _ => ⟨outcome, queue, fun last is => ?_⟩,
        fun _ six => absurd six all⟩
      cases found.symm.trans is
      rw [clp, eq]
      rfl

end Sys2Proof.Machine

open Sys2Proof Sys2Proof.Machine

/-- Settles O49: the arrival at the channel, case by case. -/
theorem requestArrives : Obligations.RequestArrives := by
  intro ch r s s' out c c' fresh rest ranked rank arrives before after h hrank hranked hfresh hrest
  have arrived := State.requestSound_arrives arrives before after
  have keys : ∀ q : Request, q.source = r.source ∧ q.pattern = r.pattern ↔ q.key = r.key :=
    fun q => Request.key_eq_iff.symm
  refine ⟨arrived.blocks, ?_, ?_, ?_, ?_, ?_, ?_, ?_⟩
  · exact arrived.channel ▸ Channel.refresh_follows _ _ (Channel.arrive_output ..)
  · intro o other
    rw [arrived.tnu]
    exact Tnu.channel_setChannel_other _ _ _ _ other
  · rw [arrived.tnu]
    exact Tnu.setChannel_patterns ..
  · intro p playing key
    rw [Channel.arrive_playing playing key] at arrived
    exact ⟨arrived.outcome, arrived.queue, arrived.stack, arrived.nextRank, arrived.quiet rfl rfl, arrived.playing⟩
  · rintro ⟨sv, mem, key⟩
    rw [Channel.arrive_saved (fun p playing same => h.saved_apart mem playing
      (((keys _).mp same).trans ((keys _).mp key).symm)) mem key] at arrived
    refine ⟨arrived.outcome, arrived.playing, arrived.queue, arrived.nextRank, arrived.quiet rfl rfl,
      arrived.stack.trans ?_⟩
    exact List.map_congr_left fun sv _ => if_congr Request.hasKey_iff rfl rfl
  · intro new
    rw [Channel.mem_keys, not_or, not_or] at new
    obtain ⟨other, unsaved, unqueued⟩ := new
    have absent : c.queue.find? (Request.hasKey r.source r.pattern) = none :=
      List.find?_eq_none.mpr fun q mem same => unqueued ⟨q, mem, Request.hasKey_iff_key.mp same⟩
    rw [Channel.arrive_new (fun p playing same => other ⟨p, playing, (keys _).mp same⟩)
      (fun sv mem same => unsaved ⟨sv, mem, (keys _).mp same⟩) absent] at arrived
    obtain ⟨rfl, rfl⟩ : rank = c.freshRank ∧ ranked = c.rankedQueue := ⟨hrank, hranked⟩
    have first : start s.tnu.pattern s.now { r with rank := c.freshRank } = fresh := hfresh.symm
    refine ⟨arrived.nextRank.trans (Channel.playOrWait_frame ..).2, fun idle => ?_, fun p playing =>
      ⟨fun above => ?_, fun low => arrived.joins h playing low⟩⟩
    · obtain ⟨stack, queue⟩ := h.idle idle
      have none : c.rankedQueue = [] := List.eq_nil_of_length_eq_zero (by simp [Channel.rankedQueue_length, queue])
      rw [Channel.playOrWait_idle (by exact idle)] at arrived
      exact ⟨arrived.outcome, first ▸ arrived.playing, arrived.stack.trans stack, arrived.queue.trans none,
        arrived.quiet rfl rfl⟩
    · have given := arrived.preempts (c := c) playing h.stackFits rfl above
      exact ⟨given.outcome, first ▸ given.playing, given.queue, given.stack, given.quiet, given.latched, given.dropped⟩
  · intro old mem key
    have other : ∀ p, c.playing = some p → ¬ (p.saved.req.source = r.source ∧ p.saved.req.pattern = r.pattern) :=
      fun p playing same => h.waiting_apart mem playing (((keys _).mp same).trans ((keys _).mp key).symm)
    have unsaved : ∀ sv ∈ c.stack, ¬ (sv.req.source = r.source ∧ sv.req.pattern = r.pattern) :=
      fun sv saved same => h.waiting_unsaved mem saved (((keys _).mp same).trans ((keys _).mp key).symm)
    have kept : c.queue.filter (fun q => !q.hasKey r.source r.pattern) = rest := by
      rw [hrest]
      refine List.filter_congr fun q _ => ?_
      rw [Bool.eq_iff_iff, Bool.not_eq_true', Bool.eq_false_iff, ne_eq, Request.hasKey_iff, decide_eq_true_iff]
    have rekeyed : ∀ q ∈ rest, ¬ (q.source = r.source ∧ q.pattern = r.pattern) := fun q hq => by
      rw [hrest] at hq
      exact of_decide_eq_true (List.mem_filter.mp hq).2
    rw [Channel.arrive_waiting other unsaved (h.find_waiting mem ((keys _).mp key)), kept] at arrived
    refine ⟨arrived.nextRank.trans (Channel.playOrWait_frame ..).2, fun p playing => ⟨fun above => ?_, fun low => ?_⟩⟩
    · have given := arrived.preempts (c := c) playing h.stackFits rfl above
      refine ⟨given.outcome, given.queue, given.playing.trans ?_, given.stack, given.quiet, given.dropped⟩
      rw [hfresh]
      rfl
    · have part : Channel.Part { c with queue := rest } c := ⟨.refl _, hrest ▸ List.filter_sublist, rfl⟩
      have room : rest.length < 6 := by
        refine Nat.lt_of_lt_of_le (Nat.lt_of_le_of_ne part.queue.length_le fun same => ?_) h.queueFits
        have whole : rest = c.queue := part.queue.eq_of_length same
        exact rekeyed old (whole ▸ mem) key
      have apart : { r with rank := old.rank } ∉ rest := fun mem => rekeyed _ mem ⟨rfl, rfl⟩
      obtain ⟨outcome, goesOn, stack, clp, queue⟩ :=
        arrived.waits (p := p) playing low room (part.rest h.rest).queue apart
        (f := fun q => decide (r.priority < q.priority ∨ r.priority = q.priority ∧ q.rank < old.rank))
        fun q _ => decide_eq_true_iff
      refine ⟨goesOn, stack, clp, ?_⟩
      rintro n rfl
      exact ⟨outcome, queue⟩

end

section
/-! O50: end requests, what plays next, and the horn button and the bell pedal (R154, R160, R162, R166, R167, R169). -/

namespace Sys2Proof.Machine

/-! ## What an end does to the part (R167, R169) -/

/-- The part once `es` have left the channel `ch` and `c` is what the channel holds. -/
def State.left (ch : ChannelId) (c : Channel) (es : List Exit) (s : State) : State :=
  (s.setChannel ch c).reportExits ch es

/-- R169: the cab link after requests have left their channel, one after another. -/
def Clp.exits (ch : ChannelId) (es : List Exit) (c : Clp) : Clp :=
  es.foldl (fun c e => c.soundLeft ch e.cause e.req e.repeats) c

theorem State.reportExits_eq (ch : ChannelId) (es : List Exit) (s : State) :
    s.reportExits ch es = { s with clp := s.clp.exits ch es } := by
  induction es generalizing s with
  | nil => rfl
  | cons e es ih =>
    refine (ih (s.reportExit ch e)).trans ?_
    rw [State.reportExit_eq]
    rfl

theorem State.left_eq (ch : ChannelId) (c : Channel) (es : List Exit) (s : State) : s.left ch c es = { s with
    tnu := s.tnu.setChannel ch (c.refresh s.tnu.pattern s.now), clp := s.clp.exits ch es } :=
  State.reportExits_eq ..

theorem State.endSound_eq (ch : ChannelId) (source : Source) (pattern : Nat) (s : State) :
    s.endSound ch source pattern = s.left ch ((s.tnu.channel ch).remove s.tnu.pattern s.now source pattern).1
      ((s.tnu.channel ch).remove s.tnu.pattern s.now source pattern).2 := rfl

theorem Tnu.setChannel_setChannel (t : Tnu) (ch : ChannelId) (c d : Channel) :
    (t.setChannel ch c).setChannel ch d = t.setChannel ch d := by cases ch <;> rfl

theorem Tnu.setChannel_pattern (t : Tnu) (ch : ChannelId) (c : Channel) :
    (t.setChannel ch c).pattern = t.pattern := by cases ch <;> rfl

/-- R166: an end of what plays. -/
theorem State.endSound_playing {ch : ChannelId} {source : Source} {pattern : Nat} {s : State} {c : Channel}
    {p : Playing}
    (before : s.tnu.channel ch = c) (playing : c.playing = some p)
    (key : p.saved.req.source = source ∧ p.saved.req.pattern = pattern) : s.endSound ch source pattern =
      s.left ch (c.endPlaying s.tnu.pattern s.now).1 (c.endPlaying s.tnu.pattern s.now).2 := by
  rw [State.endSound_eq, before, Channel.remove_playing playing key]

/-- R162: a saved context that completes leaves the stack as one that had left it before, with its SOUND report. -/
theorem State.left_completed {ch : ChannelId} {s : State} (d c : Channel) (e : Exit) (es : List Exit) :
    s.left ch c (e :: es) = State.left ch c es { s with
      tnu := s.tnu.setChannel ch d, clp := s.clp.soundLeft ch e.cause e.req e.repeats } := by
  rw [State.left_eq, State.left_eq, Tnu.setChannel_setChannel, Tnu.setChannel_pattern]
  rfl

/-- The part once requests have left a channel of it, with the contents that the channel then has. -/
structure Leaves (ch : ChannelId) (c : Channel) (es : List Exit) (s s' : State) (c' : Channel) : Prop where
  blocks  : s' = { s with tnu := s.tnu.setChannel ch c', clp := s.clp.exits ch es }
  channel : c' = c.refresh s.tnu.pattern s.now

theorem State.left_leaves {ch : ChannelId} {c c' : Channel} {es : List Exit} {s s' : State}
    (left : s' = s.left ch c es) (after : s'.tnu.channel ch = c') : Leaves ch c es s s' c' := by
  rw [left, State.left_eq] at after
  obtain rfl : c.refresh s.tnu.pattern s.now = c' := (Tnu.channel_setChannel ..).symm.trans after
  exact ⟨left.trans (State.left_eq ..), rfl⟩

namespace Leaves

variable {ch : ChannelId} {c c' : Channel} {es : List Exit} {s s' : State} (h : Leaves ch c es s s' c')
include h

theorem tnu : s'.tnu = s.tnu.setChannel ch c' := congrArg State.tnu h.blocks
theorem clp : s'.clp = s.clp.exits ch es := congrArg State.clp h.blocks
theorem playing : c'.playing = c.playing := h.channel ▸ Channel.refresh_playing ..
theorem queue : c'.queue = c.queue := h.channel ▸ Channel.refresh_queue ..
theorem stack : c'.stack = c.stack := h.channel ▸ Channel.refresh_stack ..
theorem nextRank : c'.nextRank = c.nextRank := h.channel ▸ Channel.refresh_nextRank ..

end Leaves

theorem filter_unkeyed {α : Type} {source : Source} {pattern : Nat} (req : α → Request) (l : List α) :
    l.filter (fun x => !(req x).hasKey source pattern) =
      l.filter fun x => decide (¬((req x).source = source ∧ (req x).pattern = pattern)) := by
  refine List.filter_congr fun x _ => ?_
  rw [Bool.eq_iff_iff, Bool.not_eq_true', Bool.eq_false_iff, ne_eq, Request.hasKey_iff, decide_eq_true_iff]

/-- No element has the key: a removal of the key removes none. -/
theorem filter_absent {α : Type} {source : Source} {pattern : Nat} (req : α → Request) {l : List α}
    (absent : ∀ x ∈ l, (req x).key ≠ (source, pattern)) : l.filter (fun x => !(req x).hasKey source pattern) = l :=
  List.filter_eq_self.mpr fun x mem => by
    rw [Bool.not_eq_true', Bool.eq_false_iff, ne_eq, Request.hasKey_iff]
    exact fun key => absent x mem (Request.key_eq_iff.mpr key)

/-! ## The next step of a context that was saved with no time left (R162) -/

theorem advance_continues {pat : Pattern} {sv : Saved} {target : Option Nat} (ht : RepeatTarget pat sv.req.mode target)
    (goes : sv.step + 1 < pat.steps.length ∨ ∀ n, target = some n → sv.repeats + 1 < n) : advance (some pat) sv =
      some (if sv.step + 1 < pat.steps.length then
          { sv with step := sv.step + 1, remaining := (stepOf (some pat) (sv.step + 1)).duration }
        else { sv with
          step := 0, repeats := min 15 (sv.repeats + 1), remaining := (stepOf (some pat) 0).duration }) := by
  by_cases next : sv.step + 1 < pat.steps.length
  · rw [if_pos next]
    exact advance_next next
  · rw [if_neg next]
    exact (advance_last (Nat.not_lt.mp next) ht).1 (goes.resolve_left next)

/-! ## The horn button and the bell pedal (R160) -/

theorem State.hornChange_same {pressed : Bool} {s : State} (same : s.tnu.hornDown = pressed) :
    s.hornChange pressed = s :=
  if_pos same

theorem State.pedalChange_same {pressed : Bool} {s : State} (same : s.tnu.pedalDown = pressed) :
    s.pedalChange pressed = s := if_pos same

/-- R160: the horn button and the bell pedal are taken once they have stood for 20 ms. -/
theorem ite_sounds {α : Type} {x y : α} {stood : Nat} (long : 20 ≤ stood) :
    (if Config.soundContactMs ≤ stood then x else y) = x := if_pos long

theorem ite_sounds_not {α : Type} {x y : α} {stood : Nat} (idle : stood < 20 ∨ x = y) :
    (if Config.soundContactMs ≤ stood then x else y) = y :=
  ite_eq_right_iff.mpr fun long => idle.resolve_left (Nat.not_lt.mpr long)

end Sys2Proof.Machine

open Sys2Proof Sys2Proof.Machine

/-- Settles O50: an end request is a removal from its channel, and what plays next is the channel's choice. -/
theorem soundsEnd : Obligations.SoundsEnd := by
  refine ⟨?_, ?_⟩
  · intro ch source pattern s s' c c' ended before after h
    have removed : s' = s.left ch (c.remove s.tnu.pattern s.now source pattern).1
        (c.remove s.tnu.pattern s.now source pattern).2 := before ▸ ended.trans (State.endSound_eq ..)
    have leaves := State.left_leaves removed after
    refine ⟨?_, ?_, ?_, ?_, ?_, ?_, ?_, ?_⟩
    · rw [leaves.clp]
      exact leaves.blocks
    · exact leaves.channel ▸ Channel.refresh_follows _ _ Channel.remove_frame.1
    · exact leaves.nextRank.trans Channel.remove_frame.2
    · intro o other
      rw [leaves.tnu]
      exact Tnu.channel_setChannel_other _ _ _ _ other
    · intro absent
      rw [Channel.mem_keys, not_or, not_or] at absent
      obtain ⟨other, unsaved, unqueued⟩ := absent
      rw [Channel.remove_otherwise fun p playing key => other ⟨p, playing, Request.key_eq_iff.mpr key⟩] at leaves
      exact ⟨leaves.playing,
        leaves.stack.trans (filter_absent (fun sv : Saved => sv.req) fun sv mem key => unsaved ⟨sv, mem, key⟩),
        leaves.queue.trans (filter_absent id fun q mem key => unqueued ⟨q, mem, key⟩), leaves.clp⟩
    · intro p playing key
      rw [Channel.remove_playing playing key, Channel.endPlaying] at leaves
      refine ⟨fun stack queue => ?_, fun r head above => ?_, fun top head first => ?_⟩
      · rw [Channel.chooseNext_idle stack queue] at leaves
        exact ⟨leaves.playing, leaves.stack.trans stack, leaves.queue.trans queue, leaves.clp⟩
      · rw [Channel.chooseNext_queue (List.eq_cons_of_mem_head? head) above] at leaves
        exact ⟨leaves.playing, leaves.queue, leaves.stack, leaves.clp⟩
      · have stack : c.stack = top :: c.stack.tail := List.eq_cons_of_mem_head? head
        refine ⟨fun left => ?_, fun left pat known target repeats => ⟨fun last done => ?_, fun goes => ?_⟩⟩
        · rw [Channel.chooseNext_resumes stack first _ left] at leaves
          exact ⟨leaves.playing, leaves.stack, leaves.queue, leaves.clp⟩
        · have completes : advance (s.tnu.pattern top.req.pattern) top = none := by
            rw [known]
            exact (advance_last last repeats).2 done
          refine (ended.trans (State.endSound_playing before playing key)).trans ?_
          rw [Channel.endPlaying, Channel.chooseNext_completes stack first _ left completes,
            State.left_completed { c with stack := c.stack.tail },
            State.endSound_playing (c := { c with stack := c.stack.tail }) (p := p) (Tnu.channel_setChannel ..)
              playing key, Channel.endPlaying]
          have count : c.stack.length = c.stack.tail.length + 1 := congrArg List.length stack
          rw [count, Tnu.setChannel_pattern]
        · have moves := (congrArg (advance · top) known).trans (advance_continues repeats goes)
          rw [Channel.chooseNext_moves stack first _ left moves] at leaves
          exact ⟨leaves.stack, leaves.queue, leaves.clp, leaves.playing⟩
    · rintro ⟨sv, mem, key⟩
      have is := Request.key_eq_iff.mpr key
      rw [Channel.remove_otherwise fun p playing same =>
        h.saved_apart mem playing ((Request.key_eq_iff.mpr same).trans is.symm)] at leaves
      refine ⟨leaves.playing, leaves.queue.trans (filter_absent id fun q waiting same => ?_), leaves.clp,
        leaves.stack.trans (filter_unkeyed ..)⟩
      exact h.waiting_unsaved waiting mem (is.trans same.symm)
    · rintro ⟨q, mem, key⟩
      have is := Request.key_eq_iff.mpr key
      rw [Channel.remove_otherwise fun p playing same =>
        h.waiting_apart mem playing ((Request.key_eq_iff.mpr same).trans is.symm)] at leaves
      refine ⟨leaves.playing, leaves.stack.trans (filter_absent (fun sv : Saved => sv.req) fun sv saved same => ?_),
        leaves.clp, leaves.queue.trans (filter_unkeyed id ..)⟩
      exact h.waiting_unsaved mem saved (same.trans is.symm)
  · intro t stood pressed s horn bell hhorn hbell
    subst hhorn hbell
    refine ⟨fun idle => ?_, fun long change => ?_, fun idle => ?_, fun long change => ?_⟩
    · exact congrArg Host.Outcome.next (ite_sounds_not (idle.imp_right (State.hornChange_same (s := s.atTime t))))
    · exact congrArg Host.Outcome.next ((ite_sounds long).trans (if_neg change))
    · exact congrArg Host.Outcome.next (ite_sounds_not (idle.imp_right (State.pedalChange_same (s := s.atTime t))))
    · exact congrArg Host.Outcome.next ((ite_sounds long).trans (if_neg change))

end

section
/-! O52: the end of a pattern step and of a tone period (R154, R159, R162, R169). -/

namespace Sys2Proof.Machine

variable {ch : ChannelId} {s : State} {c : Channel} {p : Playing}

/-! ## The end of a step (R162) -/

theorem State.stepEnd_early (before : s.tnu.channel ch = c)
    (early : ∀ p, c.playing = some p → (s.now - p.since) / 1000 < p.saved.remaining) : s.stepEnd ch = s := by
  unfold State.stepEnd State.channel
  rw [before]
  split
  · rfl
  · next p playing => exact if_neg (Nat.sub_pos_of_lt (early p playing)).ne'

section due
variable (before : s.tnu.channel ch = c) (playing : c.playing = some p)
  (due : p.saved.remaining ≤ (s.now - p.since) / 1000)
include before playing due

theorem State.stepEnd_due : s.stepEnd ch = match advance (s.tnu.pattern p.saved.req.pattern) p.saved with
    | some sv => s.setChannel ch { c with playing := some { saved := sv, since := s.now } }
    | none => s.left ch (c.endPlaying s.tnu.pattern s.now).1
        (⟨.completed, p.saved.req, min 15 (p.saved.repeats + 1)⟩ :: (c.endPlaying s.tnu.pattern s.now).2) := by
  have left : p.left s.now = 0 := Nat.sub_eq_zero_of_le due
  unfold State.stepEnd State.channel
  rw [before]
  simp only [playing, left, if_true]
  rfl

/-- R162: the step gives way to the next step or repeat. -/
theorem State.stepEnd_moves {sv : Saved} (moves : advance (s.tnu.pattern p.saved.req.pattern) p.saved = some sv) :
    s.stepEnd ch = s.setChannel ch { c with playing := some { saved := sv, since := s.now } } := by
  rw [State.stepEnd_due before playing due, moves]

/-- R162, R169: the pattern has completed, and leaves as an ended one does, its report ahead of the others. -/
theorem State.stepEnd_completes (completes : advance (s.tnu.pattern p.saved.req.pattern) p.saved = none) :
    s.stepEnd ch = s.left ch (c.endPlaying s.tnu.pattern s.now).1
      (⟨.completed, p.saved.req, min 15 (p.saved.repeats + 1)⟩ :: (c.endPlaying s.tnu.pattern s.now).2) := by
  rw [State.stepEnd_due before playing due, completes]

end due

/-! ## The tone output (R154) -/

theorem Channel.refresh_eq (pat : Nat → Option Pattern) (now : Nat) (c : Channel) :
    c.refresh pat now = { c with output := (c.refresh pat now).output } := by
  unfold Channel.refresh
  (repeat' split) <;> rfl

/-- A channel takes new contents, and nothing else of the part changes but its own output. -/
theorem State.setChannel_eq (ch : ChannelId) (c : Channel) (s : State) : s.setChannel ch c =
    { s with tnu := s.tnu.setChannel ch { c with output := ((s.setChannel ch c).tnu.channel ch).output } } := by
  rw [State.setChannel_channel, ← Channel.refresh_eq]
  rfl

theorem State.tonePeriodEnd_silent (before : s.tnu.channel ch = c) (silent : c.output = .silent) :
    s.tonePeriodEnd ch = s := by
  simp only [State.tonePeriodEnd, State.channel, before, silent]

section sounding
variable {period level st : Nat} (before : s.tnu.channel ch = c) (output : c.output = .sounding period level st)
include before output

theorem State.tonePeriodEnd_early (early : s.now < st + period) : s.tonePeriodEnd ch = s := by
  simp only [State.tonePeriodEnd, State.channel, before, output]
  exact if_neg (Nat.not_le.mpr early)

theorem State.tonePeriodEnd_due (due : st + period ≤ s.now) :
    s.tonePeriodEnd ch = s.setChannel ch { c with output := .silent } := by
  simp only [State.tonePeriodEnd, State.channel, before, output]
  exact if_pos due

/-- R154: a tone period that has run its length is followed by silence on an idle channel. -/
theorem State.tonePeriodEnd_idle (due : st + period ≤ s.now) (idle : c.playing = none) :
    s.tonePeriodEnd ch = { s with tnu := s.tnu.setChannel ch { c with output := .silent } } := by
  have follows := Channel.refresh_follows s.tnu.pattern s.now (c := { c with output := .silent }) rfl
  rw [State.tonePeriodEnd_due before output due, State.setChannel_eq, State.setChannel_channel,
    follows.idle rfl ((Channel.refresh_playing ..).trans idle)]

/-- R154: and else by one of the step in force, if that has a tone period. -/
theorem State.tonePeriodEnd_follows (due : st + period ≤ s.now) (playing : c.playing = some p) {pat : Pattern}
    (known : s.tnu.pattern p.saved.req.pattern = some pat) {step : Step}
    (inForce : pat.steps[p.saved.step]? = some step) :
    s.tonePeriodEnd ch = { s with tnu := s.tnu.setChannel ch { c with
      output := if step.period = 0 then .silent else .sounding step.period step.level s.now } } := by
  have follows := Channel.refresh_follows s.tnu.pattern s.now (c := { c with output := .silent }) rfl
  rw [State.tonePeriodEnd_due before output due, State.setChannel_eq, State.setChannel_channel,
    follows.starts rfl p ((Channel.refresh_playing ..).trans playing) pat known step inForce]

end sounding

/-- R154: a sounding output is high for its first period × level / 1000 µs, truncated. -/
theorem ToneOutput.high_sounding {period level st now : Nat} (begun : st ≤ now) :
    (ToneOutput.sounding period level st).high now = true ↔ (now - st + 1) * 1000 ≤ period * level := by
  simp only [ToneOutput.high, Bool.and_eq_true, decide_eq_true_iff]
  unfold toneHighTime
  omega

/-! ## The end of a step, by the repeat target (R159) -/

/-- R162: what the end of a step of the playing context `p`, of the pattern `pat`, makes of the part. -/
structure StepEnds (ch : ChannelId) (c : Channel) (p : Playing) (pat : Pattern) (target : Option Nat) (s s' : State) :
    Prop where
  blocks    : s' = { s with tnu := s'.tnu, clp := s'.clp }
  follows   : OutputFollows s.tnu.pattern s.now c (s'.tnu.channel ch)
  next      : p.saved.step + 1 < pat.steps.length → s'.clp = s.clp ∧ s'.tnu = s.tnu.setChannel ch { c with
    output := (s'.tnu.channel ch).output, playing := some (Playing.mk { p.saved with
      step := p.saved.step + 1, remaining := (stepOf (some pat) (p.saved.step + 1)).duration } s.now) }
  again     : pat.steps.length ≤ p.saved.step + 1 → (∀ n, target = some n → p.saved.repeats + 1 < n) →
    s'.clp = s.clp ∧ s'.tnu = s.tnu.setChannel ch { c with
      output := (s'.tnu.channel ch).output, playing := some (Playing.mk { p.saved with
        step := 0, repeats := min 15 (p.saved.repeats + 1), remaining := (stepOf (some pat) 0).duration } s.now) }
  completed : pat.steps.length ≤ p.saved.step + 1 → (∃ m, target = some m ∧ m ≤ p.saved.repeats + 1) →
    s'.tnu = (s.endSound ch p.saved.req.source p.saved.req.pattern).tnu ∧
    ∀ x : State, x = { s with clp := s.clp.soundLeft ch .completed p.saved.req (min 15 (p.saved.repeats + 1)) } →
      s'.clp = (x.endSound ch p.saved.req.source p.saved.req.pattern).clp ∧
      ((∀ sv ∈ c.stack, sv.remaining ≠ 0) → s'.clp = x.clp)

variable {pat : Pattern} {target : Option Nat}

theorem State.stepEnd_spec (before : s.tnu.channel ch = c) (playing : c.playing = some p)
    (known : s.tnu.pattern p.saved.req.pattern = some pat) (repeats : RepeatTarget pat p.saved.req.mode target)
    (due : p.saved.remaining ≤ (s.now - p.since) / 1000) : StepEnds ch c p pat target s (s.stepEnd ch) := by
  have advanced := congrArg (advance · p.saved) known
  have goesOn : ∀ sv, advance (some pat) p.saved = some sv → s.stepEnd ch = { s with tnu := (s.stepEnd ch).tnu } ∧
      OutputFollows s.tnu.pattern s.now c ((s.stepEnd ch).tnu.channel ch) ∧
      (s.stepEnd ch).tnu = s.tnu.setChannel ch { c with
        output := ((s.stepEnd ch).tnu.channel ch).output, playing := some (Playing.mk sv s.now) } := by
    intro sv moves
    rw [State.stepEnd_moves before playing due (advanced.trans moves)]
    refine ⟨rfl, ?_, congrArg State.tnu (State.setChannel_eq ..)⟩
    rw [State.setChannel_channel]
    exact Channel.refresh_follows _ _ rfl
  rcases Nat.lt_or_ge (p.saved.step + 1) pat.steps.length with next | last
  · obtain ⟨blocks, follows, tnu⟩ := goesOn _ (advance_next next)
    have clp := congrArg State.clp blocks
    refine ⟨?_, follows, fun _ => ⟨clp, tnu⟩, fun last => absurd next (Nat.not_lt.mpr last),
      fun last => absurd next (Nat.not_lt.mpr last)⟩
    rw [clp]
    exact blocks
  · by_cases done : ∃ m, target = some m ∧ m ≤ p.saved.repeats + 1
    · have completes := State.stepEnd_completes before playing due (advanced.trans ((advance_last last repeats).2 done))
      have leaves := State.left_leaves completes rfl
      refine ⟨?_, ?_, fun next => absurd last (Nat.not_le.mpr next), fun _ goes => ?_, fun _ _ => ⟨?_, ?_⟩⟩
      · rw [leaves.clp, leaves.tnu]
        exact leaves.blocks
      · exact leaves.channel ▸ Channel.refresh_follows _ _ (Channel.chooseNext_frame _ c).1
      · obtain ⟨m, is, reached⟩ := done
        exact absurd (goes m is) (Nat.not_lt.mpr reached)
      · rw [completes, State.endSound_playing before playing ⟨rfl, rfl⟩, State.left_eq, State.left_eq]
      · rintro x rfl
        rw [completes, State.left_eq, State.endSound_playing (by exact before) playing ⟨rfl, rfl⟩, State.left_eq]
        refine ⟨rfl, fun left => ?_⟩
        rw [Channel.endPlaying, Channel.chooseNext_noExits _ c left]
        rfl
    · have goes : ∀ n, target = some n → p.saved.repeats + 1 < n := fun n is =>
        Nat.lt_of_not_le fun reached => done ⟨n, is, reached⟩
      obtain ⟨blocks, follows, tnu⟩ := goesOn _ ((advance_last last repeats).1 goes)
      have clp := congrArg State.clp blocks
      refine ⟨?_, follows, fun next => absurd last (Nat.not_le.mpr next), fun _ _ => ⟨clp, tnu⟩,
        fun _ reached => absurd reached done⟩
      rw [clp]
      exact blocks

end Sys2Proof.Machine

open Sys2Proof Sys2Proof.Machine

/-- Settles O52: a step end moves on or completes, by the repeat target; a tone period end starts the next period. -/
theorem toneTimers : Obligations.ToneTimers := by
  rintro t now ch s c target rfl before
  refine ⟨fun p playing pat known repeats due => ?_, fun early => ?_, fun period level st output =>
    ⟨fun begun => ?_, fun early => ?_, fun due idle => ?_, fun due p playing pat known step inForce => ?_⟩,
    fun silent => ⟨?_, ?_⟩⟩
  · have ended := State.stepEnd_spec (s := s.atTime t) before playing known repeats due
    exact ⟨_, rfl, ended.blocks, ended.follows, ended.next, ended.again, ended.completed⟩
  · exact congrArg Host.Outcome.next (State.stepEnd_early (s := s.atTime t) before early)
  · rw [output]
    exact ToneOutput.high_sounding begun
  · exact congrArg Host.Outcome.next (State.tonePeriodEnd_early (s := s.atTime t) before output early)
  · exact congrArg Host.Outcome.next (State.tonePeriodEnd_idle (s := s.atTime t) before output due idle)
  · exact congrArg Host.Outcome.next
      (State.tonePeriodEnd_follows (s := s.atTime t) before output due playing known inForce)
  · exact congrArg Host.Outcome.next (State.tonePeriodEnd_silent (s := s.atTime t) before silent)
  · rw [silent]
    rfl

end

section
/-! O53: PATTERN_LOAD (R156, R157). -/

namespace Sys2Proof.Machine

/-! ## The checks (R157) -/

/-- R157: whether each of the checks 1 to 5 fails. -/
def patternChecks (p : PatternLoad) : List Bool :=
  [ decide (p.number.toNat < 8 ∨ 23 < p.number.toNat),
    decide (15 < p.repeats.toNat ∨ p.stepCount.toNat < 1 ∨ 16 < p.stepCount.toNat),
    decide (p.first.toNat ≠ 0 ∧ p.first.toNat ≠ 8 ∨ p.first.toNat = 8 ∧ p.stepCount.toNat ≤ 8),
    decide (p.steps.length ≠ min 8 (p.stepCount.toNat - p.first.toNat)),
    p.steps.any badStep ]

/-- R157: checks 6 and 7. -/
def laterRefusal (p : PatternLoad) (t : Tnu) : Option Verdict :=
  if p.first.toNat = 8 ∧ bufferDiffers p t.loadBuffer then some (.plain .refusedState)
  else if writesPattern p ∧ t.inUse p.number.toNat then some (.plain .inUse)
  else none

/-- What the first failing check of a list answers. -/
theorem findIdx?_elim_cons {α : Type} (b : Bool) (checks : List Bool) (passed : α) (failed : Nat → α) :
    ((b :: checks).findIdx? id).elim passed failed =
      if b then failed 0 else (checks.findIdx? id).elim passed fun k => failed (k + 1) := by
  cases b with
  | true => rfl
  | false =>
    rw [List.findIdx?_cons]
    cases checks.findIdx? id <;> rfl

/-- R157: the checks are examined in order. -/
theorem checkPattern_eq (p : PatternLoad) (t : Tnu) : checkPattern p t =
    ((patternChecks p).findIdx? id).elim (laterRefusal p t) fun k => some (.range (BitVec.ofNat 8 (k + 1))) := by
  unfold patternChecks
  simp only [findIdx?_elim_cons, decide_eq_true_eq]
  rfl

theorem badStep_eq (st : StepField) : badStep st =
    decide (st.period.toNat ≠ 0 ∧ (st.period.toNat < 250 ∨ 20000 < st.period.toNat) ∨ 500 < st.level.toNat ∨
      st.duration.toNat < 10 ∨ 5000 < st.duration.toNat ∨ st.duration.toNat % 10 ≠ 0) := by
  simp [badStep, Bool.or_assoc]

theorem keptStep_eq (st : StepField) : keptStep st =
    { period := st.period.toNat, level := if st.period.toNat = 0 then 0 else st.level.toNat
      duration := st.duration.toNat } := by
  unfold keptStep
  simp [BitVec.toNat_eq]

/-- R157: the load buffer takes the second part of the pattern that it holds the first part of. -/
theorem bufferDiffers_iff {p : PatternLoad} {b : Option LoadBuffer} : bufferDiffers p b = false ↔
    ∃ x, b = some x ∧ (x.number = p.number.toNat ∧ x.stepCount = p.stepCount.toNat ∧ x.repeats = p.repeats.toNat) := by
  cases b <;> simp [bufferDiffers, and_assoc]

theorem writesPattern_iff {p : PatternLoad} : writesPattern p = true ↔ p.first.toNat = 8 ∨ p.stepCount.toNat ≤ 8 := by
  simp [writesPattern]

/-- R157: a pattern is in use where a request of it plays, is saved or waits on a channel. -/
theorem Tnu.inUse_iff {t : Tnu} {n : Nat} : t.inUse n = true ↔ ∃ ch, ∃ k ∈ (t.channel ch).keys, k.2 = n := by
  have uses : ∀ c : Channel, ((c.uses n).1 || (c.uses n).2.1 || (c.uses n).2.2) = true ↔ ∃ k ∈ c.keys, k.2 = n := by
    intro c
    simp only [Channel.uses_eq, Bool.or_eq_true, decide_eq_true_iff, Channel.mem_keys]
    constructor
    · rintro ((⟨q, mem, rfl⟩ | ⟨q, mem, rfl⟩) | ⟨q, mem, rfl⟩)
      · exact ⟨_, .inl ⟨q, mem, rfl⟩, rfl⟩
      · exact ⟨_, .inr (.inl ⟨q, mem, rfl⟩), rfl⟩
      · exact ⟨_, .inr (.inr ⟨q, mem, rfl⟩), rfl⟩
    · rintro ⟨k, ⟨q, mem, rfl⟩ | ⟨q, mem, rfl⟩ | ⟨q, mem, rfl⟩, is⟩
      · exact .inl (.inl ⟨q, mem, is⟩)
      · exact .inl (.inr ⟨q, mem, is⟩)
      · exact .inr ⟨q, mem, is⟩
  unfold Tnu.inUse
  simp only [List.any_eq_true, uses]
  constructor
  · rintro ⟨c, mem, used⟩
    simp only [List.mem_cons, List.not_mem_nil, or_false] at mem
    rcases mem with rfl | rfl | rfl
    · exact ⟨.bell, used⟩
    · exact ⟨.horn, used⟩
    · exact ⟨.cab, used⟩
  · rintro ⟨ch, used⟩
    exact ⟨t.channel ch, by cases ch <;> simp [Tnu.channel], used⟩

/-! ## The pattern written (R156) -/

theorem Tnu.writePattern_same {n : Nat} (loadable : 8 ≤ n ∧ n ≤ 23) (pat : Pattern) (t : Tnu) :
    (t.writePattern n pat).pattern n = some pat := by
  have slot : n - 8 < 16 := by omega
  have built : ¬ n < 8 := by omega
  simp [Tnu.writePattern, Tnu.pattern, built, slot]

theorem Tnu.writePattern_other {n x : Nat} (loadable : 8 ≤ n) (other : x ≠ n) (pat : Pattern) (t : Tnu) :
    (t.writePattern n pat).pattern x = t.pattern x := by
  by_cases built : x < 8
  · simp [Tnu.pattern, built]
  · have apart : n - 8 ≠ x - 8 := by omega
    simp [Tnu.writePattern, Tnu.pattern, built, List.getElem?_set_ne apart]

/-! ## PATTERN_LOAD at its owner -/

/-- R157: the second part of a pattern is written with the steps of the load buffer ahead of its own. -/
theorem Tnu.loadPattern_second {p : PatternLoad} {t : Tnu} {b : LoadBuffer} (second : p.first.toNat = 8)
    (held : t.loadBuffer = some b) : t.loadPattern p =
      { t.writePattern p.number.toNat { steps := b.steps ++ p.steps.map keptStep, repeats := p.repeats.toNat } with
        loadBuffer := none } := by
  simp [Tnu.loadPattern, second, held]

/-- R157: a pattern of at most eight steps is written whole, and leaves the load buffer if that holds its number. -/
theorem Tnu.loadPattern_whole {p : PatternLoad} {t : Tnu} (first : p.first.toNat ≠ 8) (short : p.stepCount.toNat ≤ 8) :
    t.loadPattern p =
      { t.writePattern p.number.toNat { steps := p.steps.map keptStep, repeats := p.repeats.toNat } with
        loadBuffer := t.loadBuffer.filter fun b => b.number ≠ p.number.toNat } := by
  simp [Tnu.loadPattern, first, short]

/-- R157: the first part of a longer pattern fills the load buffer. -/
theorem Tnu.loadPattern_first {p : PatternLoad} {t : Tnu} (first : p.first.toNat ≠ 8) (long : ¬ p.stepCount.toNat ≤ 8) :
    t.loadPattern p = { t with
      loadBuffer := some (.mk p.number.toNat p.repeats.toNat p.stepCount.toNat (p.steps.map keptStep)) } := by
  simp [Tnu.loadPattern, first, long]

/-- R157: the load buffer leaves with the number that is written. -/
theorem dropBuffer_eq (n : Nat) (buffer : Option LoadBuffer) [Decidable (∃ b, buffer = some b ∧ b.number = n)] :
    buffer.filter (fun b => b.number ≠ n) =
    if ∃ b, buffer = some b ∧ b.number = n then none else buffer := by
  cases buffer with
  | none => simp
  | some b => by_cases same : b.number = n <;> simp [Option.filter, same]

variable {p : PatternLoad} {s : State}

theorem State.patternLoad_refused {v : Verdict} (refused : checkPattern p s.tnu = some v) :
    s.patternLoad p = (s, v) := by
  simp only [State.patternLoad, refused]

theorem State.patternLoad_taken (taken : checkPattern p s.tnu = none) : s.patternLoad p =
    ({ s with tnu := s.tnu.loadPattern p }, .ok (.patternLoaded p.number.toNat (writesPattern p))) := by
  simp only [State.patternLoad, taken]

theorem exec_patternLoad (t : Nat) (tag : Byte) (short : p.steps.length ≤ 8) :
    exec (.patternLoad t tag p) s = .next (s.command t 0x0F tag (.patternLoad p)) :=
  congrArg (fun c => Host.Outcome.next (s.command t 0x0F tag c)) (if_pos short)

end Sys2Proof.Machine

open Sys2Proof Sys2Proof.Machine

/-- Settles O53: the checks in order, and the load that passes them all. -/
theorem patternLoaded : Obligations.PatternLoaded := by
  rintro t n tag p s checks continues inUse writes steps ready short rfl hchecks hcontinues hinUse hwrites hsteps
  have sameChecks : checks = patternChecks p := by
    rw [hchecks, patternChecks, funext badStep_eq]
  have sameSteps : p.steps.map keptStep = steps := by
    rw [hsteps, funext keptStep_eq]
  have differs : bufferDiffers p s.tnu.loadBuffer = !continues := by
    rw [Bool.eq_iff_iff, Bool.not_eq_true', ← not_iff_not, Bool.not_eq_true, bufferDiffers_iff, Bool.not_eq_false]
    exact hcontinues.symm
  have used : s.tnu.inUse p.number.toNat = inUse := by
    rw [Bool.eq_iff_iff, hinUse, Tnu.inUse_iff]
  have written : writesPattern p = writes := by
    rw [Bool.eq_iff_iff, hwrites, writesPattern_iff]
  have checked := checkPattern_eq p s.tnu
  rw [← sameChecks] at checked
  have refused : ∀ v, checkPattern p s.tnu = some v → exec (.patternLoad t tag p) s = .next (s.answered t 0x0F tag v) :=
    fun v h => exec_answered (exec_patternLoad t tag short) ready (State.patternLoad_refused (s := s.atTime t) h)
  refine ⟨fun k first => refused _ (by rw [checked, first, Option.elim]), fun none => ?_⟩
  rw [none, Option.elim, laterRefusal, differs, used, written] at checked
  have taken : checkPattern p s.tnu = Option.none → exec (.patternLoad t tag p) s =
      .next { s.answered t 0x0F tag (.ok (.patternLoaded p.number.toNat writes)) with tnu := s.tnu.loadPattern p } :=
    fun h => (exec_replied (exec_patternLoad t tag short) ready (State.patternLoad_taken (s := s.atTime t) h) rfl).trans
      (written ▸ rfl)
  have loadable : 8 ≤ p.number.toNat ∧ p.number.toNat ≤ 23 := by
    have first := List.findIdx?_eq_none_iff.mp none (decide (p.number.toNat < 8 ∨ 23 < p.number.toNat))
      (by simp [hchecks])
    have passed := of_decide_eq_false first
    omega
  have passes : (p.first.toNat ≠ 8 ∨ continues = true) ∧ (writes = false ∨ inUse = false) →
      checkPattern p s.tnu = Option.none := fun ⟨continued, free⟩ =>
    checked.trans ((if_neg fun ⟨second, other⟩ => continued.elim (absurd second) fun c => by simp [c] at other).trans
      (if_neg fun ⟨whole, busy⟩ => free.elim (by simp [whole]) (by simp [busy])))
  refine ⟨fun second other => ?_, fun second same busy => ?_, fun start whole busy => ?_, fun start whole free => ?_,
    fun start part => ?_, fun b held second same free => ?_⟩
  · exact refused _ (checked.trans (if_pos ⟨second, by simp [other]⟩))
  · exact refused _ (checked.trans ((if_neg (by simp [same])).trans
      (if_pos ⟨hwrites.mpr (.inl second), busy⟩)))
  · exact refused _ (checked.trans ((if_neg (by simp [start])).trans (if_pos ⟨whole, busy⟩)))
  · have unsecond : p.first.toNat ≠ 8 := by omega
    have short : p.stepCount.toNat ≤ 8 := (hwrites.mp whole).resolve_left unsecond
    refine ⟨_, taken (passes ⟨.inl unsecond, .inr free⟩), ?_, ?_, fun x other => ?_⟩
    · rw [Tnu.loadPattern_whole unsecond short, whole, dropBuffer_eq]
      rfl
    · rw [Tnu.loadPattern_whole unsecond short, sameSteps]
      exact Tnu.writePattern_same loadable ..
    · rw [Tnu.loadPattern_whole unsecond short]
      exact Tnu.writePattern_other loadable.1 other ..
  · have unsecond : p.first.toNat ≠ 8 := by omega
    have long : ¬ p.stepCount.toNat ≤ 8 := fun short => Bool.false_ne_true (part.symm.trans (hwrites.mpr (.inr short)))
    rw [taken (passes ⟨.inl unsecond, .inl part⟩), Tnu.loadPattern_first unsecond long, sameSteps, part]
  · have whole : writes = true := hwrites.mpr (.inl second)
    refine ⟨_, taken (passes ⟨.inr same, .inr free⟩), ?_, ?_, fun x other => ?_⟩
    · rw [Tnu.loadPattern_second second held, whole]
      rfl
    · rw [Tnu.loadPattern_second second held, sameSteps]
      exact Tnu.writePattern_same loadable ..
    · rw [Tnu.loadPattern_second second held]
      exact Tnu.writePattern_other loadable.1 other ..

end

section
/-! O51: SOUND_START and SOUND_STOP (R159, R161, R163, R168, R169). -/

namespace Sys2Proof.Machine

variable {ch : ChannelId} {s : State} {c d : Channel}

/-! ## The operands (R161) -/

theorem channelOf_none {b : Byte} (h : 2 < b.toNat) : channelOf b = none := by
  unfold channelOf
  split <;> first | omega | rfl

theorem channelOf_some {b : Byte}
    (named : b.toNat = 0 ∧ ch = .bell ∨ b.toNat = 1 ∧ ch = .horn ∨ b.toNat = 2 ∧ ch = .cab) :
    channelOf b = some ch := by
  rcases named with ⟨h, rfl⟩ | ⟨h, rfl⟩ | ⟨h, rfl⟩ <;> simp [channelOf, h]

theorem linkModeOf_eq (b : Byte) : linkModeOf b = if 16 ≤ b.toNat ∧ b.toNat < 128 ∨ 192 ≤ b.toNat then none
    else some (if b.toNat < 16 then .count b.toNat else .untilStopped) := by
  unfold linkModeOf
  split
  · next count =>
    by_cases small : b.toNat < 16
    · rw [if_pos (Nat.le_of_lt_succ small), if_neg (by omega), if_pos small]
    · rw [if_neg (by omega), if_pos (by omega)]
  · next untilStopped => rw [if_neg (by omega), if_neg (by omega)]
  · next uncounted unstopped =>
    have apart : b.toNat / 64 ≠ 0 ∧ b.toNat / 64 ≠ 2 := ⟨uncounted, unstopped⟩
    rw [if_pos (by omega)]

/-! ## SOUND_START at its owner (R161) -/

section
variable {channel pattern priority mode : Byte}

theorem State.soundStart_badChannel (bad : channelOf channel = none) :
    s.soundStart channel pattern priority mode = (s, .range 1) := by
  simp only [State.soundStart, bad]

variable (named : channelOf channel = some ch)
include named

theorem State.soundStart_badPattern (bad : 23 < pattern.toNat) :
    s.soundStart channel pattern priority mode = (s, .range 2) := by
  simp only [State.soundStart, named, if_pos bad]

variable (known : pattern.toNat ≤ 23)
include known

theorem State.soundStart_badPriority (bad : 7 < priority.toNat) :
    s.soundStart channel pattern priority mode = (s, .range 3) := by
  simp only [State.soundStart, named, if_neg (Nat.not_lt.mpr known), if_pos bad]

variable (low : priority.toNat ≤ 7)
include low

theorem State.soundStart_badMode (bad : linkModeOf mode = none) :
    s.soundStart channel pattern priority mode = (s, .range 4) := by
  simp only [State.soundStart, named, if_neg (Nat.not_lt.mpr known), if_neg (Nat.not_lt.mpr low), bad]

variable {m : Mode} (given : linkModeOf mode = some m)
include given

theorem State.soundStart_empty (empty : s.tnu.pattern pattern.toNat = none) :
    s.soundStart channel pattern priority mode = (s, .plain .notFound) := by
  simp only [State.soundStart, named, if_neg (Nat.not_lt.mpr known), if_neg (Nat.not_lt.mpr low), given, empty]
  rfl

variable {s' : State} {out : SoundOutcome} (loaded : s.tnu.pattern pattern.toNat ≠ none)
  (arrives : s.requestSound ch
    { pattern := pattern.toNat, priority := min 5 priority.toNat, source := .link, mode := m, rank := 0 } = (s', out))
include loaded arrives

theorem State.soundStart_full (full : out = .full) :
    s.soundStart channel pattern priority mode = (s, .plain .full) := by
  rw [Nat.min_comm] at arrives
  simp only [State.soundStart, named, if_neg (Nat.not_lt.mpr known), if_neg (Nat.not_lt.mpr low), given,
    Option.isNone_iff_eq_none, if_neg loaded, clampPriority, Config.linkPriority, arrives, full]

theorem State.soundStart_taken (taken : out ≠ .full) : s.soundStart channel pattern priority mode =
    (s', .ok (.soundStarted (priorityInForce (min 5 priority.toNat) out
      ((s.tnu.channel ch).keptPriority (Request.hasKey .link pattern.toNat))) (decide (5 < priority.toNat)) out)) := by
  rw [Nat.min_comm] at arrives ⊢
  simp only [State.soundStart, named, if_neg (Nat.not_lt.mpr known), if_neg (Nat.not_lt.mpr low), given,
    Option.isNone_iff_eq_none, if_neg loaded, clampPriority, Config.linkPriority, arrives]
  cases out with
  | full => exact absurd rfl taken
  | _ => rfl

end

/-! ## The priority that an update keeps (R163) -/

/-- The contexts of a channel, the playing one first, by what its soundness reads of them. -/
def Channel.contexts (c : Channel) : List ((Source × Nat) × Nat) :=
  c.playing.toList.map (fun p => p.saved.req.place) ++ c.stack.map fun sv => sv.req.place

theorem Channel.keptPriority_eq (source : Source) (pattern : Nat) (c : Channel) :
    c.keptPriority (Request.hasKey source pattern) =
      (c.contexts.find? fun x => decide (x.1 = (source, pattern))).map Prod.snd := by
  have contexts : c.contexts = (c.playing.toList.map (·.saved.req) ++ c.stack.map (·.req)).map Request.place := by
    simp [Channel.contexts, List.map_append, Function.comp_def]
  have key : (fun x : (Source × Nat) × Nat => decide (x.1 = (source, pattern))) ∘ Request.place =
      Request.hasKey source pattern := funext fun r => by
    rw [Bool.eq_iff_iff, Request.hasKey_iff]
    exact decide_eq_true_iff.trans Request.key_eq_iff
  rw [contexts, List.find?_map, key, Option.map_map]
  rfl

theorem Channel.keptPriority_of_shape (source : Source) (pattern : Nat) (shape : d.shape = c.shape) :
    d.keptPriority (Request.hasKey source pattern) = c.keptPriority (Request.hasKey source pattern) := by
  obtain ⟨playing, stack, -, -⟩ := Channel.shape_eq_iff.mp shape
  have contexts : d.contexts = c.contexts := by
    unfold Channel.contexts
    rw [stack, ← Option.toList_map, ← Option.toList_map, playing]
  rw [Channel.keptPriority_eq, Channel.keptPriority_eq, contexts]

/-- R163: it is that of the playing context of the key, or else that of the saved one. -/
theorem Channel.keptPriority_spec {source : Source} {pattern n : Nat}
    (kept : (∃ p ∈ c.playing, p.saved.req.source = source ∧ p.saved.req.pattern = pattern ∧
        n = p.saved.req.priority) ∨
      (∀ p ∈ c.playing, ¬(p.saved.req.source = source ∧ p.saved.req.pattern = pattern)) ∧
      ∃ sv ∈ c.stack, sv.req.source = source ∧ sv.req.pattern = pattern ∧ n = sv.req.priority ∧ c.keys.Nodup) :
    c.keptPriority (Request.hasKey source pattern) = some n := by
  unfold Channel.keptPriority
  rcases kept with ⟨p, playing, hs, hp, rfl⟩ | ⟨other, sv, mem, hs, hp, rfl, keys⟩
  · have first : p.saved.req.hasKey source pattern = true := Request.hasKey_iff.mpr ⟨hs, hp⟩
    rw [Option.mem_def.mp playing]
    simp [first]
  · have absent : (c.playing.toList.map (·.saved.req)).find? (Request.hasKey source pattern) = none := by
      refine List.find?_eq_none.mpr fun q hq key => ?_
      obtain ⟨p, playing, rfl⟩ := List.mem_map.mp hq
      exact other p (Option.mem_toList.mp playing) (Request.hasKey_iff.mp key)
    rw [List.find?_append, absent, Option.none_or]
    cases found : (c.stack.map (·.req)).find? (Request.hasKey source pattern) with
    | none =>
      have keyed : sv.req.hasKey source pattern = true := Request.hasKey_iff.mpr ⟨hs, hp⟩
      exact absurd keyed (List.find?_eq_none.mp found _ (List.mem_map_of_mem (f := fun sv : Saved => sv.req) mem))
    | some q =>
      obtain ⟨sv', mem', rfl⟩ := List.mem_map.mp (List.mem_of_find?_eq_some found)
      have key : sv'.req.key = sv.req.key :=
        (Request.key_eq_iff.mpr (Request.hasKey_iff.mp (List.find?_some found))).trans
        (Request.key_eq_iff.mpr ⟨hs, hp⟩).symm
      rw [Channel.keys_eq, Channel.restKeys] at keys
      have stackKeys := (List.nodup_append.mp (List.nodup_append.mp keys).2.1).1
      rw [List.inj_on_of_nodup_map stackKeys mem' mem key]
      rfl

theorem Channel.playOrWait_outcome (pat : Nat → Option Pattern) (now : Nat) (r : Request) (c : Channel) :
    (c.playOrWait pat now r).outcome ≠ .updated := by
  unfold Channel.playOrWait
  (repeat' split) <;> exact SoundOutcome.noConfusion

/-- R163: an update keeps all keys and priorities. -/
theorem Channel.arrive_updated {pat : Nat → Option Pattern} {now : Nat} {r : Request}
    (updated : (c.arrive pat now r).outcome = .updated) : (c.arrive pat now r).channel.shape = c.shape := by
  rcases c.arrive_cases pat now r with same | ⟨other, unsaved⟩
  · exact same
  · rw [Channel.arrive_beyond other unsaved] at updated
    split at updated <;> exact absurd updated (Channel.playOrWait_outcome _ _ _ _)

theorem Arrives.keptPriority {r : Request} {s' : State} {out : SoundOutcome} {c' : Channel}
    (h : Arrives ch (c.arrive s.tnu.pattern s.now r) s s' out c') (updated : out = .updated) (source : Source)
    (pattern : Nat) :
    c'.keptPriority (Request.hasKey source pattern) = c.keptPriority (Request.hasKey source pattern) := by
  have shape := Channel.arrive_updated (h.outcome.symm.trans updated)
  refine Channel.keptPriority_of_shape source pattern (Eq.trans ?_ shape)
  exact Channel.shape_eq_iff.mpr ⟨by rw [h.playing], by rw [h.stack], h.queue, h.nextRank⟩

/-- R161, R163: the priority in force of a request of source LINK that was taken, its own or the one that an update
keeps. -/
theorem State.requestSound_inForce {r : Request} {s' : State} {out : SoundOutcome} {inForce : Nat}
    (arrives : s.requestSound ch r = (s', out)) (own : out ≠ .updated → inForce = r.priority)
    (kept : out = .updated → (s'.tnu.channel ch).keptPriority (Request.hasKey r.source r.pattern) = some inForce) :
    priorityInForce r.priority out ((s.tnu.channel ch).keptPriority (Request.hasKey r.source r.pattern)) = inForce := by
  by_cases updated : out = .updated
  · have arrived := State.requestSound_arrives arrives rfl rfl
    have same := (arrived.keptPriority updated r.source r.pattern).symm.trans (kept updated)
    rw [updated]
    exact congrArg (Option.getD · _) same
  · rw [own updated]
    cases out with
    | updated => exact absurd rfl updated
    | _ => rfl

/-! ## Replies behind the reports (R175) -/

theorem State.reportExit_replies (e : Exit) (s : State) : (s.reportExit ch e).replies = s.replies :=
  State.reportExits_replies s ch [e]

theorem State.requestSound_replies (r : Request) (s : State) : (s.requestSound ch r).1.replies = s.replies := by
  rw [State.requestSound_eq]
  unfold State.arrived
  dsimp only
  split
  · rw [State.reportExit_replies]
    split
    · rw [State.reportExit_replies, State.latch_replies]
      rfl
    · rfl
  · split
    · rw [State.reportExit_replies, State.latch_replies]
      rfl
    · rfl

/-! ## SOUND_STOP at its owner (R168) -/

theorem State.stopChannel_playing {p : Playing} (before : s.tnu.channel ch = c) (playing : c.playing = some p)
    (link : p.saved.req.source = .link) : s.stopChannel ch =
      (s.left ch (c.withoutLink.endPlaying s.tnu.pattern s.now).1
        (c.linkExits ++ ⟨.stopped, p.saved.req, p.saved.repeats⟩ :: (c.withoutLink.endPlaying s.tnu.pattern s.now).2),
        c.linkExits.length + 1) := by
  have plays : c.linkPlaying = some ⟨.stopped, p.saved.req, p.saved.repeats⟩ := by
    simp [Channel.linkPlaying, playing, Request.isLink, link]
  simp only [State.stopChannel, State.channel, before, plays]
  rfl

/-- R168: with nothing but requests of source LINK on its channel, the playing one leaves it idle. -/
theorem State.stopChannel_alone {p : Playing} (before : s.tnu.channel ch = c) (playing : c.playing = some p)
    (link : p.saved.req.source = .link) (queued : ∀ r ∈ c.queue, r.source = .link)
    (saved : ∀ sv ∈ c.stack, sv.req.source = .link) : s.stopChannel ch =
      (s.left ch { c.withoutLink with playing := none } (c.linkExits ++ [⟨.stopped, p.saved.req, p.saved.repeats⟩]),
        (c.linkExits ++ [Exit.mk .stopped p.saved.req p.saved.repeats]).length) := by
  have queue : c.withoutLink.queue = [] :=
    List.filter_eq_nil_iff.mpr fun r mem => by simp [Request.isLink, queued r mem]
  have stack : c.withoutLink.stack = [] :=
    List.filter_eq_nil_iff.mpr fun sv mem => by simp [Request.isLink, saved sv mem]
  rw [State.stopChannel_playing before playing link, Channel.endPlaying, Channel.chooseNext_idle stack queue,
    List.length_append]
  rfl

theorem State.stopChannel_otherwise (before : s.tnu.channel ch = c)
    (other : ∀ p, c.playing = some p → p.saved.req.source ≠ .link) :
    s.stopChannel ch = (s.left ch c.withoutLink c.linkExits, c.linkExits.length) := by
  have none : c.linkPlaying = none := by
    unfold Channel.linkPlaying
    split
    · next p playing => exact if_neg (by simp [Request.isLink, other p playing])
    · rfl
  simp only [State.stopChannel, State.channel, before, none]
  rfl

theorem State.left_replies (c : Channel) (es : List Exit) (s : State) : (s.left ch c es).replies = s.replies :=
  State.reportExits_replies ..

theorem State.soundStop_badChannel {channel : Byte} (bad : channelOf channel = none) (s : State) :
    s.soundStop channel = (s, .rangeUnnamed 0x0E 1) := by
  simp only [State.soundStop, bad]

/-- The reply of SOUND_STOP: the removals, and what then plays. -/
def stopReply (n : Nat) (c : Channel) : Verdict :=
  .ok (.soundStopped n (c.playing.map fun p => (p.saved.req.pattern, p.saved.req.source)))

theorem State.soundStop_named {channel : Byte} (named : channelOf channel = some ch) (s : State) :
    s.soundStop channel =
      ((s.stopChannel ch).1, stopReply (s.stopChannel ch).2 ((s.stopChannel ch).1.tnu.channel ch)) := by
  simp only [State.soundStop, named]
  rfl

/-- R168: a SOUND_STOP on a ready link, by what its channel makes of it. -/
theorem exec_soundStop {t : Nat} {tag channel : Byte} {d : Channel} {es : List Exit} {n : Nat}
    (ready : LinkReady s) (named : channelOf channel = some ch)
    (stops : (s.atTime t).stopChannel ch = ((s.atTime t).left ch d es, n)) :
    exec (.soundStop t tag channel) s = .next { s with
      now := max s.now t
      tnu := s.tnu.setChannel ch (d.refresh s.tnu.pattern (max s.now t))
      clp := { s.clp.exits ch es with
        outbound := (s.clp.exits ch es).outbound ++ [replyFrame 0x0E tag (stopReply n d)] } } := by
  have run := State.soundStop_named named (s.atTime t)
  rw [stops] at run
  have plays : stopReply n (((s.atTime t).left ch d es).tnu.channel ch) = stopReply n d := by
    rw [State.left_eq]
    unfold stopReply
    rw [Tnu.channel_setChannel, Channel.refresh_playing]
  rw [plays] at run
  refine (exec_replied (i := .soundStop t tag channel) rfl ready run (State.left_replies ..)).trans ?_
  rw [State.left_eq]
  rfl

/-- R169: the SOUND report of a request that leaves. -/
def Exit.report (ch : ChannelId) (e : Exit) : Report :=
  .sound ch e.req.pattern e.req.priority e.req.mode e.repeats e.cause

/-- R169: each request of source LINK that leaves gets its report. -/
theorem Clp.exits_link {es : List Exit} (link : ∀ e ∈ es, e.req.source = .link) (l : Clp) :
    l.exits ch es = (es.map (Exit.report ch)).foldl (fun l r => l.raise r) l := by
  induction es generalizing l with
  | nil => rfl
  | cons e es ih =>
    have first : l.soundLeft ch e.cause e.req e.repeats = l.raise (e.report ch) := if_pos (link e (.head _))
    exact (congrArg (Clp.exits ch es) first).trans (ih (fun x mem => link x (.tail _ mem)) _)

theorem Channel.linkExits_link (c : Channel) : ∀ e ∈ c.linkExits, e.req.source = .link := by
  intro e mem
  rcases List.mem_append.mp mem with mem | mem
  · obtain ⟨r, hr, rfl⟩ := List.mem_map.mp mem
    exact of_decide_eq_true (List.mem_filter.mp hr).2
  · obtain ⟨sv, hsv, rfl⟩ := List.mem_map.mp mem
    exact of_decide_eq_true (p := sv.req.source = .link) (List.mem_filter.mp hsv).2

theorem Request.isLink_eq : Request.isLink = fun r => decide (r.source = .link) := rfl

theorem Channel.linkExits_length (c : Channel) : c.linkExits.length =
    c.queue.countP (fun r => decide (r.source = .link)) + c.stack.countP fun sv => decide (sv.req.source = .link) := by
  simp [Channel.linkExits, List.countP_eq_length_filter, Request.isLink_eq]

theorem Channel.withoutLink_eq (c : Channel) : c.withoutLink = { c with
    queue := c.queue.filter (fun r => decide (r.source ≠ .link))
    stack := c.stack.filter (fun sv => decide (sv.req.source ≠ .link)) } := by
  simp [Channel.withoutLink, Request.isLink]

/-- R168, R169: the reports of the LINK requests that wait or are saved. -/
theorem Channel.linkExits_reports (ch : ChannelId) (c : Channel) : c.linkExits.map (Exit.report ch) =
    (c.queue.filter (fun r => decide (r.source = .link))).map
      (fun r => Report.sound ch r.pattern r.priority r.mode 0 .stopped) ++
    (c.stack.filter (fun sv => decide (sv.req.source = .link))).map
      (fun sv => Report.sound ch sv.req.pattern sv.req.priority sv.req.mode sv.repeats .stopped) := by
  simp [Channel.linkExits, Function.comp_def, Exit.report, Request.isLink_eq]

/-- R168: a SOUND_STOP by which none but requests of source LINK leave. -/
theorem exec_soundStop_link {t : Nat} {tag channel : Byte} {d : Channel} {es : List Exit} {rs : List Report}
    (ready : LinkReady s) (named : channelOf channel = some ch)
    (stops : (s.atTime t).stopChannel ch = ((s.atTime t).left ch d es, es.length))
    (link : ∀ e ∈ es, e.req.source = .link) (reports : es.map (Exit.report ch) = rs) :
    ∃ s', exec (.soundStop t tag channel) s = .next s' ∧
      s' = { s with now := max s.now t, tnu := s'.tnu, clp := s'.clp } ∧
      (s'.tnu.channel ch).playing = d.playing ∧ (s'.tnu.channel ch).queue = d.queue ∧
      (s'.tnu.channel ch).stack = d.stack ∧
      s'.clp = { rs.foldl (fun l r => l.raise r) s.clp with
        outbound := (rs.foldl (fun l r => l.raise r) s.clp).outbound ++
          [replyFrame 0x0E tag (stopReply rs.length d)] } := by
  refine ⟨_, exec_soundStop ready named stops, rfl, ?_, ?_, ?_, ?_⟩
  · rw [Tnu.channel_setChannel, Channel.refresh_playing]
  · rw [Tnu.channel_setChannel, Channel.refresh_queue]
  · rw [Tnu.channel_setChannel, Channel.refresh_stack]
  · rw [Clp.exits_link link, reports, ← reports, List.length_map]

end Sys2Proof.Machine

open Sys2Proof Sys2Proof.Machine

/-- Settles O51: a request of source LINK arrives as any other, and a stop removes those of its channel. -/
theorem linkSounds : Obligations.LinkSounds := by
  intro t tag channel pattern priority mode s s' out ch m badMode ready which bad hm arrives
  refine ⟨fun high => ?_, fun low => ?_⟩
  · have none := channelOf_none high
    exact ⟨exec_answered rfl ready (State.soundStart_badChannel none),
      _, exec_answered rfl ready (State.soundStop_badChannel none _)⟩
  have named : channelOf channel = some ch := by
    refine channelOf_some ?_
    rcases which with is | is | is | high
    · exact .inl is
    · exact .inr (.inl is)
    · exact .inr (.inr is)
    · exact absurd low (Nat.not_le.mpr high)
  have modes := linkModeOf_eq mode
  rw [← hm] at modes
  refine ⟨fun high => ?_, fun known high => ?_, fun known le is => ?_, fun known le is empty => ?_,
    fun known le is loaded => ⟨fun full => ?_, fun inForce taken own kept => ?_⟩, ?_, ?_⟩
  · exact exec_answered rfl ready (State.soundStart_badPattern named high)
  · exact exec_answered rfl ready (State.soundStart_badPriority named known high)
  · rw [if_pos (bad.mp is)] at modes
    exact exec_answered rfl ready (State.soundStart_badMode named known le modes)
  · rw [if_neg (by simp [← bad, is])] at modes
    exact exec_answered rfl ready (State.soundStart_empty (s := s.atTime t) named known le modes empty)
  · rw [if_neg (by simp [← bad, is])] at modes
    exact exec_answered rfl ready (State.soundStart_full (s := s.atTime t) named known le modes loaded arrives full)
  · rw [if_neg (by simp [← bad, is])] at modes
    have run := State.soundStart_taken (s := s.atTime t) named known le modes loaded arrives taken
    have replies := State.requestSound_replies (ch := ch) (s := s.atTime t)
      { pattern := pattern.toNat, priority := min 5 priority.toNat, source := .link, mode := m, rank := 0 }
    rw [show (s.atTime t).requestSound ch _ = (s', out) from arrives] at replies
    refine (exec_replied (i := .soundStart t tag channel pattern priority mode) rfl ready run replies).trans ?_
    have stands := State.requestSound_inForce (s := s.atTime t) arrives own
      fun is => Channel.keptPriority_spec (kept is)
    rw [← stands]
  · rintro c before rs rfl all
    rw [← c.linkExits_reports ch]
    by_cases plays : ∃ p, c.playing = some p ∧ p.saved.req.source = .link
    · obtain ⟨p, playing, link⟩ := plays
      obtain ⟨queued, saved⟩ := all p playing link
      have gone : c.playing.filter (fun p => decide (p.saved.req.source ≠ .link)) = none :=
        Option.filter_eq_none_iff.mpr fun q hq => by
          cases playing.symm.trans hq
          simp [link]
      have leaving : c.playing.toList.filter (fun p => decide (p.saved.req.source = .link)) = [p] := by
        simp [playing, link]
      have stops := State.stopChannel_alone (s := s.atTime t) before playing link queued saved
      rw [Channel.withoutLink_eq] at stops
      rw [gone, leaving]
      exact exec_soundStop_link ready named stops
        (fun e mem => (List.mem_append.mp mem).elim (c.linkExits_link e) fun is => List.mem_singleton.mp is ▸ link)
        List.map_append
    · have other : ∀ p, c.playing = some p → p.saved.req.source ≠ .link :=
        fun p playing link => plays ⟨p, playing, link⟩
      have none : c.playing.toList.filter (fun p => decide (p.saved.req.source = .link)) = [] :=
        List.filter_eq_nil_iff.mpr fun p mem => by simp [other p (Option.mem_toList.mp mem)]
      have same : c.playing.filter (fun p => decide (p.saved.req.source ≠ .link)) = c.playing := by
        cases playing : c.playing with
        | none => rfl
        | some p => exact Option.filter_some_pos (decide_eq_true (other p playing))
      have stops := State.stopChannel_otherwise (s := s.atTime t) before other
      rw [Channel.withoutLink_eq] at stops
      rw [none, same, List.map_nil, List.append_nil]
      exact exec_soundStop_link ready named stops c.linkExits_link rfl
  · intro c before p playing link
    have stops := State.stopChannel_playing (s := s.atTime t) before playing link
    refine ⟨_, exec_soundStop ready named stops, rfl, ?_, ?_⟩
    · rw [← Channel.withoutLink_eq, State.endSound_playing (c := c.withoutLink) (p := p)
        (Tnu.channel_setChannel ..) playing ⟨link, rfl⟩, State.left_eq]
      simp only [Tnu.setChannel_setChannel, Tnu.setChannel_pattern]
      rfl
    · unfold Replied
      simp [c.linkExits_length, Tnu.channel_setChannel, stopReply]

end
